-- ==== Sys2Proof/Word.lean ====
section
/-!
DEFINITION. The words of the machine: bytes, halfwords and words (R102), and how a bit vector is read as a
number (R13).
-/

namespace Sys2Proof

/-- "Word A 32-bit data item." (R102) -/
abbrev Word := BitVec 32

/-- "Halfword A 16-bit data item." (R102) -/
abbrev Half := BitVec 16

/-- "Byte An 8-bit data item." (R102) -/
abbrev Byte := BitVec 8

end Sys2Proof
end

