-- ==== Sys2Proof/Config.lean ====
section
/-!
DEFINITION. What the implementation fixes, and the free values.  A free value is a constant with no body:
nothing proves what it is, so a claim that holds of the model holds whatever the hardware has there.  A
definition with a body holds a value the spec gives.
-/

namespace Sys2Proof

/-- The answer of an external coprocessor to one offer of an instruction (R386): `wait` is WAIT, `absent`
is ABSENT, `accept n` is the GO and LAST answers of a transfer of `n` words (`n` is read for LDC and STC
only). -/
inductive CpAnswer where
  | wait
  | absent
  | accept (n : Nat)
  deriving DecidableEq, Repr, Inhabited

namespace Config

/-- The `n`-th free word: an unpredictable or unspecified value (R19, R21; D16). -/
opaque freeWord : Nat → Word

/-- The `n`-th free choice of the write buffer and of the victim counters (R137, R154; D8, D9). -/
opaque freeChoice : Nat → Nat

/-- `LAYOUT_REV`, bits 3:0 of the ID code register (R9, R42; the spec leaves it OPEN). -/
opaque layoutRev : BitVec 4

/-- What the RANGE input of watchpoint unit 1 is connected to (R613: not stated). -/
opaque range1Input : Bool

/-- What the CHAIN input of watchpoint unit 1 is connected to (R613: not stated). -/
opaque chain1Input : Bool

/-- How a 26-bit TAG sits in the 27-bit field of scan chains 4 and 5 (R599: not settled; C8). -/
opaque camTag : BitVec 26 → BitVec 27

/-- What an external coprocessor answers: its number, the instruction, the privilege it sees on nCPTRANS,
its state, and the number of the offer, so that a WAIT can end (R386, R390). -/
opaque cpAnswer (cp : Nat) (w : Word) (privileged : Bool) (state n : Nat) : CpAnswer

/-- `CpCDP` (R381): the coprocessor's state after a data operation. -/
opaque cpCdp (cp : Nat) (w : Word) (state : Nat) : Nat

/-- `CpLoadWord` (R382): the coprocessor's state after word `k` of an LDC. -/
opaque cpLoadWord (cp : Nat) (w : Word) (k : Nat) (v : Word) (state : Nat) : Nat

/-- `CpStoreWord` (R383): word `k` of an STC. -/
opaque cpStoreWord (cp : Nat) (w : Word) (k state : Nat) : Word

/-- `CpMCR` (R384): the coprocessor's state after a register write. -/
opaque cpMcr (cp : Nat) (w : Word) (v : Word) (state : Nat) : Nat

/-- `CpMRC` (R385): the value a register read returns. -/
opaque cpMrc (cp : Nat) (w : Word) (state : Nat) : Word

/-- The ID code register but for its layout revision: implementer `0x41`, architecture `0x2`, part
`0x940` (R42). -/
def idCodeBase : Word := 0x41029400#32

/-- The cache type register (R43). -/
def cacheType : Word := 0x0F0F10F1#32

/-- The EmbeddedICE version in bits 31:28 of the comms control register (R61). -/
def iceVersion : BitVec 4 := 0b0010#4

end Config

end Sys2Proof
end

