-- ==== Sys2Proof/Machine/State.lean ====
section
/-!
DEFINITION. The state of the ARM940T (R30): the core registers, CP15, CP14, the caches, the write buffer,
the input pins, the waiting and debug conditions, the EmbeddedICE and TAP state, the state of external
coprocessors, external memory, and the model's own bookkeeping (the schedule of outside inputs and the
counter of free values).  All of it is plain data.
-/

namespace Sys2Proof.Machine

/-- The physical general registers (R31): R0 to R15 but the PC in 0 to 14, R8_fiq to R14_fiq in 15 to 21,
then R13 and R14 of IRQ (22, 23), Supervisor (24, 25), Abort (26, 27) and Undefined (28, 29). -/
abbrev RegFile := Vector Word 30

/-- One protection region register of CP15 register 6 (R50). -/
structure Region where
  /-- Bits 31:12, the base address. -/
  base : BitVec 20
  /-- Bits 5:1, the size code `N`: `2^(N+1)` bytes. -/
  size : BitVec 5
  /-- Bit 0. -/
  enable : Bool
  deriving DecidableEq, Repr

/-- One lockdown register of CP15 register 9 (R52). -/
structure Lockdown where
  /-- Bit 31, the Load bit. -/
  load : Bool
  /-- Bits 5:0, the cache index. -/
  index : BitVec 6
  deriving DecidableEq, Repr

/-- The registers of CP15 that hold state (R40 to R53). -/
structure Cp15 where
  /-- Register 1 bit 31: asynchronous clocking select (R45). -/
  iA : Bool
  /-- Register 1 bit 30: nFastBus select (R45). -/
  nF : Bool
  /-- Register 1 bit 13: high exception vectors (R44). -/
  v : Bool
  /-- Register 1 bit 12: ICache enable. -/
  i : Bool
  /-- Register 1 bit 7: big-endian operation. -/
  b : Bool
  /-- Register 1 bit 2: DCache enable. -/
  c : Bool
  /-- Register 1 bit 0: protection unit enable. -/
  p : Bool
  /-- Register 2, data cachable bits (R46). -/
  cachableD : BitVec 8
  /-- Register 2, instruction cachable bits (R46). -/
  cachableI : BitVec 8
  /-- Register 3, data bufferable bits (R47). -/
  bufferable : BitVec 8
  /-- Register 5, data access permissions (R49). -/
  apD : BitVec 16
  /-- Register 5, instruction access permissions (R49). -/
  apI : BitVec 16
  /-- Register 6, data regions 0 to 7 (R50). -/
  regionsD : Vector Region 8
  /-- Register 6, instruction regions 0 to 7 (R50). -/
  regionsI : Vector Region 8
  /-- Register 9, data lockdown (R52). -/
  lockD : Lockdown
  /-- Register 9, instruction lockdown (R52). -/
  lockI : Lockdown
  /-- Register 15 bit 3: ICache pseudo round-robin replacement (R53). -/
  itrRobin : Bool
  /-- Register 15 bit 2: DCache pseudo round-robin replacement (R53). -/
  dtrRobin : Bool
  deriving DecidableEq, Repr

/-- The debug communications channel, CP14 (R60, R61). -/
structure Dcc where
  /-- The comms data read register: what the debugger sent. -/
  readData : Word
  /-- The comms data write register: what the processor sent. -/
  writeData : Word
  /-- Bit W of the comms control register. -/
  w : Bool
  /-- Bit R of the comms control register. -/
  r : Bool
  deriving DecidableEq, Repr

/-- One cache line (R70, R130): the ICache never sets `dirty`. -/
structure Line where
  valid : Bool
  dirty : Bool
  tag : BitVec 26
  data : Vector Word 4
  deriving DecidableEq, Repr

/-- One cache: four segments of 64 lines and the target row counter (R70, R72, R130). -/
structure Cache where
  segs : Vector (Vector Line 64) 4
  /-- The target row counter: the line the last linefill overwrote (R72). -/
  victim : BitVec 6
  deriving DecidableEq, Repr

/-- One entry of the write buffer: an address slot with its data slots (R150).  `lanes` says which bytes of
the word a byte or halfword entry writes; word entries have all four. -/
structure WbEntry where
  addr : Word
  lanes : BitVec 4
  data : List Word
  deriving DecidableEq, Repr

/-- External memory: pairs of a byte cell and its byte, the cells strictly rising and no byte zero.  Cell
`4*w + k` holds bits `8*k+7 : 8*k` of word `w`, in both byte orders (R100, R104, R105). -/
abbrev Memory := List Host.Cell

/-- The kinds of external transfer (R100). -/
inductive BusKind where
  | fetch | read | write
  deriving DecidableEq, Repr

/-- The platform answers `kind` transfers to the addresses `first` to `last` with the error response
(`ExtAbort`, R100, R542). -/
structure BusError where
  first : Word
  last : Word
  kind : BusKind
  deriving DecidableEq, Repr

/-- The levels of the input pins (R73, R558, R613, R650 to R654); `true` is HIGH. -/
structure Pins where
  bnRES : Bool
  nFIQ : Bool
  nIRQ : Bool
  edbgrq : Bool
  iebkpt : Bool
  dewpt : Bool
  dbgen : Bool
  /-- Interrupts are synchronous to the clock; no functional effect (R9, R558). -/
  isync : Bool
  vinithi : Bool
  extern0 : Bool
  extern1 : Bool
  nTRST : Bool
  /-- `TAPID[31:0]`, the JTAG identification code (R9, R591). -/
  tapId : Word
  deriving DecidableEq, Repr

/-- What the outside does to the machine between two instructions. -/
inductive Input where
  /-- The input pins take these levels (R73; D14). -/
  | pins (p : Pins)
  /-- Another bus master or a device writes a byte cell of external memory (R100, R160). -/
  | busWrite (cell : Word) (v : Byte)
  /-- The platform's answers with the error response from now on (R100, R542). -/
  | busErrors (es : List BusError)
  /-- The handshake answers the external coprocessors will give, the next one first (R73, R386). -/
  | cpAnswers (as : List CpAnswer)
  /-- A whole instruction-register scan of the TAP ending in UPDATE-IR (R592). -/
  | scanIr (v : BitVec 4)
  /-- A whole data-register scan of the TAP ending in UPDATE-DR, with the value shifted in (R590 to
  R600). -/
  | scanDr (v : BitVec 67)
  /-- One pass through RUN-TEST/IDLE (R596, R604, R605). -/
  | runTestIdle
  deriving DecidableEq, Repr

/-- One EmbeddedICE watchpoint unit (R611 to R614). -/
structure Watchpoint where
  addrValue : Word
  addrMask : Word
  dataValue : Word
  dataMask : Word
  ctrlValue : BitVec 9
  ctrlMask : BitVec 8
  deriving DecidableEq, Repr

/-- The EmbeddedICE unit (R74, R610 to R619). -/
structure Ice where
  /-- Debug control: bit 3 single step, 2 INTDIS, 1 DBGRQ, 0 DBGACK (R615). -/
  ctrl : BitVec 4
  /-- Vector catch control (R617). -/
  vectorCatch : BitVec 8
  wp0 : Watchpoint
  wp1 : Watchpoint
  /-- The CHAINOUT latch of watchpoint unit 1 (R613). -/
  chainOut : Bool
  /-- The SYSCOMP signal: the system speed access has completed (R604, R616). -/
  sysComp : Bool
  /-- Debug status: the five bits last written by the debugger or last taken from the signals (R616). -/
  status : BitVec 5
  deriving DecidableEq, Repr

/-- The TAP and its scan chains (R74, R590 to R600), between two whole scans. -/
structure Tap where
  /-- The 4-bit instruction register. -/
  ir : BitVec 4
  /-- The scan path select register. -/
  chain : BitVec 5
  /-- What the last data-register scan shifted out on TDO. -/
  out : BitVec 67
  /-- What the last data-register scan shifted out on `SDIN` into an external scan chain (R595, R598). -/
  sdin : BitVec 67
  /-- Scan chain 1: the instruction data cells. -/
  instr : Word
  /-- Scan chain 1: SYSSPEED. -/
  sysSpeed : Bool
  /-- Scan chain 1: WPTANDBKPT. -/
  wptAndBkpt : Bool
  /-- Scan chain 1: DDEN. -/
  ddEn : Bool
  /-- Scan chain 1: the data data cells. -/
  dd : Word
  /-- The serial register of scan chain 2. -/
  scan2 : BitVec 38
  /-- The serial register of scan chain 4, the ICache CAM. -/
  scan4 : BitVec 29
  /-- The serial register of scan chain 5, the DCache CAM. -/
  scan5 : BitVec 29
  /-- The serial register of scan chain 15. -/
  scan15 : BitVec 39
  deriving DecidableEq, Repr

/-- How far a watchpoint has come (R583): `hit` by the running instruction, `armed` while the next one
completes. -/
inductive WatchPhase where
  | idle | hit | armed
  deriving DecidableEq, Repr

/-- The debug condition of the core (R73, R581) with what its pipeline holds in debug state. -/
structure DebugCore where
  /-- `DebugState`. -/
  active : Bool
  watch : WatchPhase
  /-- The instruction clocked in last, not yet executed (R604, R605). -/
  pending : Option Word
  /-- The next instruction clocked in is discarded: a branch has flushed the pipeline (R602). -/
  flush : Bool
  /-- A NOP with SYSSPEED HIGH was clocked in after it (R604, R605). -/
  armed : Bool
  /-- A system speed access is running (R604). -/
  system : Bool
  /-- Data words scanned in for a load at debug speed (R596). -/
  dataIn : List Word
  /-- Data words of a store at debug speed, not yet on the DD cells (R596). -/
  dataOut : List Word
  /-- How many more instruction fetches `DBGACK` masks after debug state has been left (R606). -/
  ackFetches : Nat
  deriving DecidableEq, Repr

/-- The state of the machine (R30). -/
structure State where
  /-- The thirty general registers of all modes (R31). -/
  regs : RegFile
  /-- R15: the address of the next instruction (R33). -/
  pc : Word
  /-- The current program status register (R34). -/
  cpsr : Word
  /-- SPSR_fiq (R36). -/
  spsrFiq : Word
  /-- SPSR_irq (R36). -/
  spsrIrq : Word
  /-- SPSR_svc (R36). -/
  spsrSvc : Word
  /-- SPSR_abt (R36). -/
  spsrAbt : Word
  /-- SPSR_und (R36). -/
  spsrUnd : Word
  /-- CP15 (R40). -/
  cp15 : Cp15
  /-- CP14 (R60). -/
  dcc : Dcc
  /-- The instruction cache (R70). -/
  icache : Cache
  /-- The data cache (R70). -/
  dcache : Cache
  /-- The write buffer, oldest entry first (R71, R150). -/
  wbuf : List WbEntry
  /-- `Waiting` (R73, R550). -/
  waiting : Bool
  /-- The coprocessor instruction that has been answered WAIT: the Execute stage holds it and offers it again in
  the next step (R386, R388). -/
  busy : Option Word
  /-- `BnRES` has been LOW and the reset entry is still to come (R540, R660). -/
  resetHeld : Bool
  /-- The output `INSTREXEC`: the last step ran an instruction that passed its condition (R653). -/
  instrExec : Bool
  /-- The input pins (R73). -/
  pins : Pins
  /-- EmbeddedICE (R74). -/
  ice : Ice
  /-- The TAP (R74). -/
  tap : Tap
  /-- The debug condition of the core (R73, R581). -/
  dbg : DebugCore
  /-- `ExtCoproc`: bit n says that coprocessor n is attached (R10). -/
  attached : BitVec 14
  /-- `CpState` of each external coprocessor, coded as a number (R381). -/
  cpState : Vector Nat 14
  /-- The handshake answers the coprocessors give to the next offers (`CHSDE`, `CHSEX`; R73, R386). -/
  cpAnswers : List CpAnswer
  /-- External memory (R100). -/
  mem : Memory
  /-- `ExtAbort` (R100). -/
  busErrors : List BusError
  /-- The parameter `WB_FIFO` (R154; D9). -/
  wbFifo : Bool
  /-- The parameter `WB_RAW_COHERENT` (R160; D9). -/
  wbRawCoherent : Bool
  /-- The model's own: what the outside will do, one list per step (D14). -/
  inputs : List (List Input)
  /-- The model's own: how many free values have been used. -/
  draws : Nat
  deriving DecidableEq, Repr

/-- Why the machine stops in a state the spec gives no behaviour to.  Each is safe: the model stops where
the hardware goes on in a way that the spec does not describe. -/
inductive Fault where
  /-- Two valid lines of a segment hold the address looked up (R133, S15).  Raised by every cache lookup.
  Safe. -/
  | cacheDoubleHit
  /-- An access is checked while an enabled region of its side is below 4KB or not aligned to its size
  (R111, S10).  Raised by every checked access.  Safe. -/
  | regionMalformed
  /-- A store to a noncachable nonbufferable region hit in the DCache and its external write was aborted, the
  combination that R146 and S14 refuse.  Raised by stores.  Safe. -/
  | abortedStoreHit
  deriving DecidableEq, Repr

/-- Why an instruction or a debugger operation has no meaning.  Each is safe: the spec calls the case
UNPREDICTABLE and gives it no effect. -/
inductive Refusal where
  /-- The model gives the instruction no meaning yet.  Raised by `exec` only. -/
  | notModelled (mnemonic : String)
  /-- `cond = 0b1111` (R204, U1).  Raised by the row `cond___1111`. -/
  | condNever
  /-- A should-be-zero or should-be-one field of a core instruction is violated (R237, U2). -/
  | shouldBe
  /-- R15 in a field that must not name it (R214, R280, R281, R306, R320, R329, R334, R384; U7, U9, U11, U14,
  U19). -/
  | r15Operand
  /-- Register fields that must differ are equal (R214, R215, R306, R320, R334, R476; U9, U11, U14). -/
  | registerClash
  /-- A data-processing result written to the PC in ARM state has bits 1:0 nonzero (R283, R284, U4). -/
  | pcUnaligned
  /-- An access to the SPSR, or an exception return, in a mode that has no SPSR (R36, R280, R281, R284, R353,
  R537; U5, U7). -/
  | noSpsr
  /-- A mode number that is none of the seven would reach the CPSR (R35, U6). -/
  | badMode
  /-- MSR would change the T bit (R281, U7). -/
  | msrThumb
  /-- A halfword access at an odd address (R107, U12). -/
  | oddHalfword
  /-- P = 0 with W = 1 in a halfword or signed-byte form (R215, U11). -/
  | indexMode
  /-- A form of a block transfer: empty list, R15 as base, the base in the list of a load with writeback or
  above the lowest of a store with writeback, the User bank with writeback or without a privileged mode of its
  own (R350 to R355, R504 to R507; U15, U21). -/
  | blockForm
  /-- BX to ARM state with bit 1 of the target set (R367, R482; U17). -/
  | bxTarget
  /-- A branch, or the sequence of instructions, passes the top of the address space (R33, R365; U18). -/
  | addressWrap
  /-- A form of Thumb format 5 that is UNPREDICTABLE (R236, R479 to R482; U20). -/
  | thumbHigh
  /-- A CP15 access that no row of R400 allows (R424, R425; S3, S5, S6). -/
  | cp15Reserved
  /-- An MCR or MRC of CP14 that is none of its three accesses (R433; S9, D33). -/
  | cp14Reserved
  /-- A value written to a CP15 register violates a should-be field (R403 to R423; S2). -/
  | cp15ShouldBe
  /-- The reserved clocking mode iA, nF = 10 would be written (R45, R403; S8). -/
  | clockMode
  /-- A cache would be enabled without the protection unit (R134, R139, R403; S12). -/
  | cacheUnprotected
  /-- An enabled region would be written below 4KB or not aligned to its size (R409; S10). -/
  | regionForm
  /-- An instruction scanned into debug state is none of those that can be inserted there: a coprocessor instruction,
  SWI or an undefined instruction (R586; S22). -/
  | debugInstruction
  /-- A TAP instruction, scan chain or EmbeddedICE address that is reserved (R592, R595, R611; S21, S23,
  S24). -/
  | debugPort
  deriving DecidableEq, Repr

/-- The outcome of a step of this machine. -/
abbrev Result := Host.Outcome State Fault Refusal

/-- An empty line; its tag and data have no reset value in the spec (DESIGN CHOICE, log 5). -/
def Line.empty : Line := { valid := false, dirty := false, tag := 0#26, data := Vector.replicate 4 0#32 }

/-- A cache after reset: every line invalid (R70, R663); the counter is the model's choice (log 5). -/
def Cache.empty : Cache := { segs := Vector.replicate 4 (Vector.replicate 64 Line.empty), victim := 0#6 }

/-- A region register after reset: disabled (R50); base and size are the model's choice (log 4). -/
def Region.reset : Region := { base := 0#20, size := 0#5, enable := false }

/-- CP15 after reset with `VINITHI` at level `v` (R54, R80, R662); register 5 and the base and size of
register 6 are the model's choice (DESIGN CHOICE, log 4). -/
def Cp15.reset (v : Bool) : Cp15 :=
  { iA := false, nF := false, v := v, i := false, b := false, c := false, p := false
    cachableD := 0#8, cachableI := 0#8, bufferable := 0#8, apD := 0#16, apI := 0#16
    regionsD := Vector.replicate 8 Region.reset, regionsI := Vector.replicate 8 Region.reset
    lockD := { load := false, index := 0#6 }, lockI := { load := false, index := 0#6 }
    itrRobin := false, dtrRobin := false }

/-- The pins at their inactive levels, `VINITHI` and `DBGEN` LOW (D3, D14, D15), `nTRST` HIGH, and `TAPID` at
its default (R9, R591). -/
def Pins.idle : Pins :=
  { bnRES := true, nFIQ := true, nIRQ := true, edbgrq := false, iebkpt := false, dewpt := false
    dbgen := false, isync := false, vinithi := false, extern0 := false, extern1 := false, nTRST := true
    tapId := 0x20940F0F#32 }

/-- A watchpoint unit whose registers the spec gives no reset value (DESIGN CHOICE, log 6). -/
def Watchpoint.reset : Watchpoint :=
  { addrValue := 0#32, addrMask := 0#32, dataValue := 0#32, dataMask := 0#32, ctrlValue := 0#9
    ctrlMask := 0#8 }

/-- The EmbeddedICE registers, whose reset values the spec does not give but for CHAINOUT (R611; DESIGN
CHOICE, log 6). -/
def Ice.reset : Ice :=
  { ctrl := 0#4, vectorCatch := 0#8, wp0 := Watchpoint.reset, wp1 := Watchpoint.reset, chainOut := false
    sysComp := false, status := 0#5 }

/-- The TAP after `nTRST`: IDCODE and scan chain 3 are selected (R590); the cells are the model's choice
(log 6). -/
def Tap.reset : Tap :=
  { ir := 0b1110#4, chain := 3#5, out := 0#67, sdin := 0#67, instr := 0#32, sysSpeed := false
    wptAndBkpt := false, ddEn := false, dd := 0#32, scan2 := 0#38, scan4 := 0#29, scan5 := 0#29, scan15 := 0#39 }

/-- The core out of debug state (R73, R540). -/
def DebugCore.idle : DebugCore :=
  { active := false, watch := .idle, pending := none, flush := false, armed := false, system := false
    dataIn := [], dataOut := [], ackFetches := 0 }

/-- The machine right after reset (R80, R540, R660 to R665): Supervisor mode, both interrupts disabled,
ARM state, the pc at the reset vector `0x00000000` (`VINITHI = 0`), CP15 cleared, caches and write buffer
empty.  The general registers, the flags and the SPSRs have no reset value in the spec and are zero here
(DESIGN CHOICE, log 3). -/
def State.reset : State :=
  { regs := Vector.replicate 30 0#32
    pc := 0#32
    cpsr := 0xD3#32
    spsrFiq := 0#32
    spsrIrq := 0#32
    spsrSvc := 0#32
    spsrAbt := 0#32
    spsrUnd := 0#32
    cp15 := Cp15.reset false
    dcc := { readData := 0#32, writeData := 0#32, w := false, r := false }
    icache := Cache.empty
    dcache := Cache.empty
    wbuf := []
    waiting := false
    busy := none
    resetHeld := false
    instrExec := false
    pins := Pins.idle
    ice := Ice.reset
    tap := Tap.reset
    dbg := DebugCore.idle
    attached := 0#14
    cpState := Vector.replicate 14 0
    cpAnswers := []
    mem := []
    busErrors := []
    wbFifo := true
    wbRawCoherent := true
    inputs := []
    draws := 0 }

end Sys2Proof.Machine
end

