-- ==== Sys2Proof/Machine/Memory.lean ====
section
/-!
DEFINITION. External memory as a list of byte cells in canonical form, words and their byte lanes (R100 to
R106).  An unlisted cell reads as zero (DESIGN CHOICE, log 2).
-/

namespace Sys2Proof.Machine

/-- What an unlisted cell of external memory reads as (DESIGN CHOICE, log 2: the platform's, R80). -/
def unlistedByte : Byte := 0#8

/-- The byte of cell `a`. -/
def memGet : Memory → Nat → Byte
  | [], _ => unlistedByte
  | (k, v) :: rest, a => if a = k then v else if a < k then unlistedByte else memGet rest a

/-- Memory with byte `v` in cell `a`, in canonical form. -/
def memSet : Memory → Nat → Byte → Memory
  | [], a, v => if v = unlistedByte then [] else [(a, v)]
  | (k, u) :: rest, a, v =>
    if a < k then
      if v = unlistedByte then (k, u) :: rest else (a, v) :: (k, u) :: rest
    else if a = k then
      if v = unlistedByte then rest else (a, v) :: rest
    else (k, u) :: memSet rest a v

/-- Every cell of the list lies above `lo`, the cells rise strictly, none is beyond the address space, and
none reads as an unlisted one does. -/
def memSortedAbove : Nat → Memory → Bool
  | _, [] => true
  | lo, (k, v) :: rest => decide (lo ≤ k) && decide (k < 2 ^ 32) && v != unlistedByte && memSortedAbove (k + 1) rest

/-- The canonical form of external memory: equal memories are equal lists. -/
def Memory.wf (m : Memory) : Bool := memSortedAbove 0 m

/-- The three sizes of a transfer (R102). -/
inductive Size where
  | byte | half | word
  deriving DecidableEq, Repr

/-- Bytes moved by a transfer (R102). -/
def Size.bytes : Size → Nat
  | .byte => 1
  | .half => 2
  | .word => 4

/-- The address of the word that holds the byte at `a` (R104). -/
def wordAddr (a : Word) : Word := a &&& 0xFFFFFFFC#32

/-- The lane of the least significant byte an access uses (R104 for B = 0, R105 for B = 1). -/
def laneOf (big : Bool) (sz : Size) (a : Word) : Nat :=
  match sz with
  | .byte => if big then 3 - (a.extractLsb' 0 2).toNat else (a.extractLsb' 0 2).toNat
  | .half => if big then 2 * (1 - (a.extractLsb' 1 1).toNat) else 2 * (a.extractLsb' 1 1).toNat
  | .word => 0

/-- The byte lanes of the word that an access uses: bit k is bits `8*k+7 : 8*k` (R104, R105). -/
def laneMask (big : Bool) (sz : Size) (a : Word) : BitVec 4 :=
  match sz with
  | .byte => 1#4 <<< laneOf big sz a
  | .half => 3#4 <<< laneOf big sz a
  | .word => 15#4

/-- The item an access of size `sz` at `a` takes out of its word, zero-extended (`Lanes`, R104, R105). -/
def lanesGet (big : Bool) (sz : Size) (a w : Word) : Word :=
  match sz with
  | .byte => (w >>> (8 * laneOf big sz a)) &&& 0xFF#32
  | .half => (w >>> (8 * laneOf big sz a)) &&& 0xFFFF#32
  | .word => w

/-- The item of a store moved to its lanes; the other lanes hold nothing of use (R104, R105). -/
def lanesPut (big : Bool) (sz : Size) (a v : Word) : Word := v <<< (8 * laneOf big sz a)

/-- Byte lane `k` of a word. -/
def byteOf (w : Word) (k : Nat) : Byte := w.extractLsb' (8 * k) 8

/-- A word with the lanes of `lanes` taken from `new` and the others from `old` (R104). -/
def mergeLanes (lanes : BitVec 4) (old new : Word) : Word :=
  (if lanes.getLsbD 3 then byteOf new 3 else byteOf old 3) ++
  (if lanes.getLsbD 2 then byteOf new 2 else byteOf old 2) ++
  (if lanes.getLsbD 1 then byteOf new 1 else byteOf old 1) ++
  (if lanes.getLsbD 0 then byteOf new 0 else byteOf old 0)

/-- The word of external memory that holds the byte at `a` (`ExtMem`, R100). -/
def memWord (m : Memory) (a : Word) : Word :=
  memGet m ((wordAddr a).toNat + 3) ++ memGet m ((wordAddr a).toNat + 2) ++
  memGet m ((wordAddr a).toNat + 1) ++ memGet m (wordAddr a).toNat

/-- External memory with the lanes of the word that holds the byte at `a` replaced (R104). -/
def memWrite (m : Memory) (a : Word) (lanes : BitVec 4) (v : Word) : Memory :=
  let put (k : Nat) (m : Memory) : Memory :=
    if lanes.getLsbD k then memSet m ((wordAddr a).toNat + k) (byteOf v k) else m
  put 3 (put 2 (put 1 (put 0 m)))

/-- The external access of this kind to this address is answered with the error response (`ExtAbort`,
R100, R542). -/
def extAbort (es : List BusError) (kind : BusKind) (a : Word) : Bool :=
  es.any fun e => e.kind == kind && decide (e.first.toNat ≤ a.toNat) && decide (a.toNat ≤ e.last.toNat)

end Sys2Proof.Machine
end

