-- ==== Sys2Proof/Machine/Registers.lean ====
section
/-!
DEFINITION. The banked registers, the status registers and the modes (R31 to R38): every read and write of
them goes through this file.
-/

namespace Sys2Proof.Machine

/-- User mode (R35). -/
def modeUsr : BitVec 5 := 0b10000#5
/-- FIQ mode (R35). -/
def modeFiq : BitVec 5 := 0b10001#5
/-- IRQ mode (R35). -/
def modeIrq : BitVec 5 := 0b10010#5
/-- Supervisor mode (R35). -/
def modeSvc : BitVec 5 := 0b10011#5
/-- Abort mode (R35). -/
def modeAbt : BitVec 5 := 0b10111#5
/-- Undefined mode (R35). -/
def modeUnd : BitVec 5 := 0b11011#5
/-- System mode (R35). -/
def modeSys : BitVec 5 := 0b11111#5

/-- The mode number is one of the seven (R35). -/
def modeLegal (m : BitVec 5) : Bool :=
  m == modeUsr || m == modeFiq || m == modeIrq || m == modeSvc || m == modeAbt || m == modeUnd || m == modeSys

/-- The mode has an SPSR (R35, R36). -/
def modeHasSpsr (m : BitVec 5) : Bool :=
  m == modeFiq || m == modeIrq || m == modeSvc || m == modeAbt || m == modeUnd

/-- `CPSR.M` (R34). -/
def State.mode (s : State) : BitVec 5 := s.cpsr.extractLsb' 0 5
/-- `CPSR.T` (R34, R37). -/
def State.thumb (s : State) : Bool := s.cpsr.getLsbD 5
/-- `CPSR.F`: FIQ disabled (R34). -/
def State.flagF (s : State) : Bool := s.cpsr.getLsbD 6
/-- `CPSR.I`: IRQ disabled (R34). -/
def State.flagI (s : State) : Bool := s.cpsr.getLsbD 7
/-- `CPSR.V` (R34). -/
def State.flagV (s : State) : Bool := s.cpsr.getLsbD 28
/-- `CPSR.C` (R34). -/
def State.flagC (s : State) : Bool := s.cpsr.getLsbD 29
/-- `CPSR.Z` (R34). -/
def State.flagZ (s : State) : Bool := s.cpsr.getLsbD 30
/-- `CPSR.N` (R34). -/
def State.flagN (s : State) : Bool := s.cpsr.getLsbD 31

/-- `Privileged()`: every mode but User (R35, R521). -/
def State.privileged (s : State) : Bool := s.mode != modeUsr

/-- The state with the condition flags replaced and the rest of the CPSR kept (R34). -/
def State.setFlags (s : State) (n z c v : Bool) : State :=
  { s with cpsr := BitVec.ofBool n ++ BitVec.ofBool z ++ BitVec.ofBool c ++ BitVec.ofBool v ++
      s.cpsr.extractLsb' 0 28 }

/-- The place of general register `i` (0 to 14) of mode `m` in the register file (R31). -/
def regIndex (m : BitVec 5) (i : BitVec 4) : Fin 30 :=
  if i.toNat < 8 then ⟨i.toNat % 30, Nat.mod_lt _ (by decide)⟩
  else if m == modeFiq then ⟨(i.toNat + 7) % 30, Nat.mod_lt _ (by decide)⟩
  else if i.toNat < 13 then ⟨i.toNat % 30, Nat.mod_lt _ (by decide)⟩
  else if m == modeIrq then ⟨(i.toNat + 9) % 30, Nat.mod_lt _ (by decide)⟩
  else if m == modeSvc then ⟨(i.toNat + 11) % 30, Nat.mod_lt _ (by decide)⟩
  else if m == modeAbt then ⟨(i.toNat + 13) % 30, Nat.mod_lt _ (by decide)⟩
  else if m == modeUnd then ⟨(i.toNat + 15) % 30, Nat.mod_lt _ (by decide)⟩
  else ⟨i.toNat % 30, Nat.mod_lt _ (by decide)⟩

/-- The value of register `i` (0 to 14) of mode `m` (R31). -/
def State.bankGet (s : State) (m : BitVec 5) (i : BitVec 4) : Word := s.regs[regIndex m i]

/-- The state with register `i` (0 to 14) of mode `m` replaced (R31). -/
def State.bankSet (s : State) (m : BitVec 5) (i : BitVec 4) (v : Word) : State :=
  { s with regs := s.regs.set (regIndex m i) v }

/-- What an instruction at `s.pc` reads as R15: two instructions ahead (R33). -/
def State.pcRead (s : State) : Word := if s.thumb then s.pc + 4#32 else s.pc + 8#32

/-- `x[i]` of the current mode; R15 reads as the address of the instruction plus 8, or 4 in Thumb state
(R14, R33). -/
def State.reg (s : State) (i : BitVec 4) : Word :=
  if i = 15#4 then s.pcRead else s.bankGet s.mode i

/-- `x[i] <- v` of the current mode, `i` in 0 to 14 (R14). -/
def State.setReg (s : State) (i : BitVec 4) (v : Word) : State := s.bankSet s.mode i v

/-- `x_usr[i]`: the User mode register (R14). -/
def State.userReg (s : State) (i : BitVec 4) : Word :=
  if i = 15#4 then s.pcRead else s.bankGet modeUsr i

/-- `x_usr[i] <- v`, `i` in 0 to 14 (R14). -/
def State.setUserReg (s : State) (i : BitVec 4) (v : Word) : State := s.bankSet modeUsr i v

/-- A Thumb register number as one of the low registers (R32). -/
def lowReg (r : BitVec 3) : BitVec 4 := 0#1 ++ r

/-- A Thumb register number with its H bit (R32, R220 format 5). -/
def highReg (h : BitVec 1) (r : BitVec 3) : BitVec 4 := h ++ r

/-- SPSR of mode `m`, or zero in a mode that has none (R36: callers ask `modeHasSpsr` first). -/
def State.spsrOf (s : State) (m : BitVec 5) : Word :=
  if m == modeFiq then s.spsrFiq
  else if m == modeIrq then s.spsrIrq
  else if m == modeSvc then s.spsrSvc
  else if m == modeAbt then s.spsrAbt
  else if m == modeUnd then s.spsrUnd
  else 0#32

/-- The state with the SPSR of mode `m` replaced; nothing in a mode that has none (R36). -/
def State.setSpsrOf (s : State) (m : BitVec 5) (v : Word) : State :=
  if m == modeFiq then { s with spsrFiq := v }
  else if m == modeIrq then { s with spsrIrq := v }
  else if m == modeSvc then { s with spsrSvc := v }
  else if m == modeAbt then { s with spsrAbt := v }
  else if m == modeUnd then { s with spsrUnd := v }
  else s

/-- A status word with its reserved bits 27:8 zero (R34; D29). -/
def statusClean (w : Word) : Word := w &&& 0xF00000FF#32

/-- A free word (R21), and the counter moved on. -/
def State.draw (s : State) : Word × State := (Config.freeWord s.draws, { s with draws := s.draws + 1 })

/-- `ilen` (R200). -/
def State.ilen (s : State) : Word := if s.thumb then 2#32 else 4#32

end Sys2Proof.Machine
end

