-- ==== Sys2Proof/Machine/Access.lean ====
section
/-!
DEFINITION. The access primitives of the memory system: the protection unit (R110 to R117, R144), the
caches (R130 to R138), the write buffer (R150 to R154), the EmbeddedICE comparators (R610 to R619), and the
load, store and fetch paths built on them (R140 to R149).
-/

namespace Sys2Proof.Machine

/-- The two sides of the memory system (R101, R110). -/
inductive Side where
  | instr | data
  deriving DecidableEq, Repr

/-- The outcome of an access: it completed, it raised an abort, or the state has no behaviour for it. -/
inductive Access (α : Type) where
  | done (v : α) (s : State)
  | abort (s : State)
  | fault (f : Fault)

/-! The protection unit. -/

/-- The bits of the base field that lie below the size of the region (R111). -/
def Region.lowBase (r : Region) : Word := (r.base ++ 0#12) &&& ((2#32 <<< r.size.toNat) - 1#32)

/-- The region is at least 4KB and aligned to its size (R50, R111). -/
def Region.formed (r : Region) : Bool := decide (11 ≤ r.size.toNat) && r.lowBase == 0#32

/-- `Match` (R111). -/
def Region.covers (r : Region) (a : Word) : Bool :=
  r.enable && (a >>> (r.size.toNat + 1) == (r.base ++ 0#12 : Word) >>> (r.size.toNat + 1))

/-- The region registers of a side (R110). -/
def Cp15.regions (c : Cp15) : Side → Vector Region 8
  | .instr => c.regionsI
  | .data => c.regionsD

/-- The permission bits of a side (R49). -/
def Cp15.ap (c : Cp15) : Side → BitVec 16
  | .instr => c.apI
  | .data => c.apD

/-- The cachable bits of a side (R46). -/
def Cp15.cachable (c : Cp15) : Side → BitVec 8
  | .instr => c.cachableI
  | .data => c.cachableD

/-- `Region(s, addr)`: the highest of the matching regions below `n` (R112). -/
def topRegion (rs : Vector Region 8) (a : Word) : Nat → Option (Fin 8)
  | 0 => none
  | n + 1 =>
    if h : n < 8 then
      if (rs[n]).covers a then some ⟨n, h⟩ else topRegion rs a n
    else topRegion rs a n

/-- The permission table (R114). -/
def permitted (ap : BitVec 2) (write privileged : Bool) : Bool :=
  match ap.toNat with
  | 0 => false
  | 1 => privileged
  | 2 => privileged || !write
  | _ => true

/-- The outcome of `CheckAccess` (R144): the cachable and bufferable attributes, an abort, or a region
register that has no behaviour. -/
inductive Check where
  | pass (cachable bufferable : Bool)
  | abort
  | fault (f : Fault)
  deriving DecidableEq, Repr

/-- `CheckAccess` (R144), with the malformed regions of R111. -/
def checkAccess (c : Cp15) (side : Side) (a : Word) (write privileged : Bool) : Check :=
  if !c.p then .pass false false
  else if (c.regions side).toList.any (fun r => r.enable && !r.formed) then .fault .regionMalformed
  else
    match topRegion (c.regions side) a 8 with
    | none => .abort
    | some n =>
      if permitted ((c.ap side).extractLsb' (2 * n.val) 2) write privileged then
        .pass ((c.cachable side).getLsbD n.val) (side == .data && c.bufferable.getLsbD n.val)
      else .abort

/-! The caches. -/

/-- `tag(addr)` (R131). -/
def tagOf (a : Word) : BitVec 26 := a.extractLsb' 6 26

/-- `seg(addr)` (R131). -/
def segOf (a : Word) : Fin 4 := ⟨(a.extractLsb' 4 2).toNat, (a.extractLsb' 4 2).isLt⟩

/-- `word(addr)` (R131). -/
def wordOf (a : Word) : Fin 4 := ⟨(a.extractLsb' 2 2).toNat, (a.extractLsb' 2 2).isLt⟩

/-- The address of the first word of the line of tag `t` in segment `g` (R131). -/
def lineAddr (t : BitVec 26) (g : Fin 4) : Word := t ++ BitVec.ofNat 2 g.val ++ 0#4

/-- A six-bit index as a line number (R130). -/
def lineIdx (i : BitVec 6) : Fin 64 := ⟨i.toNat, i.isLt⟩

/-- The line `idx` of segment `g` (R130). -/
def Cache.line (c : Cache) (g : Fin 4) (idx : Fin 64) : Line := (c.segs[g])[idx]

/-- The cache with one line replaced (R130). -/
def Cache.setLine (c : Cache) (g : Fin 4) (idx : Fin 64) (l : Line) : Cache :=
  { c with segs := c.segs.set g ((c.segs[g]).set idx l) }

/-- The outcome of a lookup (R133): none, one or more lines match. -/
inductive Lookup where
  | miss
  | hit (idx : Fin 64)
  | double
  deriving DecidableEq, Repr

/-- The line answers the lookup of tag `t` (R132, R133). -/
def Line.matches (l : Line) (t : BitVec 26) : Bool := l.valid && l.tag == t

/-- The lines of a segment that answer the lookup of `a` (R133). -/
def Cache.hits (c : Cache) (a : Word) : List (Fin 64) :=
  (List.finRange 64).filter fun i => (c.line (segOf a) i).matches (tagOf a)

/-- `Hit(c, addr)` (R133, S15). -/
def Cache.lookup (c : Cache) (a : Word) : Lookup :=
  match c.hits a with
  | [] => .miss
  | [i] => .hit i
  | _ => .double

/-! The write buffer. -/

/-- The data slots in use (R150). -/
def wbSlots (es : List WbEntry) : Nat := (es.map fun e => e.data.length).sum

/-- External memory after the words of an entry have been written to it, the first at `a` (R153). -/
def wbWriteWords (m : Memory) (a : Word) (lanes : BitVec 4) : List Word → Memory
  | [] => m
  | v :: rest => wbWriteWords (memWrite m a lanes v) (a + 4#32) lanes rest

/-- External memory after an entry has left the write buffer (R153); an error response is ignored
(R149). -/
def wbWrite (m : Memory) (e : WbEntry) : Memory := wbWriteWords m (wordAddr e.addr) e.lanes e.data

/-- Which entry leaves the write buffer next: the oldest under `WB_FIFO`, else a free choice (R154; D9). -/
def drainIndex (s : State) : Nat := if s.wbFifo then 0 else Config.freeChoice s.draws % s.wbuf.length

/-- One entry leaves the write buffer (R153, R154). -/
def drainOne (s : State) : State :=
  match s.wbuf with
  | [] => s
  | e :: rest =>
    if s.wbFifo then { s with wbuf := rest, mem := wbWrite s.mem e }
    else
      { s with
        wbuf := s.wbuf.eraseIdx (drainIndex s)
        mem := wbWrite s.mem ((s.wbuf[drainIndex s]?).getD e)
        draws := s.draws + 1 }

/-- `n` entries leave the write buffer. -/
def drainSome : Nat → State → State
  | 0, s => s
  | n + 1, s => drainSome n (drainOne s)

/-- `DrainWriteBuffer()` (R153). -/
def drainWriteBuffer (s : State) : State := drainSome s.wbuf.length s

/-- Some of the oldest entries of the write buffer leave it between instructions: how many is free (R154; D9,
log 25). -/
def backgroundDrain (s : State) : State :=
  if s.wbuf = [] then s
  else drainSome (Config.freeChoice s.draws % (s.wbuf.length + 1)) { s with draws := s.draws + 1 }

/-- The buffer has no room for `slots` data slots, or for an address slot if asked (R150). -/
def wbFull (slots : Nat) (newAddress : Bool) (s : State) : Bool :=
  (newAddress && decide (4 ≤ s.wbuf.length)) || decide (8 < wbSlots s.wbuf + slots)

/-- Entries leave the buffer until `slots` data slots, and an address slot if asked, are free (R150,
R152); `n` bounds how many. -/
def makeRoom (slots : Nat) (newAddress : Bool) : Nat → State → State
  | 0, s => s
  | n + 1, s => if wbFull slots newAddress s then makeRoom slots newAddress n (drainOne s) else s

/-- The newest entry is still in the buffer after room has been made for one data slot: none of the entries
that leave is it. -/
def newestStays : Nat → State → Bool
  | 0, _ => true
  | n + 1, s =>
    if wbFull 1 false s then drainIndex s + 1 != s.wbuf.length && newestStays n (drainOne s) else true

/-- A new entry of the write buffer (R151). -/
def wbNew (e : WbEntry) (s : State) : State :=
  let s := makeRoom e.data.length true s.wbuf.length s
  { s with wbuf := s.wbuf ++ [e] }

/-- `a` is the next word after the words of an entry, in the same 16 bytes (R151). -/
def wbJoins (e : WbEntry) (a : Word) : Bool :=
  e.addr + BitVec.ofNat 32 (4 * e.data.length) == a && a.extractLsb' 0 4 != 0#4

/-- A buffered store (`WBufPut`, R151).  `join` is set for the words of an STM after its first: such a word
shares the entry of the word before it, unless that has left the buffer, until the address crosses a multiple
of 16. -/
def wbPut (a : Word) (lanes : BitVec 4) (v : Word) (join : Bool) (s : State) : State :=
  let room := makeRoom 1 false s.wbuf.length s
  match join && newestStays s.wbuf.length s, room.wbuf.getLast? with
  | true, some e =>
    if wbJoins e a then { room with wbuf := room.wbuf.dropLast ++ [{ e with data := e.data ++ [v] }] }
    else wbNew { addr := a, lanes := lanes, data := [v] } s
  | _, _ => wbNew { addr := a, lanes := lanes, data := [v] } s

/-- A word of external memory as the data words of an entry, the first at `a`, will leave it. -/
def wbOverlayWords (a : Word) (lanes : BitVec 4) (target : Word) (old : Word) : List Word → Word
  | [] => old
  | v :: rest =>
    wbOverlayWords (a + 4#32) lanes target (if a = target then mergeLanes lanes old v else old) rest

/-- The word at `a` as a coherent reader sees it: external memory under the buffered stores, the newest
last (`WB_RAW_COHERENT`, R160). -/
def wbOverlay (es : List WbEntry) (a : Word) (old : Word) : Word :=
  es.foldl (fun w e => wbOverlayWords (wordAddr e.addr) e.lanes (wordAddr a) w e.data) old

/-! Linefills and evictions. -/

/-- `Evict` (R147): the four words of a line go to the write buffer. -/
def evict (l : Line) (g : Fin 4) (s : State) : State :=
  wbNew { addr := lineAddr l.tag g, lanes := 15#4, data := l.data.toList } s

/-- `Victim(c)` (R137): the index of the lockdown register when the Load bit is set, else a free choice
from there up. -/
def victimOf (l : Lockdown) (draws : Nat) : BitVec 6 :=
  if l.load then l.index
  else BitVec.ofNat 6 (l.index.toNat + Config.freeChoice draws % (64 - l.index.toNat))

/-- A word of a linefill on the data side: external memory, or what a coherent reader sees (R136,
R160). -/
def fillWordD (s : State) (a : Word) : Word :=
  if s.wbRawCoherent then wbOverlay s.wbuf a (memWord s.mem a) else memWord s.mem a

/-- The line filled from four words that `get` reads, lowest address first (R136). -/
def filledLine (get : Word → Word) (a : Word) : Line :=
  let a0 := a &&& 0xFFFFFFF0#32
  { valid := true, dirty := false, tag := tagOf a
    data := #v[get a0, get (a0 + 4#32), get (a0 + 8#32), get (a0 + 12#32)] }

/-- `Linefill(I, addr)` (R136): from external memory; stores still in the write buffer are not seen
(R163). -/
def linefillI (a : Word) (s : State) : State :=
  let v := victimOf s.cp15.lockI s.draws
  { s with
    icache := { s.icache.setLine (segOf a) (lineIdx v) (filledLine (memWord s.mem) a) with victim := v }
    draws := s.draws + 1 }

/-- `Linefill(D, addr)` (R136): a valid dirty victim is evicted first. -/
def linefillD (a : Word) (s : State) : State :=
  let v := victimOf s.cp15.lockD s.draws
  let old := s.dcache.line (segOf a) (lineIdx v)
  let s1 := { s with draws := s.draws + 1 }
  let s2 := if old.valid && old.dirty then evict old (segOf a) s1 else s1
  { s2 with
    dcache := { s2.dcache.setLine (segOf a) (lineIdx v) (filledLine (fillWordD s2) a) with victim := v } }

/-! The EmbeddedICE comparators. -/

/-- A watchpoint unit's address and control fields match (R619). -/
def Watchpoint.addrCtrl (w : Watchpoint) (a : Word) (ctrl : BitVec 8) : Bool :=
  (a ^^^ w.addrValue) &&& ~~~w.addrMask == 0#32 &&
    (ctrl ^^^ w.ctrlValue.extractLsb' 0 8) &&& ~~~w.ctrlMask &&& 0xF7#8 == 0#8

/-- A watchpoint unit's data field matches (R619). -/
def Watchpoint.dataOk (w : Watchpoint) (d : Word) : Bool := (d ^^^ w.dataValue) &&& ~~~w.dataMask == 0#32

/-- The unit watches this interface: bit 3 of the control value (R613, R614). -/
def Watchpoint.selects (w : Watchpoint) (side : Side) : Bool := w.ctrlValue.getLsbD 3 == (side == .data)

/-- The ENABLE bit (R613). -/
def Watchpoint.enabled (w : Watchpoint) : Bool := w.ctrlValue.getLsbD 8

/-- The eight control bits of R619 from their inputs and the five bits of the access. -/
def iceCtrl (range chain extern : Bool) (c : BitVec 5) : BitVec 8 :=
  BitVec.ofBool range ++ BitVec.ofBool chain ++ BitVec.ofBool extern ++ c

/-- The control bits of unit 1 on an access (R613; what its RANGE and CHAIN inputs carry is free). -/
def iceCtrl1 (s : State) (c : BitVec 5) : BitVec 8 :=
  iceCtrl Config.range1Input Config.chain1Input s.pins.extern1 c

/-- RANGEOUT of unit 1 on an access (R619). -/
def rangeOut1 (s : State) (side : Side) (a d : Word) (c : BitVec 5) : Bool :=
  s.ice.wp1.selects side && s.ice.wp1.addrCtrl a (iceCtrl1 s c) && s.ice.wp1.dataOk d

/-- The control bits of unit 0 on an access (R613): RANGEOUT and CHAINOUT of unit 1, and `EXTERN0`. -/
def iceCtrl0 (s : State) (side : Side) (a d : Word) (c : BitVec 5) : BitVec 8 :=
  iceCtrl (rangeOut1 s side a d c) s.ice.chainOut s.pins.extern0 c

/-- RANGEOUT of unit 0 on an access (R619). -/
def rangeOut0 (s : State) (side : Side) (a d : Word) (c : BitVec 5) : Bool :=
  s.ice.wp0.selects side && s.ice.wp0.addrCtrl a (iceCtrl0 s side a d c) && s.ice.wp0.dataOk d

/-- A watchpoint unit asserts its breakpoint signal on an access (R613, R619). -/
def iceMatch (s : State) (side : Side) (a d : Word) (c : BitVec 5) : Bool :=
  (s.ice.wp1.enabled && rangeOut1 s side a d c) || (s.ice.wp0.enabled && rangeOut0 s side a d c)

/-- The CHAINOUT latch after an access: written with the data comparison when address and control match, and
cleared while `nTRST` is LOW (R590, R613, R665). -/
def chainNext (s : State) (side : Side) (a d : Word) (c : BitVec 5) : Bool :=
  s.pins.nTRST &&
    if s.ice.wp1.selects side && s.ice.wp1.addrCtrl a (iceCtrl1 s c) then s.ice.wp1.dataOk d else s.ice.chainOut

/-- The watchpoint logic is working: `DBGEN` HIGH and not in debug state (R580).  So the comparators, the CHAINOUT
latch and the vector catch see nothing of a system speed access, which is made in debug state (R604 is silent;
DESIGN CHOICE, log 64). -/
def State.watching (s : State) : Bool := s.pins.dbgen && !s.dbg.active

/-- The five low control bits of a data access: DnTRANS, 1, DMAS, DnRW (R613). -/
def dataCtrl (sz : Size) (write privileged : Bool) : BitVec 5 :=
  BitVec.ofBool privileged ++ 1#1 ++
    (match sz with | .byte => 0b00#2 | .half => 0b01#2 | .word => 0b10#2) ++ BitVec.ofBool write

/-- A data access as the watchpoint logic sees it (R583, R610): a match, or `DEWPT`, is latched. -/
def watchData (a d : Word) (sz : Size) (write privileged : Bool) (s : State) : State :=
  if s.watching then
    let c := dataCtrl sz write privileged
    let hit := s.pins.dewpt || iceMatch s .data a d c
    { s with
      ice := { s.ice with chainOut := chainNext s .data a d c }
      dbg := { s.dbg with watch := if hit && s.dbg.watch == .idle then .hit else s.dbg.watch } }
  else s

/-- A read that is aborted as the watchpoint logic sees it: the data is a free word (R21; log 37). -/
def watchAborted (a : Word) (sz : Size) (privileged : Bool) (s : State) : State :=
  if s.watching then
    watchData a (Config.freeWord s.draws) sz false privileged { s with draws := s.draws + 1 }
  else s

/-! Loads and stores. -/

/-- Accesses go to the scan cells and not to memory: debug state, and not at system speed (R581, R603). -/
def State.debugSpeed (s : State) : Bool := s.dbg.active && !s.dbg.system

/-- A load at debug speed takes the next word scanned in (R596). -/
def debugLoad (a : Word) (sz : Size) (s : State) : Access Word :=
  .done (lanesGet s.cp15.b sz a (s.dbg.dataIn.headD s.tap.dd))
    { s with dbg := { s.dbg with dataIn := s.dbg.dataIn.tail } }

/-- A store at debug speed appears on the DD scan cells only (R596, R602). -/
def debugStore (v : Word) (s : State) : State :=
  { s with dbg := { s.dbg with dataOut := s.dbg.dataOut ++ [v] } }

/-- The path of `Load` after a passed check (R145): the word that holds `a`. -/
def loadWord (a : Word) (gcd : Bool) (s : State) : Access Word :=
  match if s.cp15.c then s.dcache.lookup a else .miss with
  | .double => .fault .cacheDoubleHit
  | .hit idx => .done ((s.dcache.line (segOf a) idx).data[wordOf a]) s
  | .miss =>
    if gcd then
      let s := linefillD a s
      .done ((s.dcache.line (segOf a) (lineIdx s.dcache.victim)).data[wordOf a]) s
    else
      let s := drainWriteBuffer s
      if extAbort s.busErrors .read a then .abort s else .done (memWord s.mem a) s

/-- `Load(addr, n, priv)` (R145): `a` is aligned to `sz`; the item is zero-extended. -/
def load (a : Word) (sz : Size) (privileged : Bool) (s : State) : Access Word :=
  if s.debugSpeed then debugLoad a sz s
  else
    match checkAccess s.cp15 .data a false privileged with
    | .fault f => .fault f
    | .abort => .abort (watchAborted a sz privileged s)
    | .pass cd _ =>
      match loadWord a (cd && s.cp15.c && s.cp15.p) s with
      | .fault f => .fault f
      | .abort s' => .abort (watchAborted a sz privileged s')
      | .done w s' =>
        let v := lanesGet s'.cp15.b sz a w
        .done v (watchData a v sz false privileged s')

/-- The DCache after a store hit (R146): the lanes are merged, and the line is marked dirty in a
write-back region. -/
def storeHit (a : Word) (lanes : BitVec 4) (v : Word) (dirty : Bool) (idx : Fin 64) (s : State) : State :=
  let l := s.dcache.line (segOf a) idx
  let l' : Line :=
    { l with
      data := l.data.set (wordOf a) (mergeLanes lanes (l.data[wordOf a]) v)
      dirty := l.dirty || dirty }
  { s with dcache := s.dcache.setLine (segOf a) idx l' }

/-- An unbuffered external write (R146 NCNB): the buffer drains first. -/
def storeExternal (a : Word) (lanes : BitVec 4) (v : Word) (s : State) : Access Unit :=
  let s := drainWriteBuffer s
  if extAbort s.busErrors .write a then .abort s
  else .done () { s with mem := memWrite s.mem a lanes v }

/-- The path of `Store` after a passed check (R146); `v` is in its lanes.  The one combination R146 refuses is an
NCNB store that hits and whose external write is aborted (S14). -/
def storeWord (a : Word) (lanes : BitVec 4) (v : Word) (gcd gbd join : Bool) (s : State) : Access Unit :=
  match if s.cp15.c then s.dcache.lookup a else .miss with
  | .double => .fault .cacheDoubleHit
  | .hit idx =>
    let s' := storeHit a lanes v (gcd && gbd) idx s
    if gcd && gbd then .done () s'
    else if gcd || gbd then .done () (wbPut a lanes v join s')
    else
      match storeExternal a lanes v s' with
      | .abort _ => .fault .abortedStoreHit
      | other => other
  | .miss =>
    if gcd || gbd then .done () (wbPut a lanes v join s) else storeExternal a lanes v s

/-- `Store(addr, n, v, priv)` (R146): `a` is aligned to `sz`.  `join` is set for the words of an STM after
its first (R151).  The lanes of a buffered byte or halfword are those of the byte order at the store, also where
the B bit changes before the entry leaves (R153 names the lanes only as it leaves; DESIGN CHOICE, log 62). -/
def store (a : Word) (sz : Size) (v : Word) (privileged join : Bool) (s : State) : Access Unit :=
  if s.debugSpeed then .done () (debugStore v s)
  else
    match checkAccess s.cp15 .data a true privileged with
    | .fault f => .fault f
    | .abort => .abort (watchData a v sz true privileged s)
    | .pass cd bd =>
      match storeWord a (laneMask s.cp15.b sz a) (lanesPut s.cp15.b sz a v)
          (cd && s.cp15.c && s.cp15.p) (bd && s.cp15.p) join s with
      | .fault f => .fault f
      | .abort s' => .abort (watchData a v sz true privileged s')
      | .done _ s' => .done () (watchData a v sz true privileged s')

/-- The read and the write of a swap as the watchpoint logic sees them (R583). -/
def watchSwap (a old v : Word) (sz : Size) (s : State) : State :=
  watchData a v sz true s.privileged (watchData a old sz false s.privileged s)

/-- The write of a swap to a noncachable region, in `t`, after the read of `old` (R162 (a), (b)): unbuffered and
abortable. -/
def swapWrite (a : Word) (sz : Size) (old v : Word) (t : State) : Access Word :=
  if extAbort t.busErrors .write a then .abort (watchSwap a old v sz t)
  else .done old (watchSwap a old v sz
    { t with mem := memWrite t.mem a (laneMask t.cp15.b sz a) (lanesPut t.cp15.b sz a v) })

/-- The two external transfers of a swap to a noncachable region (R162 (a), (b), R334), both abortable. -/
def swapBus (a : Word) (sz : Size) (v : Word) (s : State) : Access Word :=
  if extAbort s.busErrors .read a then .abort (watchAborted a sz s.privileged s)
  else swapWrite a sz (lanesGet s.cp15.b sz a (memWord s.mem a)) v s

/-- A swap to a noncachable region whose read hits a left-over line (R162): the line answers the read, the write
goes out unbuffered and is merged into the line as every store hit is (R146).  An aborted write is a Data Abort,
as for every swap to such a region (R334, R542); the line then keeps what it held (R336, R541; DEDUCED, log 56). -/
def swapLine (a : Word) (sz : Size) (v : Word) (idx : Fin 64) (s : State) : Access Word :=
  let old := lanesGet s.cp15.b sz a ((s.dcache.line (segOf a) idx).data[wordOf a])
  match swapWrite a sz old v s with
  | .done w t => .done w (storeHit a (laneMask t.cp15.b sz a) (lanesPut t.cp15.b sz a v) false idx t)
  | other => other

/-- The path of a swap to a noncachable region (R162 (a), (b)): the buffer drains, then the read and the write.
Whether the read of a line that was left over hits is not settled (R162: "possible"; R334 writes an external
read): a free bit decides (log 56). -/
def swapExternal (a : Word) (sz : Size) (v : Word) (s : State) : Access Word :=
  let s := drainWriteBuffer s
  match if s.cp15.c then s.dcache.lookup a else .miss with
  | .double => .fault .cacheDoubleHit
  | .hit idx =>
    if (Config.freeWord s.draws).getLsbD 0 then swapLine a sz v idx { s with draws := s.draws + 1 }
    else swapBus a sz v { s with draws := s.draws + 1 }
  | .miss => swapBus a sz v s

/-- The path of a swap to a cachable region (R162 (c)): a `Load`, then a `Store`. -/
def swapCached (a : Word) (sz : Size) (v : Word) (s : State) : Access Word :=
  match load a sz s.privileged s with
  | .done old s' =>
    match store a sz v s.privileged false s' with
    | .done _ s'' => .done old s''
    | .abort s'' => .abort s''
    | .fault f => .fault f
  | other => other

/-- The two accesses of SWP and SWPB (R162, R334): a read of the old value and a write of `v`.  Both
permission checks are made before either transfer. -/
def swapAccess (a : Word) (sz : Size) (v : Word) (s : State) : Access Word :=
  if s.debugSpeed then
    match debugLoad a sz s with
    | .done old s' => .done old (debugStore v s')
    | other => other
  else
    match checkAccess s.cp15 .data a false s.privileged, checkAccess s.cp15 .data a true s.privileged with
    | .fault f, _ => .fault f
    | _, .fault f => .fault f
    | .abort, _ => .abort (watchAborted a sz s.privileged s)
    | _, .abort => .abort (watchData a v sz true s.privileged s)
    | .pass cd _, .pass _ _ =>
      if cd && s.cp15.c && s.cp15.p then swapCached a sz v s else swapExternal a sz v s

/-! Instruction fetch. -/

/-- The word of a fetch at `a` after a passed check (R143, R135). -/
def fetchWord (a : Word) (gci : Bool) (s : State) : Access Word :=
  match if s.cp15.i then s.icache.lookup a else .miss with
  | .double => .fault .cacheDoubleHit
  | .hit idx => .done ((s.icache.line (segOf a) idx).data[wordOf a]) s
  | .miss =>
    if gci then
      let s := linefillI a s
      .done ((s.icache.line (segOf a) (lineIdx s.icache.victim)).data[wordOf a]) s
    else if extAbort s.busErrors .fetch a then .abort s
    else .done (memWord s.mem a) s

/-- `Fetch(addr, n)` at the pc (R143): the word, or in Thumb state the halfword of its lanes (R106).  An
abort marks the instruction (R115, R528). -/
def fetch (s : State) : Access Word :=
  match checkAccess s.cp15 .instr s.pc false s.privileged with
  | .fault f => .fault f
  | .abort => .abort s
  | .pass ci _ =>
    match fetchWord s.pc (ci && s.cp15.i && s.cp15.p) s with
    | .done w s' => .done (if s'.thumb then lanesGet s'.cp15.b .half s'.pc w else w) s'
    | other => other

end Sys2Proof.Machine
end

