-- ==== Sys2Proof/Machine/Flags.lean ====
section
/-!
DEFINITION. The condition test and the flag computations (R18, R203, R282).
-/

namespace Sys2Proof.Machine

/-- A result with the carry and the overflow an operation gives it. -/
structure FlagResult where
  value : Word
  c : Bool
  v : Bool
  deriving DecidableEq, Repr

/-- `AddWithCarry` (R18): the exact sums decide carry and overflow. -/
def addWithCarry (a b : Word) (carry : Bool) : FlagResult :=
  let r : Word := a + b + BitVec.zeroExtend 32 (BitVec.ofBool carry)
  { value := r
    c := decide (2 ^ 32 ≤ a.toNat + b.toNat + carry.toNat)
    v := decide (r.toInt ≠ a.toInt + b.toInt + carry.toNat) }

/-- A logical operation: carry from the shifter, overflow kept (R282). -/
def logicalResult (r : Word) (shifterCarry v : Bool) : FlagResult := { value := r, c := shifterCarry, v := v }

/-- N, Z, C and V from a result (R260). -/
def State.setFlagsOf (s : State) (f : FlagResult) : State :=
  s.setFlags (f.value.getLsbD 31) (f.value == 0#32) f.c f.v

/-- N and Z from a 32-bit result, C and V kept (R300, R459). -/
def State.setNZ (s : State) (r : Word) : State :=
  s.setFlags (r.getLsbD 31) (r == 0#32) s.flagC s.flagV

/-- `CondPassed(cond)` on the flags (R203); `0b1111` never passes (R204). -/
def condHolds (cond : BitVec 4) (n z c v : Bool) : Bool :=
  match cond.toNat with
  | 0 => z
  | 1 => !z
  | 2 => c
  | 3 => !c
  | 4 => n
  | 5 => !n
  | 6 => v
  | 7 => !v
  | 8 => c && !z
  | 9 => !c || z
  | 10 => n == v
  | 11 => n != v
  | 12 => !z && n == v
  | 13 => z || n != v
  | 14 => true
  | _ => false

/-- `CondPassed(cond)` in a state (R203). -/
def State.condPassed (s : State) (cond : BitVec 4) : Bool :=
  condHolds cond s.flagN s.flagZ s.flagC s.flagV

end Sys2Proof.Machine
end

