-- ==== Sys2Proof/Syntax.lean ====
section
/-!
DEFINITION. The syntax of the ARM940T's two instruction sets: one constructor per row of
spec/opcode_table.json, ARM rows first, then the CP15 and CP14 operations that refine MCR and MRC, then
the Thumb rows (prefix `t`).  Rows of one mnemonic that differ only in the form of their last operand are
one constructor over a type of operand forms, one form per row (Lean's runtime holds no type of as many
constructors as the table has rows).  Each operand is one field of the row's encoding, in the order in which the
encoding names it from its most significant bit (R201, R206, R220).  The SBZ and SBO fields are operands
too: they take no part in the decode, and the meaning judges them (R206, R237).
-/

namespace Sys2Proof

/-- The second operand of a data-processing instruction, one form per row: a rotated immediate (R210), a
register shifted by an immediate (R211), a register shifted by a register (R212). -/
inductive Operand2 where
  | imm (rot : BitVec 4) (imm8 : BitVec 8)
  | immShift (shiftImm : BitVec 5) (ty : BitVec 2) (rm : BitVec 4)
  | regShift (rs : BitVec 4) (ty : BitVec 2) (rm : BitVec 4)
  deriving DecidableEq, Repr

/-- The offset of a word or byte load or store, one form per row (R214). -/
inductive Offset2 where
  | imm (imm12 : BitVec 12)
  | reg (shiftImm : BitVec 5) (ty : BitVec 2) (rm : BitVec 4)
  deriving DecidableEq, Repr

/-- The offset of a halfword or signed-byte transfer, one form per row (R215). -/
inductive Offset3 where
  | imm (immH immL : BitVec 4)
  | reg (sbz rm : BitVec 4)
  deriving DecidableEq, Repr

/-- An instruction of the ARM940T: a row of the opcode table with the values of its fields. -/
inductive Instr where
  /-- ARM `cond___1111`, encoding `1111xxxxxxxxxxxxxxxxxxxxxxxxxxxx`, R204. -/
  | condNever (rest : BitVec 28)
  /-- ARM `AND`, encodings `cccc0010000Snnnnddddrrrriiiiiiii`, `cccc0000000Snnnnddddhhhhhtt0mmmm`, `cccc0000000Snnnnddddssss0tt1mmmm`, R264. -/
  | and (cond : BitVec 4) (s : BitVec 1) (rn : BitVec 4) (rd : BitVec 4) (op2 : Operand2)
  /-- ARM `EOR`, encodings `cccc0010001Snnnnddddrrrriiiiiiii`, `cccc0000001Snnnnddddhhhhhtt0mmmm`, `cccc0000001Snnnnddddssss0tt1mmmm`, R265. -/
  | eor (cond : BitVec 4) (s : BitVec 1) (rn : BitVec 4) (rd : BitVec 4) (op2 : Operand2)
  /-- ARM `SUB`, encodings `cccc0010010Snnnnddddrrrriiiiiiii`, `cccc0000010Snnnnddddhhhhhtt0mmmm`, `cccc0000010Snnnnddddssss0tt1mmmm`, R266. -/
  | sub (cond : BitVec 4) (s : BitVec 1) (rn : BitVec 4) (rd : BitVec 4) (op2 : Operand2)
  /-- ARM `RSB`, encodings `cccc0010011Snnnnddddrrrriiiiiiii`, `cccc0000011Snnnnddddhhhhhtt0mmmm`, `cccc0000011Snnnnddddssss0tt1mmmm`, R267. -/
  | rsb (cond : BitVec 4) (s : BitVec 1) (rn : BitVec 4) (rd : BitVec 4) (op2 : Operand2)
  /-- ARM `ADD`, encodings `cccc0010100Snnnnddddrrrriiiiiiii`, `cccc0000100Snnnnddddhhhhhtt0mmmm`, `cccc0000100Snnnnddddssss0tt1mmmm`, R268. -/
  | add (cond : BitVec 4) (s : BitVec 1) (rn : BitVec 4) (rd : BitVec 4) (op2 : Operand2)
  /-- ARM `ADC`, encodings `cccc0010101Snnnnddddrrrriiiiiiii`, `cccc0000101Snnnnddddhhhhhtt0mmmm`, `cccc0000101Snnnnddddssss0tt1mmmm`, R269. -/
  | adc (cond : BitVec 4) (s : BitVec 1) (rn : BitVec 4) (rd : BitVec 4) (op2 : Operand2)
  /-- ARM `SBC`, encodings `cccc0010110Snnnnddddrrrriiiiiiii`, `cccc0000110Snnnnddddhhhhhtt0mmmm`, `cccc0000110Snnnnddddssss0tt1mmmm`, R270. -/
  | sbc (cond : BitVec 4) (s : BitVec 1) (rn : BitVec 4) (rd : BitVec 4) (op2 : Operand2)
  /-- ARM `RSC`, encodings `cccc0010111Snnnnddddrrrriiiiiiii`, `cccc0000111Snnnnddddhhhhhtt0mmmm`, `cccc0000111Snnnnddddssss0tt1mmmm`, R271. -/
  | rsc (cond : BitVec 4) (s : BitVec 1) (rn : BitVec 4) (rd : BitVec 4) (op2 : Operand2)
  /-- ARM `TST`, encodings `cccc00110001nnnnddddrrrriiiiiiii`, `cccc00010001nnnnddddhhhhhtt0mmmm`, `cccc00010001nnnnddddssss0tt1mmmm`, R272. -/
  | tst (cond : BitVec 4) (rn : BitVec 4) (rd : BitVec 4) (op2 : Operand2)
  /-- ARM `TEQ`, encodings `cccc00110011nnnnddddrrrriiiiiiii`, `cccc00010011nnnnddddhhhhhtt0mmmm`, `cccc00010011nnnnddddssss0tt1mmmm`, R273. -/
  | teq (cond : BitVec 4) (rn : BitVec 4) (rd : BitVec 4) (op2 : Operand2)
  /-- ARM `CMP`, encodings `cccc00110101nnnnddddrrrriiiiiiii`, `cccc00010101nnnnddddhhhhhtt0mmmm`, `cccc00010101nnnnddddssss0tt1mmmm`, R274. -/
  | cmp (cond : BitVec 4) (rn : BitVec 4) (rd : BitVec 4) (op2 : Operand2)
  /-- ARM `CMN`, encodings `cccc00110111nnnnddddrrrriiiiiiii`, `cccc00010111nnnnddddhhhhhtt0mmmm`, `cccc00010111nnnnddddssss0tt1mmmm`, R275. -/
  | cmn (cond : BitVec 4) (rn : BitVec 4) (rd : BitVec 4) (op2 : Operand2)
  /-- ARM `ORR`, encodings `cccc0011100Snnnnddddrrrriiiiiiii`, `cccc0001100Snnnnddddhhhhhtt0mmmm`, `cccc0001100Snnnnddddssss0tt1mmmm`, R276. -/
  | orr (cond : BitVec 4) (s : BitVec 1) (rn : BitVec 4) (rd : BitVec 4) (op2 : Operand2)
  /-- ARM `MOV`, encodings `cccc0011101Snnnnddddrrrriiiiiiii`, `cccc0001101Snnnnddddhhhhhtt0mmmm`, `cccc0001101Snnnnddddssss0tt1mmmm`, R277. -/
  | mov (cond : BitVec 4) (s : BitVec 1) (rn : BitVec 4) (rd : BitVec 4) (op2 : Operand2)
  /-- ARM `BIC`, encodings `cccc0011110Snnnnddddrrrriiiiiiii`, `cccc0001110Snnnnddddhhhhhtt0mmmm`, `cccc0001110Snnnnddddssss0tt1mmmm`, R278. -/
  | bic (cond : BitVec 4) (s : BitVec 1) (rn : BitVec 4) (rd : BitVec 4) (op2 : Operand2)
  /-- ARM `MVN`, encodings `cccc0011111Snnnnddddrrrriiiiiiii`, `cccc0001111Snnnnddddhhhhhtt0mmmm`, `cccc0001111Snnnnddddssss0tt1mmmm`, R279. -/
  | mvn (cond : BitVec 4) (s : BitVec 1) (rn : BitVec 4) (rd : BitVec 4) (op2 : Operand2)
  /-- ARM `MRS`, encoding `cccc00010R00ooooddddzzzz0000yyyy`, R280. -/
  | mrs (cond : BitVec 4) (r : BitVec 1) (sbo : BitVec 4) (rd : BitVec 4) (sbzHi : BitVec 4) (sbzLo : BitVec 4)
  /-- ARM `MSR`, encoding `cccc00010R10ffffoooozzzz0000mmmm`, R281. -/
  | msrReg (cond : BitVec 4) (r : BitVec 1) (fieldMask : BitVec 4) (sbo : BitVec 4) (sbz : BitVec 4) (rm : BitVec 4)
  /-- ARM `MSR`, encoding `cccc00110R10ffffoooorrrriiiiiiii`, R281. -/
  | msrImm (cond : BitVec 4) (r : BitVec 1) (fieldMask : BitVec 4) (sbo : BitVec 4) (rot : BitVec 4) (imm8 : BitVec 8)
  /-- ARM `BX`, encoding `cccc00010010ooooppppqqqq0001mmmm`, R367. -/
  | bx (cond : BitVec 4) (sboA : BitVec 4) (sboB : BitVec 4) (sboC : BitVec 4) (rm : BitVec 4)
  /-- ARM `UNDEFINED`, encoding `cccc00110x00yyyyyyyyyyyyyyyyyyyy`, R369. -/
  | undControlImm (cond : BitVec 4) (x22 : BitVec 1) (rest : BitVec 20)
  /-- ARM `UNDEFINED`, encoding `cccc00010x00yyyyyyyyyyyy0001zzzz`, R369. -/
  | undControlOne (cond : BitVec 4) (x22 : BitVec 1) (rest : BitVec 12) (low : BitVec 4)
  /-- ARM `UNDEFINED`, encoding `cccc00010110yyyyyyyyyyyy0001zzzz`, R369. -/
  | undControlOneR (cond : BitVec 4) (rest : BitVec 12) (low : BitVec 4)
  /-- ARM `UNDEFINED`, encoding `cccc00010xx0yyyyyyyyyyyy01vwzzzz`, R369. -/
  | undControlHigh (cond : BitVec 4) (x22to21 : BitVec 2) (rest : BitVec 12) (x5 : BitVec 1) (x4 : BitVec 1) (low : BitVec 4)
  /-- ARM `UNDEFINED`, encoding `cccc00010xx0yyyyyyyyyyyy001wzzzz`, R369. -/
  | undControlLow (cond : BitVec 4) (x22to21 : BitVec 2) (rest : BitVec 12) (x4 : BitVec 1) (low : BitVec 4)
  /-- ARM `UNDEFINED`, encoding `cccc00010xx0yyyyyyyyyyyy1vv0zzzz`, R369. -/
  | undControlEven (cond : BitVec 4) (x22to21 : BitVec 2) (rest : BitVec 12) (x6to5 : BitVec 2) (low : BitVec 4)
  /-- ARM `MUL`, encoding `cccc0000000Sddddzzzzssss1001mmmm`, R300. -/
  | mul (cond : BitVec 4) (s : BitVec 1) (rd : BitVec 4) (sbz : BitVec 4) (rs : BitVec 4) (rm : BitVec 4)
  /-- ARM `MLA`, encoding `cccc0000001Sddddnnnnssss1001mmmm`, R301. -/
  | mla (cond : BitVec 4) (s : BitVec 1) (rd : BitVec 4) (rn : BitVec 4) (rs : BitVec 4) (rm : BitVec 4)
  /-- ARM `UMULL`, encoding `cccc0000100Shhhhllllssss1001mmmm`, R302. -/
  | umull (cond : BitVec 4) (s : BitVec 1) (rdHi : BitVec 4) (rdLo : BitVec 4) (rs : BitVec 4) (rm : BitVec 4)
  /-- ARM `UMLAL`, encoding `cccc0000101Shhhhllllssss1001mmmm`, R303. -/
  | umlal (cond : BitVec 4) (s : BitVec 1) (rdHi : BitVec 4) (rdLo : BitVec 4) (rs : BitVec 4) (rm : BitVec 4)
  /-- ARM `SMULL`, encoding `cccc0000110Shhhhllllssss1001mmmm`, R304. -/
  | smull (cond : BitVec 4) (s : BitVec 1) (rdHi : BitVec 4) (rdLo : BitVec 4) (rs : BitVec 4) (rm : BitVec 4)
  /-- ARM `SMLAL`, encoding `cccc0000111Shhhhllllssss1001mmmm`, R305. -/
  | smlal (cond : BitVec 4) (s : BitVec 1) (rdHi : BitVec 4) (rdLo : BitVec 4) (rs : BitVec 4) (rm : BitVec 4)
  /-- ARM `UNDEFINED`, encoding `cccc000001xxyyyyyyyyyyyy1001zzzz`, R369. -/
  | undMultiply (cond : BitVec 4) (x21to20 : BitVec 2) (rest : BitVec 12) (low : BitVec 4)
  /-- ARM `SWP`, encoding `cccc00010000nnnnddddzzzz1001mmmm`, R334. -/
  | swp (cond : BitVec 4) (rn : BitVec 4) (rd : BitVec 4) (sbz : BitVec 4) (rm : BitVec 4)
  /-- ARM `SWPB`, encoding `cccc00010100nnnnddddzzzz1001mmmm`, R335. -/
  | swpb (cond : BitVec 4) (rn : BitVec 4) (rd : BitVec 4) (sbz : BitVec 4) (rm : BitVec 4)
  /-- ARM `UNDEFINED`, encoding `cccc00011xxxyyyyyyyyyyyy1001zzzz`, R369. -/
  | undSwapHigh (cond : BitVec 4) (x22to20 : BitVec 3) (rest : BitVec 12) (low : BitVec 4)
  /-- ARM `UNDEFINED`, encoding `cccc00010xx1yyyyyyyyyyyy1001zzzz`, R369. -/
  | undSwapOdd (cond : BitVec 4) (x22to21 : BitVec 2) (rest : BitVec 12) (low : BitVec 4)
  /-- ARM `UNDEFINED`, encoding `cccc00010x10yyyyyyyyyyyy1001zzzz`, R369. -/
  | undSwapEven (cond : BitVec 4) (x22 : BitVec 1) (rest : BitVec 12) (low : BitVec 4)
  /-- ARM `STRH`, encodings `cccc000PU0W0nnnnddddzzzz1011mmmm`, `cccc000PU1W0nnnnddddhhhh1011llll`, R331. -/
  | strh (cond : BitVec 4) (p : BitVec 1) (u : BitVec 1) (w : BitVec 1) (rn : BitVec 4) (rd : BitVec 4) (off : Offset3)
  /-- ARM `LDRH`, encodings `cccc000PU0W1nnnnddddzzzz1011mmmm`, `cccc000PU1W1nnnnddddhhhh1011llll`, R330. -/
  | ldrh (cond : BitVec 4) (p : BitVec 1) (u : BitVec 1) (w : BitVec 1) (rn : BitVec 4) (rd : BitVec 4) (off : Offset3)
  /-- ARM `LDRSB`, encodings `cccc000PU0W1nnnnddddzzzz1101mmmm`, `cccc000PU1W1nnnnddddhhhh1101llll`, R332. -/
  | ldrsb (cond : BitVec 4) (p : BitVec 1) (u : BitVec 1) (w : BitVec 1) (rn : BitVec 4) (rd : BitVec 4) (off : Offset3)
  /-- ARM `LDRSH`, encodings `cccc000PU0W1nnnnddddzzzz1111mmmm`, `cccc000PU1W1nnnnddddhhhh1111llll`, R333. -/
  | ldrsh (cond : BitVec 4) (p : BitVec 1) (u : BitVec 1) (w : BitVec 1) (rn : BitVec 4) (rd : BitVec 4) (off : Offset3)
  /-- ARM `UNDEFINED`, encoding `cccc000xxxx0yyyyyyyyyyyy11v1zzzz`, R369. -/
  | undSignedStore (cond : BitVec 4) (x24to21 : BitVec 4) (rest : BitVec 12) (x5 : BitVec 1) (low : BitVec 4)
  /-- ARM `LDR`, encodings `cccc0101U0W1nnnnddddiiiiiiiiiiii`, `cccc0111U0W1nnnnddddhhhhhtt0mmmm`, R321. -/
  | ldr (cond : BitVec 4) (u : BitVec 1) (w : BitVec 1) (rn : BitVec 4) (rd : BitVec 4) (off : Offset2)
  /-- ARM `LDR`, encodings `cccc0100U001nnnnddddiiiiiiiiiiii`, `cccc0110U001nnnnddddhhhhhtt0mmmm`, R321. -/
  | ldrPost (cond : BitVec 4) (u : BitVec 1) (rn : BitVec 4) (rd : BitVec 4) (off : Offset2)
  /-- ARM `LDRT`, encodings `cccc0100U011nnnnddddiiiiiiiiiiii`, `cccc0110U011nnnnddddhhhhhtt0mmmm`, R325. -/
  | ldrt (cond : BitVec 4) (u : BitVec 1) (rn : BitVec 4) (rd : BitVec 4) (off : Offset2)
  /-- ARM `STR`, encodings `cccc0101U0W0nnnnddddiiiiiiiiiiii`, `cccc0111U0W0nnnnddddhhhhhtt0mmmm`, R322. -/
  | str (cond : BitVec 4) (u : BitVec 1) (w : BitVec 1) (rn : BitVec 4) (rd : BitVec 4) (off : Offset2)
  /-- ARM `STR`, encodings `cccc0100U000nnnnddddiiiiiiiiiiii`, `cccc0110U000nnnnddddhhhhhtt0mmmm`, R322. -/
  | strPost (cond : BitVec 4) (u : BitVec 1) (rn : BitVec 4) (rd : BitVec 4) (off : Offset2)
  /-- ARM `STRT`, encodings `cccc0100U010nnnnddddiiiiiiiiiiii`, `cccc0110U010nnnnddddhhhhhtt0mmmm`, R326. -/
  | strt (cond : BitVec 4) (u : BitVec 1) (rn : BitVec 4) (rd : BitVec 4) (off : Offset2)
  /-- ARM `LDRB`, encodings `cccc0101U1W1nnnnddddiiiiiiiiiiii`, `cccc0111U1W1nnnnddddhhhhhtt0mmmm`, R323. -/
  | ldrb (cond : BitVec 4) (u : BitVec 1) (w : BitVec 1) (rn : BitVec 4) (rd : BitVec 4) (off : Offset2)
  /-- ARM `LDRB`, encodings `cccc0100U101nnnnddddiiiiiiiiiiii`, `cccc0110U101nnnnddddhhhhhtt0mmmm`, R323. -/
  | ldrbPost (cond : BitVec 4) (u : BitVec 1) (rn : BitVec 4) (rd : BitVec 4) (off : Offset2)
  /-- ARM `LDRBT`, encodings `cccc0100U111nnnnddddiiiiiiiiiiii`, `cccc0110U111nnnnddddhhhhhtt0mmmm`, R327. -/
  | ldrbt (cond : BitVec 4) (u : BitVec 1) (rn : BitVec 4) (rd : BitVec 4) (off : Offset2)
  /-- ARM `STRB`, encodings `cccc0101U1W0nnnnddddiiiiiiiiiiii`, `cccc0111U1W0nnnnddddhhhhhtt0mmmm`, R324. -/
  | strb (cond : BitVec 4) (u : BitVec 1) (w : BitVec 1) (rn : BitVec 4) (rd : BitVec 4) (off : Offset2)
  /-- ARM `STRB`, encodings `cccc0100U100nnnnddddiiiiiiiiiiii`, `cccc0110U100nnnnddddhhhhhtt0mmmm`, R324. -/
  | strbPost (cond : BitVec 4) (u : BitVec 1) (rn : BitVec 4) (rd : BitVec 4) (off : Offset2)
  /-- ARM `STRBT`, encodings `cccc0100U110nnnnddddiiiiiiiiiiii`, `cccc0110U110nnnnddddhhhhhtt0mmmm`, R328. -/
  | strbt (cond : BitVec 4) (u : BitVec 1) (rn : BitVec 4) (rd : BitVec 4) (off : Offset2)
  /-- ARM `UNDEFINED`, encoding `cccc011xxxxxxxxxxxxxxxxxxxx1zzzz`, R369. -/
  | undSpace (cond : BitVec 4) (rest : BitVec 20) (low : BitVec 4)
  /-- ARM `LDM`, encoding `cccc100PU0W1nnnnrrrrrrrrrrrrrrrr`, R351. -/
  | ldm (cond : BitVec 4) (p : BitVec 1) (u : BitVec 1) (w : BitVec 1) (rn : BitVec 4) (regList : BitVec 16)
  /-- ARM `LDM`, encoding `cccc100PU1W1nnnn0qqqqqqqqqqqqqqq`, R352. -/
  | ldmUser (cond : BitVec 4) (p : BitVec 1) (u : BitVec 1) (w : BitVec 1) (rn : BitVec 4) (regList : BitVec 15)
  /-- ARM `LDM`, encoding `cccc100PU1W1nnnn1qqqqqqqqqqqqqqq`, R353. -/
  | ldmRestore (cond : BitVec 4) (p : BitVec 1) (u : BitVec 1) (w : BitVec 1) (rn : BitVec 4) (regList : BitVec 15)
  /-- ARM `STM`, encoding `cccc100PU0W0nnnnrrrrrrrrrrrrrrrr`, R354. -/
  | stm (cond : BitVec 4) (p : BitVec 1) (u : BitVec 1) (w : BitVec 1) (rn : BitVec 4) (regList : BitVec 16)
  /-- ARM `STM`, encoding `cccc100PU1W0nnnnrrrrrrrrrrrrrrrr`, R355. -/
  | stmUser (cond : BitVec 4) (p : BitVec 1) (u : BitVec 1) (w : BitVec 1) (rn : BitVec 4) (regList : BitVec 16)
  /-- ARM `B`, encoding `cccc1010iiiiiiiiiiiiiiiiiiiiiiii`, R365. -/
  | b (cond : BitVec 4) (imm24 : BitVec 24)
  /-- ARM `BL`, encoding `cccc1011iiiiiiiiiiiiiiiiiiiiiiii`, R366. -/
  | bl (cond : BitVec 4) (imm24 : BitVec 24)
  /-- ARM `LDC`, encoding `cccc1101UNW1nnnnddddppppiiiiiiii`, R382. -/
  | ldcPre (cond : BitVec 4) (u : BitVec 1) (n : BitVec 1) (w : BitVec 1) (rn : BitVec 4) (crd : BitVec 4) (cpNum : BitVec 4) (imm8 : BitVec 8)
  /-- ARM `LDC`, encoding `cccc11001NW1nnnnddddppppiiiiiiii`, R382. -/
  | ldcUp (cond : BitVec 4) (n : BitVec 1) (w : BitVec 1) (rn : BitVec 4) (crd : BitVec 4) (cpNum : BitVec 4) (imm8 : BitVec 8)
  /-- ARM `LDC`, encoding `cccc11000N11nnnnddddppppiiiiiiii`, R382. -/
  | ldcDown (cond : BitVec 4) (n : BitVec 1) (rn : BitVec 4) (crd : BitVec 4) (cpNum : BitVec 4) (imm8 : BitVec 8)
  /-- ARM `STC`, encoding `cccc1101UNW0nnnnddddppppiiiiiiii`, R383. -/
  | stcPre (cond : BitVec 4) (u : BitVec 1) (n : BitVec 1) (w : BitVec 1) (rn : BitVec 4) (crd : BitVec 4) (cpNum : BitVec 4) (imm8 : BitVec 8)
  /-- ARM `STC`, encoding `cccc11001NW0nnnnddddppppiiiiiiii`, R383. -/
  | stcUp (cond : BitVec 4) (n : BitVec 1) (w : BitVec 1) (rn : BitVec 4) (crd : BitVec 4) (cpNum : BitVec 4) (imm8 : BitVec 8)
  /-- ARM `STC`, encoding `cccc11000N10nnnnddddppppiiiiiiii`, R383. -/
  | stcDown (cond : BitVec 4) (n : BitVec 1) (rn : BitVec 4) (crd : BitVec 4) (cpNum : BitVec 4) (imm8 : BitVec 8)
  /-- ARM `UNDEFINED`, encoding `cccc11000x0yzzzzzzzzzzzzzzzzzzzz`, R369. -/
  | undCoproc (cond : BitVec 4) (n : BitVec 1) (l : BitVec 1) (rest : BitVec 20)
  /-- ARM `CDP`, encoding `cccc1110oooonnnnddddppppqqq0mmmm`, R381. -/
  | cdp (cond : BitVec 4) (opcode1 : BitVec 4) (crn : BitVec 4) (crd : BitVec 4) (cpNum : BitVec 4) (opcode2 : BitVec 3) (crm : BitVec 4)
  /-- ARM `MCR`, encoding `cccc1110ooo0nnnnddddppppqqq1mmmm`, R384. -/
  | mcr (cond : BitVec 4) (opcode1 : BitVec 3) (crn : BitVec 4) (rd : BitVec 4) (cpNum : BitVec 4) (opcode2 : BitVec 3) (crm : BitVec 4)
  /-- ARM `MRC`, encoding `cccc1110ooo1nnnnddddppppqqq1mmmm`, R385. -/
  | mrc (cond : BitVec 4) (opcode1 : BitVec 3) (crn : BitVec 4) (rd : BitVec 4) (cpNum : BitVec 4) (opcode2 : BitVec 3) (crm : BitVec 4)
  /-- ARM `SWI`, encoding `cccc1111iiiiiiiiiiiiiiiiiiiiiiii`, R368. -/
  | swi (cond : BitVec 4) (imm24 : BitVec 24)
  /-- ARM `MRC_p15_0_Rd_c0_c0_0__ID_code`, encoding `cccc111000010000dddd111100010000`, R401. -/
  | mrcP15c0c0o0 (cond : BitVec 4) (rd : BitVec 4)
  /-- ARM `MRC_p15_0_Rd_c0_c0_2__ID_code`, encoding `cccc111000010000dddd111101010000`, R401. -/
  | mrcP15c0c0o2 (cond : BitVec 4) (rd : BitVec 4)
  /-- ARM `MRC_p15_0_Rd_c0_c0_3__ID_code`, encoding `cccc111000010000dddd111101110000`, R401. -/
  | mrcP15c0c0o3 (cond : BitVec 4) (rd : BitVec 4)
  /-- ARM `MRC_p15_0_Rd_c0_c0_4__ID_code`, encoding `cccc111000010000dddd111110010000`, R401. -/
  | mrcP15c0c0o4 (cond : BitVec 4) (rd : BitVec 4)
  /-- ARM `MRC_p15_0_Rd_c0_c0_5__ID_code`, encoding `cccc111000010000dddd111110110000`, R401. -/
  | mrcP15c0c0o5 (cond : BitVec 4) (rd : BitVec 4)
  /-- ARM `MRC_p15_0_Rd_c0_c0_6__ID_code`, encoding `cccc111000010000dddd111111010000`, R401. -/
  | mrcP15c0c0o6 (cond : BitVec 4) (rd : BitVec 4)
  /-- ARM `MRC_p15_0_Rd_c0_c0_7__ID_code`, encoding `cccc111000010000dddd111111110000`, R401. -/
  | mrcP15c0c0o7 (cond : BitVec 4) (rd : BitVec 4)
  /-- ARM `MRC_p15_0_Rd_c0_c0_1__cache_type`, encoding `cccc111000010000dddd111100110000`, R402. -/
  | mrcP15c0c0o1 (cond : BitVec 4) (rd : BitVec 4)
  /-- ARM `MRC_p15_0_Rd_c1_c0_0__control`, encoding `cccc111000010001dddd111100010000`, R403. -/
  | mrcP15c1c0o0 (cond : BitVec 4) (rd : BitVec 4)
  /-- ARM `MRC_p15_0_Rd_c2_c0_0__data_cachable_bits`, encoding `cccc111000010010dddd111100010000`, R404. -/
  | mrcP15c2c0o0 (cond : BitVec 4) (rd : BitVec 4)
  /-- ARM `MRC_p15_0_Rd_c2_c0_1__instruction_cachable_bits`, encoding `cccc111000010010dddd111100110000`, R405. -/
  | mrcP15c2c0o1 (cond : BitVec 4) (rd : BitVec 4)
  /-- ARM `MRC_p15_0_Rd_c3_c0_0__write_buffer_control`, encoding `cccc111000010011dddd111100010000`, R406. -/
  | mrcP15c3c0o0 (cond : BitVec 4) (rd : BitVec 4)
  /-- ARM `MRC_p15_0_Rd_c5_c0_0__data_access_permissions`, encoding `cccc111000010101dddd111100010000`, R407. -/
  | mrcP15c5c0o0 (cond : BitVec 4) (rd : BitVec 4)
  /-- ARM `MRC_p15_0_Rd_c5_c0_1__instruction_access_permissions`, encoding `cccc111000010101dddd111100110000`, R408. -/
  | mrcP15c5c0o1 (cond : BitVec 4) (rd : BitVec 4)
  /-- ARM `MRC_p15_0_Rd_c6_c0_0__data_region_0`, encoding `cccc111000010110dddd111100010000`, R409. -/
  | mrcP15c6c0o0 (cond : BitVec 4) (rd : BitVec 4)
  /-- ARM `MRC_p15_0_Rd_c6_c0_1__instruction_region_0`, encoding `cccc111000010110dddd111100110000`, R410. -/
  | mrcP15c6c0o1 (cond : BitVec 4) (rd : BitVec 4)
  /-- ARM `MRC_p15_0_Rd_c6_c1_0__data_region_1`, encoding `cccc111000010110dddd111100010001`, R409. -/
  | mrcP15c6c1o0 (cond : BitVec 4) (rd : BitVec 4)
  /-- ARM `MRC_p15_0_Rd_c6_c1_1__instruction_region_1`, encoding `cccc111000010110dddd111100110001`, R410. -/
  | mrcP15c6c1o1 (cond : BitVec 4) (rd : BitVec 4)
  /-- ARM `MRC_p15_0_Rd_c6_c2_0__data_region_2`, encoding `cccc111000010110dddd111100010010`, R409. -/
  | mrcP15c6c2o0 (cond : BitVec 4) (rd : BitVec 4)
  /-- ARM `MRC_p15_0_Rd_c6_c2_1__instruction_region_2`, encoding `cccc111000010110dddd111100110010`, R410. -/
  | mrcP15c6c2o1 (cond : BitVec 4) (rd : BitVec 4)
  /-- ARM `MRC_p15_0_Rd_c6_c3_0__data_region_3`, encoding `cccc111000010110dddd111100010011`, R409. -/
  | mrcP15c6c3o0 (cond : BitVec 4) (rd : BitVec 4)
  /-- ARM `MRC_p15_0_Rd_c6_c3_1__instruction_region_3`, encoding `cccc111000010110dddd111100110011`, R410. -/
  | mrcP15c6c3o1 (cond : BitVec 4) (rd : BitVec 4)
  /-- ARM `MRC_p15_0_Rd_c6_c4_0__data_region_4`, encoding `cccc111000010110dddd111100010100`, R409. -/
  | mrcP15c6c4o0 (cond : BitVec 4) (rd : BitVec 4)
  /-- ARM `MRC_p15_0_Rd_c6_c4_1__instruction_region_4`, encoding `cccc111000010110dddd111100110100`, R410. -/
  | mrcP15c6c4o1 (cond : BitVec 4) (rd : BitVec 4)
  /-- ARM `MRC_p15_0_Rd_c6_c5_0__data_region_5`, encoding `cccc111000010110dddd111100010101`, R409. -/
  | mrcP15c6c5o0 (cond : BitVec 4) (rd : BitVec 4)
  /-- ARM `MRC_p15_0_Rd_c6_c5_1__instruction_region_5`, encoding `cccc111000010110dddd111100110101`, R410. -/
  | mrcP15c6c5o1 (cond : BitVec 4) (rd : BitVec 4)
  /-- ARM `MRC_p15_0_Rd_c6_c6_0__data_region_6`, encoding `cccc111000010110dddd111100010110`, R409. -/
  | mrcP15c6c6o0 (cond : BitVec 4) (rd : BitVec 4)
  /-- ARM `MRC_p15_0_Rd_c6_c6_1__instruction_region_6`, encoding `cccc111000010110dddd111100110110`, R410. -/
  | mrcP15c6c6o1 (cond : BitVec 4) (rd : BitVec 4)
  /-- ARM `MRC_p15_0_Rd_c6_c7_0__data_region_7`, encoding `cccc111000010110dddd111100010111`, R409. -/
  | mrcP15c6c7o0 (cond : BitVec 4) (rd : BitVec 4)
  /-- ARM `MRC_p15_0_Rd_c6_c7_1__instruction_region_7`, encoding `cccc111000010110dddd111100110111`, R410. -/
  | mrcP15c6c7o1 (cond : BitVec 4) (rd : BitVec 4)
  /-- ARM `MRC_p15_0_Rd_c9_c0_0__data_lockdown`, encoding `cccc111000011001dddd111100010000`, R421. -/
  | mrcP15c9c0o0 (cond : BitVec 4) (rd : BitVec 4)
  /-- ARM `MRC_p15_0_Rd_c9_c0_1__instruction_lockdown`, encoding `cccc111000011001dddd111100110000`, R422. -/
  | mrcP15c9c0o1 (cond : BitVec 4) (rd : BitVec 4)
  /-- ARM `MRC_p15_0_Rd_c15_c0_0__test_register`, encoding `cccc111000011111dddd111100010000`, R423. -/
  | mrcP15c15c0o0 (cond : BitVec 4) (rd : BitVec 4)
  /-- ARM `MCR_p15_0_Rd_c1_c0_0__control`, encoding `cccc111000000001dddd111100010000`, R403. -/
  | mcrP15c1c0o0 (cond : BitVec 4) (rd : BitVec 4)
  /-- ARM `MCR_p15_0_Rd_c2_c0_0__data_cachable_bits`, encoding `cccc111000000010dddd111100010000`, R404. -/
  | mcrP15c2c0o0 (cond : BitVec 4) (rd : BitVec 4)
  /-- ARM `MCR_p15_0_Rd_c2_c0_1__instruction_cachable_bits`, encoding `cccc111000000010dddd111100110000`, R405. -/
  | mcrP15c2c0o1 (cond : BitVec 4) (rd : BitVec 4)
  /-- ARM `MCR_p15_0_Rd_c3_c0_0__write_buffer_control`, encoding `cccc111000000011dddd111100010000`, R406. -/
  | mcrP15c3c0o0 (cond : BitVec 4) (rd : BitVec 4)
  /-- ARM `MCR_p15_0_Rd_c5_c0_0__data_access_permissions`, encoding `cccc111000000101dddd111100010000`, R407. -/
  | mcrP15c5c0o0 (cond : BitVec 4) (rd : BitVec 4)
  /-- ARM `MCR_p15_0_Rd_c5_c0_1__instruction_access_permissions`, encoding `cccc111000000101dddd111100110000`, R408. -/
  | mcrP15c5c0o1 (cond : BitVec 4) (rd : BitVec 4)
  /-- ARM `MCR_p15_0_Rd_c6_c0_0__data_region_0`, encoding `cccc111000000110dddd111100010000`, R409. -/
  | mcrP15c6c0o0 (cond : BitVec 4) (rd : BitVec 4)
  /-- ARM `MCR_p15_0_Rd_c6_c0_1__instruction_region_0`, encoding `cccc111000000110dddd111100110000`, R410. -/
  | mcrP15c6c0o1 (cond : BitVec 4) (rd : BitVec 4)
  /-- ARM `MCR_p15_0_Rd_c6_c1_0__data_region_1`, encoding `cccc111000000110dddd111100010001`, R409. -/
  | mcrP15c6c1o0 (cond : BitVec 4) (rd : BitVec 4)
  /-- ARM `MCR_p15_0_Rd_c6_c1_1__instruction_region_1`, encoding `cccc111000000110dddd111100110001`, R410. -/
  | mcrP15c6c1o1 (cond : BitVec 4) (rd : BitVec 4)
  /-- ARM `MCR_p15_0_Rd_c6_c2_0__data_region_2`, encoding `cccc111000000110dddd111100010010`, R409. -/
  | mcrP15c6c2o0 (cond : BitVec 4) (rd : BitVec 4)
  /-- ARM `MCR_p15_0_Rd_c6_c2_1__instruction_region_2`, encoding `cccc111000000110dddd111100110010`, R410. -/
  | mcrP15c6c2o1 (cond : BitVec 4) (rd : BitVec 4)
  /-- ARM `MCR_p15_0_Rd_c6_c3_0__data_region_3`, encoding `cccc111000000110dddd111100010011`, R409. -/
  | mcrP15c6c3o0 (cond : BitVec 4) (rd : BitVec 4)
  /-- ARM `MCR_p15_0_Rd_c6_c3_1__instruction_region_3`, encoding `cccc111000000110dddd111100110011`, R410. -/
  | mcrP15c6c3o1 (cond : BitVec 4) (rd : BitVec 4)
  /-- ARM `MCR_p15_0_Rd_c6_c4_0__data_region_4`, encoding `cccc111000000110dddd111100010100`, R409. -/
  | mcrP15c6c4o0 (cond : BitVec 4) (rd : BitVec 4)
  /-- ARM `MCR_p15_0_Rd_c6_c4_1__instruction_region_4`, encoding `cccc111000000110dddd111100110100`, R410. -/
  | mcrP15c6c4o1 (cond : BitVec 4) (rd : BitVec 4)
  /-- ARM `MCR_p15_0_Rd_c6_c5_0__data_region_5`, encoding `cccc111000000110dddd111100010101`, R409. -/
  | mcrP15c6c5o0 (cond : BitVec 4) (rd : BitVec 4)
  /-- ARM `MCR_p15_0_Rd_c6_c5_1__instruction_region_5`, encoding `cccc111000000110dddd111100110101`, R410. -/
  | mcrP15c6c5o1 (cond : BitVec 4) (rd : BitVec 4)
  /-- ARM `MCR_p15_0_Rd_c6_c6_0__data_region_6`, encoding `cccc111000000110dddd111100010110`, R409. -/
  | mcrP15c6c6o0 (cond : BitVec 4) (rd : BitVec 4)
  /-- ARM `MCR_p15_0_Rd_c6_c6_1__instruction_region_6`, encoding `cccc111000000110dddd111100110110`, R410. -/
  | mcrP15c6c6o1 (cond : BitVec 4) (rd : BitVec 4)
  /-- ARM `MCR_p15_0_Rd_c6_c7_0__data_region_7`, encoding `cccc111000000110dddd111100010111`, R409. -/
  | mcrP15c6c7o0 (cond : BitVec 4) (rd : BitVec 4)
  /-- ARM `MCR_p15_0_Rd_c6_c7_1__instruction_region_7`, encoding `cccc111000000110dddd111100110111`, R410. -/
  | mcrP15c6c7o1 (cond : BitVec 4) (rd : BitVec 4)
  /-- ARM `MCR_p15_0_Rd_c9_c0_0__data_lockdown`, encoding `cccc111000001001dddd111100010000`, R421. -/
  | mcrP15c9c0o0 (cond : BitVec 4) (rd : BitVec 4)
  /-- ARM `MCR_p15_0_Rd_c9_c0_1__instruction_lockdown`, encoding `cccc111000001001dddd111100110000`, R422. -/
  | mcrP15c9c0o1 (cond : BitVec 4) (rd : BitVec 4)
  /-- ARM `MCR_p15_0_Rd_c15_c0_0__test_register`, encoding `cccc111000001111dddd111100010000`, R423. -/
  | mcrP15c15c0o0 (cond : BitVec 4) (rd : BitVec 4)
  /-- ARM `MCR_p15_0_Rd_c7_c5_0__flush_ICache`, encoding `cccc111000000111dddd111100010101`, R411. -/
  | mcrP15c7c5o0 (cond : BitVec 4) (rd : BitVec 4)
  /-- ARM `MCR_p15_0_Rd_c7_c5_2__flush_ICache_single_entry`, encoding `cccc111000000111dddd111101010101`, R412. -/
  | mcrP15c7c5o2 (cond : BitVec 4) (rd : BitVec 4)
  /-- ARM `MCR_p15_0_Rd_c7_c6_0__flush_DCache`, encoding `cccc111000000111dddd111100010110`, R413. -/
  | mcrP15c7c6o0 (cond : BitVec 4) (rd : BitVec 4)
  /-- ARM `MCR_p15_0_Rd_c7_c6_2__flush_DCache_single_entry`, encoding `cccc111000000111dddd111101010110`, R414. -/
  | mcrP15c7c6o2 (cond : BitVec 4) (rd : BitVec 4)
  /-- ARM `MCR_p15_0_Rd_c7_c10_2__clean_DCache_single_entry`, encoding `cccc111000000111dddd111101011010`, R415. -/
  | mcrP15c7c10o2 (cond : BitVec 4) (rd : BitVec 4)
  /-- ARM `MCR_p15_0_Rd_c7_c13_1__prefetch_ICache_line`, encoding `cccc111000000111dddd111100111101`, R416. -/
  | mcrP15c7c13o1 (cond : BitVec 4) (rd : BitVec 4)
  /-- ARM `MCR_p15_0_Rd_c7_c14_2__clean_and_flush_DCache_single_ent`, encoding `cccc111000000111dddd111101011110`, R417. -/
  | mcrP15c7c14o2 (cond : BitVec 4) (rd : BitVec 4)
  /-- ARM `MCR_p15_0_Rd_c7_c0_4__wait_for_interrupt`, encoding `cccc111000000111dddd111110010000`, R418. -/
  | mcrP15c7c0o4 (cond : BitVec 4) (rd : BitVec 4)
  /-- ARM `MCR_p15_0_Rd_c15_c8_2__wait_for_interrupt__StrongARM_for`, encoding `cccc111000001111dddd111101011000`, R419. -/
  | mcrP15c15c8o2 (cond : BitVec 4) (rd : BitVec 4)
  /-- ARM `MCR_p15_0_Rd_c7_c10_4__drain_write_buffer`, encoding `cccc111000000111dddd111110011010`, R420. -/
  | mcrP15c7c10o4 (cond : BitVec 4) (rd : BitVec 4)
  /-- ARM `MCR_p15_0_Rd_c7_c8_2__Table_2-19_misprint_of_wait_for_in`, encoding `cccc111000000111dddd111101011000`, R418. -/
  | mcrP15c7c8o2 (cond : BitVec 4) (rd : BitVec 4)
  /-- ARM `MCR_p15_0_Rd_c7_c5_1__section_4.2.3_misprint_of_flush_si`, encoding `cccc111000000111dddd111100110101`, R412. -/
  | mcrP15c7c5o1 (cond : BitVec 4) (rd : BitVec 4)
  /-- ARM `MRC_p14_0_Rd_c0_c0_0__comms_control`, encoding `cccc111000010000dddd111000010000`, R430. -/
  | mrcP14c0c0o0 (cond : BitVec 4) (rd : BitVec 4)
  /-- ARM `MCR_p14_0_Rn_c1_c0_0__comms_data_write`, encoding `cccc111000000001dddd111000010000`, R431. -/
  | mcrP14c1c0o0 (cond : BitVec 4) (rd : BitVec 4)
  /-- ARM `MRC_p14_0_Rd_c1_c0_0__comms_data_read`, encoding `cccc111000010001dddd111000010000`, R432. -/
  | mrcP14c1c0o0 (cond : BitVec 4) (rd : BitVec 4)
  /-- Thumb `LSL`, encoding `00000iiiiisssddd`, R452. -/
  | tLslImm (imm5 : BitVec 5) (rs : BitVec 3) (rd : BitVec 3)
  /-- Thumb `LSR`, encoding `00001iiiiisssddd`, R453. -/
  | tLsrImm (imm5 : BitVec 5) (rs : BitVec 3) (rd : BitVec 3)
  /-- Thumb `ASR`, encoding `00010iiiiisssddd`, R454. -/
  | tAsrImm (imm5 : BitVec 5) (rs : BitVec 3) (rd : BitVec 3)
  /-- Thumb `ADD`, encoding `0001100nnnsssddd`, R455. -/
  | tAddReg (rn : BitVec 3) (rs : BitVec 3) (rd : BitVec 3)
  /-- Thumb `SUB`, encoding `0001101nnnsssddd`, R456. -/
  | tSubReg (rn : BitVec 3) (rs : BitVec 3) (rd : BitVec 3)
  /-- Thumb `ADD`, encoding `0001110iiisssddd`, R457. -/
  | tAddImm3 (imm3 : BitVec 3) (rs : BitVec 3) (rd : BitVec 3)
  /-- Thumb `SUB`, encoding `0001111iiisssddd`, R458. -/
  | tSubImm3 (imm3 : BitVec 3) (rs : BitVec 3) (rd : BitVec 3)
  /-- Thumb `MOV`, encoding `00100dddiiiiiiii`, R459. -/
  | tMovImm (rd : BitVec 3) (imm8 : BitVec 8)
  /-- Thumb `CMP`, encoding `00101dddiiiiiiii`, R460. -/
  | tCmpImm (rd : BitVec 3) (imm8 : BitVec 8)
  /-- Thumb `ADD`, encoding `00110dddiiiiiiii`, R461. -/
  | tAddImm8 (rd : BitVec 3) (imm8 : BitVec 8)
  /-- Thumb `SUB`, encoding `00111dddiiiiiiii`, R462. -/
  | tSubImm8 (rd : BitVec 3) (imm8 : BitVec 8)
  /-- Thumb `AND`, encoding `0100000000sssddd`, R463. -/
  | tAnd (rs : BitVec 3) (rd : BitVec 3)
  /-- Thumb `EOR`, encoding `0100000001sssddd`, R464. -/
  | tEor (rs : BitVec 3) (rd : BitVec 3)
  /-- Thumb `LSL`, encoding `0100000010sssddd`, R465. -/
  | tLslReg (rs : BitVec 3) (rd : BitVec 3)
  /-- Thumb `LSR`, encoding `0100000011sssddd`, R466. -/
  | tLsrReg (rs : BitVec 3) (rd : BitVec 3)
  /-- Thumb `ASR`, encoding `0100000100sssddd`, R467. -/
  | tAsrReg (rs : BitVec 3) (rd : BitVec 3)
  /-- Thumb `ADC`, encoding `0100000101sssddd`, R468. -/
  | tAdc (rs : BitVec 3) (rd : BitVec 3)
  /-- Thumb `SBC`, encoding `0100000110sssddd`, R469. -/
  | tSbc (rs : BitVec 3) (rd : BitVec 3)
  /-- Thumb `ROR`, encoding `0100000111sssddd`, R470. -/
  | tRorReg (rs : BitVec 3) (rd : BitVec 3)
  /-- Thumb `TST`, encoding `0100001000sssddd`, R471. -/
  | tTst (rs : BitVec 3) (rd : BitVec 3)
  /-- Thumb `NEG`, encoding `0100001001sssddd`, R472. -/
  | tNeg (rs : BitVec 3) (rd : BitVec 3)
  /-- Thumb `CMP`, encoding `0100001010sssddd`, R473. -/
  | tCmpReg (rs : BitVec 3) (rd : BitVec 3)
  /-- Thumb `CMN`, encoding `0100001011sssddd`, R474. -/
  | tCmn (rs : BitVec 3) (rd : BitVec 3)
  /-- Thumb `ORR`, encoding `0100001100sssddd`, R475. -/
  | tOrr (rs : BitVec 3) (rd : BitVec 3)
  /-- Thumb `MUL`, encoding `0100001101sssddd`, R476. -/
  | tMul (rs : BitVec 3) (rd : BitVec 3)
  /-- Thumb `BIC`, encoding `0100001110sssddd`, R477. -/
  | tBic (rs : BitVec 3) (rd : BitVec 3)
  /-- Thumb `MVN`, encoding `0100001111sssddd`, R478. -/
  | tMvn (rs : BitVec 3) (rd : BitVec 3)
  /-- Thumb `ADD`, encoding `010001001gsssddd`, R479. -/
  | tAddHi (h2 : BitVec 1) (rs : BitVec 3) (rd : BitVec 3)
  /-- Thumb `ADD`, encoding `0100010001sssddd`, R479. -/
  | tAddLoHi (rs : BitVec 3) (rd : BitVec 3)
  /-- Thumb `ADD__H1___H2___0`, encoding `0100010000sssddd`, R236. -/
  | tAddLow (rs : BitVec 3) (rd : BitVec 3)
  /-- Thumb `CMP`, encoding `010001011gsssddd`, R480. -/
  | tCmpHi (h2 : BitVec 1) (rs : BitVec 3) (rd : BitVec 3)
  /-- Thumb `CMP`, encoding `0100010101sssddd`, R480. -/
  | tCmpLoHi (rs : BitVec 3) (rd : BitVec 3)
  /-- Thumb `CMP__H1___H2___0`, encoding `0100010100sssddd`, R236. -/
  | tCmpLow (rs : BitVec 3) (rd : BitVec 3)
  /-- Thumb `MOV`, encoding `010001101gsssddd`, R481. -/
  | tMovHi (h2 : BitVec 1) (rs : BitVec 3) (rd : BitVec 3)
  /-- Thumb `MOV`, encoding `0100011001sssddd`, R481. -/
  | tMovLoHi (rs : BitVec 3) (rd : BitVec 3)
  /-- Thumb `MOV__H1___H2___0`, encoding `0100011000sssddd`, R236. -/
  | tMovLow (rs : BitVec 3) (rd : BitVec 3)
  /-- Thumb `BX`, encoding `010001110gssszzz`, R482. -/
  | tBx (h2 : BitVec 1) (rs : BitVec 3) (sbz : BitVec 3)
  /-- Thumb `BX__H1___1`, encoding `010001111gssszzz`, R236. -/
  | tBxHigh (h2 : BitVec 1) (rs : BitVec 3) (sbz : BitVec 3)
  /-- Thumb `LDR`, encoding `01001dddiiiiiiii`, R487. -/
  | tLdrPc (rd : BitVec 3) (imm8 : BitVec 8)
  /-- Thumb `STR`, encoding `0101000ooobbbddd`, R488. -/
  | tStrReg (ro : BitVec 3) (rb : BitVec 3) (rd : BitVec 3)
  /-- Thumb `STRB`, encoding `0101010ooobbbddd`, R489. -/
  | tStrbReg (ro : BitVec 3) (rb : BitVec 3) (rd : BitVec 3)
  /-- Thumb `LDR`, encoding `0101100ooobbbddd`, R490. -/
  | tLdrReg (ro : BitVec 3) (rb : BitVec 3) (rd : BitVec 3)
  /-- Thumb `LDRB`, encoding `0101110ooobbbddd`, R491. -/
  | tLdrbReg (ro : BitVec 3) (rb : BitVec 3) (rd : BitVec 3)
  /-- Thumb `STRH`, encoding `0101001ooobbbddd`, R492. -/
  | tStrhReg (ro : BitVec 3) (rb : BitVec 3) (rd : BitVec 3)
  /-- Thumb `LDRH`, encoding `0101101ooobbbddd`, R493. -/
  | tLdrhReg (ro : BitVec 3) (rb : BitVec 3) (rd : BitVec 3)
  /-- Thumb `LDSB`, encoding `0101011ooobbbddd`, R494. -/
  | tLdsbReg (ro : BitVec 3) (rb : BitVec 3) (rd : BitVec 3)
  /-- Thumb `LDSH`, encoding `0101111ooobbbddd`, R495. -/
  | tLdshReg (ro : BitVec 3) (rb : BitVec 3) (rd : BitVec 3)
  /-- Thumb `STR`, encoding `01100iiiiibbbddd`, R496. -/
  | tStrImm (imm5 : BitVec 5) (rb : BitVec 3) (rd : BitVec 3)
  /-- Thumb `LDR`, encoding `01101iiiiibbbddd`, R497. -/
  | tLdrImm (imm5 : BitVec 5) (rb : BitVec 3) (rd : BitVec 3)
  /-- Thumb `STRB`, encoding `01110iiiiibbbddd`, R498. -/
  | tStrbImm (imm5 : BitVec 5) (rb : BitVec 3) (rd : BitVec 3)
  /-- Thumb `LDRB`, encoding `01111iiiiibbbddd`, R499. -/
  | tLdrbImm (imm5 : BitVec 5) (rb : BitVec 3) (rd : BitVec 3)
  /-- Thumb `STRH`, encoding `10000iiiiibbbddd`, R500. -/
  | tStrhImm (imm5 : BitVec 5) (rb : BitVec 3) (rd : BitVec 3)
  /-- Thumb `LDRH`, encoding `10001iiiiibbbddd`, R501. -/
  | tLdrhImm (imm5 : BitVec 5) (rb : BitVec 3) (rd : BitVec 3)
  /-- Thumb `STR`, encoding `10010dddiiiiiiii`, R502. -/
  | tStrSp (rd : BitVec 3) (imm8 : BitVec 8)
  /-- Thumb `LDR`, encoding `10011dddiiiiiiii`, R503. -/
  | tLdrSp (rd : BitVec 3) (imm8 : BitVec 8)
  /-- Thumb `ADD`, encoding `10100dddiiiiiiii`, R483. -/
  | tAddPc (rd : BitVec 3) (imm8 : BitVec 8)
  /-- Thumb `ADD`, encoding `10101dddiiiiiiii`, R484. -/
  | tAddSp (rd : BitVec 3) (imm8 : BitVec 8)
  /-- Thumb `ADD_SP`, encoding `101100000iiiiiii`, R485. -/
  | tAddSpImm (imm7 : BitVec 7)
  /-- Thumb `SUB_SP`, encoding `101100001iiiiiii`, R486. -/
  | tSubSpImm (imm7 : BitVec 7)
  /-- Thumb `PUSH`, encoding `1011010rllllllll`, R504. -/
  | tPush (r : BitVec 1) (rlist : BitVec 8)
  /-- Thumb `POP`, encoding `1011110rllllllll`, R505. -/
  | tPop (r : BitVec 1) (rlist : BitVec 8)
  /-- Thumb `UNDEFINED`, encoding `10110001xxxxxxxx`, R513. -/
  | tUndB1 (rest : BitVec 8)
  /-- Thumb `UNDEFINED`, encoding `1011001xxxxxxxxx`, R513. -/
  | tUndB2 (rest : BitVec 9)
  /-- Thumb `UNDEFINED`, encoding `1011011xxxxxxxxx`, R513. -/
  | tUndB6 (rest : BitVec 9)
  /-- Thumb `UNDEFINED`, encoding `101110xxxxxxxxxx`, R513. -/
  | tUndB8 (rest : BitVec 10)
  /-- Thumb `UNDEFINED`, encoding `1011111xxxxxxxxx`, R513. -/
  | tUndBE (rest : BitVec 9)
  /-- Thumb `STMIA`, encoding `11000bbbllllllll`, R506. -/
  | tStmia (rb : BitVec 3) (rlist : BitVec 8)
  /-- Thumb `LDMIA`, encoding `11001bbbllllllll`, R507. -/
  | tLdmia (rb : BitVec 3) (rlist : BitVec 8)
  /-- Thumb `BEQ`, encoding `11010000iiiiiiii`, R508. -/
  | tBeq (soffset8 : BitVec 8)
  /-- Thumb `BNE`, encoding `11010001iiiiiiii`, R508. -/
  | tBne (soffset8 : BitVec 8)
  /-- Thumb `BCS`, encoding `11010010iiiiiiii`, R508. -/
  | tBcs (soffset8 : BitVec 8)
  /-- Thumb `BCC`, encoding `11010011iiiiiiii`, R508. -/
  | tBcc (soffset8 : BitVec 8)
  /-- Thumb `BMI`, encoding `11010100iiiiiiii`, R508. -/
  | tBmi (soffset8 : BitVec 8)
  /-- Thumb `BPL`, encoding `11010101iiiiiiii`, R508. -/
  | tBpl (soffset8 : BitVec 8)
  /-- Thumb `BVS`, encoding `11010110iiiiiiii`, R508. -/
  | tBvs (soffset8 : BitVec 8)
  /-- Thumb `BVC`, encoding `11010111iiiiiiii`, R508. -/
  | tBvc (soffset8 : BitVec 8)
  /-- Thumb `BHI`, encoding `11011000iiiiiiii`, R508. -/
  | tBhi (soffset8 : BitVec 8)
  /-- Thumb `BLS`, encoding `11011001iiiiiiii`, R508. -/
  | tBls (soffset8 : BitVec 8)
  /-- Thumb `BGE`, encoding `11011010iiiiiiii`, R508. -/
  | tBge (soffset8 : BitVec 8)
  /-- Thumb `BLT`, encoding `11011011iiiiiiii`, R508. -/
  | tBlt (soffset8 : BitVec 8)
  /-- Thumb `BGT`, encoding `11011100iiiiiiii`, R508. -/
  | tBgt (soffset8 : BitVec 8)
  /-- Thumb `BLE`, encoding `11011101iiiiiiii`, R508. -/
  | tBle (soffset8 : BitVec 8)
  /-- Thumb `UNDEFINED`, encoding `11011110xxxxxxxx`, R513. -/
  | tUndCond (rest : BitVec 8)
  /-- Thumb `SWI`, encoding `11011111iiiiiiii`, R509. -/
  | tSwi (imm8 : BitVec 8)
  /-- Thumb `B`, encoding `11100iiiiiiiiiii`, R510. -/
  | tB (offset11 : BitVec 11)
  /-- Thumb `UNDEFINED`, encoding `11101xxxxxxxxxxx`, R513. -/
  | tUndE8 (rest : BitVec 11)
  /-- Thumb `BL__first_half`, encoding `11110iiiiiiiiiii`, R511. -/
  | tBlFirst (offset11 : BitVec 11)
  /-- Thumb `BL__second_half`, encoding `11111iiiiiiiiiii`, R512. -/
  | tBlSecond (offset11 : BitVec 11)
  deriving DecidableEq, Repr

end Sys2Proof
end

