-- ==== Sys2Proof/Machine/Operands.lean ====
section
/-!
DEFINITION. The operand forms of both instruction sets: rotated immediates, shifted registers, and the
offsets and addresses of the addressing modes (R210 to R222).
-/

namespace Sys2Proof.Machine

/-- A 32-bit value with the shifter's carry-out. -/
structure Shifted where
  value : Word
  carry : Bool
  deriving DecidableEq, Repr

/-- The rotated immediate of R210. -/
def rotImm (rot : BitVec 4) (imm8 : BitVec 8) (carryIn : Bool) : Shifted :=
  let v := (imm8.zeroExtend 32 : Word).rotateRight (2 * rot.toNat)
  { value := v, carry := if rot = 0#4 then carryIn else v.getLsbD 31 }

/-- LSL by `n` (R211 for 0 to 31, R212 for 32 and more). -/
def shiftLsl (m : Word) (n : Nat) (carryIn : Bool) : Shifted :=
  if n = 0 then { value := m, carry := carryIn }
  else if n ≤ 32 then { value := m <<< n, carry := m.getLsbD (32 - n) }
  else { value := 0#32, carry := false }

/-- LSR by `n` (R211 with 0 meaning 32, R212). -/
def shiftLsr (m : Word) (n : Nat) (carryIn : Bool) : Shifted :=
  if n = 0 then { value := m, carry := carryIn }
  else if n ≤ 32 then { value := m >>> n, carry := m.getLsbD (n - 1) }
  else { value := 0#32, carry := false }

/-- ASR by `n` (R211 with 0 meaning 32, R212). -/
def shiftAsr (m : Word) (n : Nat) (carryIn : Bool) : Shifted :=
  if n = 0 then { value := m, carry := carryIn }
  else if n < 32 then { value := m.sshiftRight n, carry := m.getLsbD (n - 1) }
  else { value := if m.getLsbD 31 then 0xFFFFFFFF#32 else 0#32, carry := m.getLsbD 31 }

/-- ROR by `n` (R211 for 1 to 31, R212). -/
def shiftRor (m : Word) (n : Nat) (carryIn : Bool) : Shifted :=
  if n = 0 then { value := m, carry := carryIn }
  else if n % 32 = 0 then { value := m, carry := m.getLsbD 31 }
  else { value := m.rotateRight (n % 32), carry := m.getLsbD (n % 32 - 1) }

/-- RRX (R211, ROR with `n = 0`). -/
def shiftRrx (m : Word) (carryIn : Bool) : Shifted :=
  { value := BitVec.ofBool carryIn ++ m.extractLsb' 1 31, carry := m.getLsbD 0 }

/-- A register shifted by an immediate (R211): 0 means 32 for LSR and ASR, and RRX for ROR. -/
def shiftByImm (ty : BitVec 2) (n : BitVec 5) (m : Word) (carryIn : Bool) : Shifted :=
  match ty.toNat with
  | 0 => shiftLsl m n.toNat carryIn
  | 1 => shiftLsr m (if n = 0#5 then 32 else n.toNat) carryIn
  | 2 => shiftAsr m (if n = 0#5 then 32 else n.toNat) carryIn
  | _ => if n = 0#5 then shiftRrx m carryIn else shiftRor m n.toNat carryIn

/-- A register shifted by the least significant byte of a register (R212). -/
def shiftByReg (ty : BitVec 2) (n : BitVec 8) (m : Word) (carryIn : Bool) : Shifted :=
  match ty.toNat with
  | 0 => shiftLsl m n.toNat carryIn
  | 1 => shiftLsr m n.toNat carryIn
  | 2 => shiftAsr m n.toNat carryIn
  | _ => shiftRor m n.toNat carryIn

/-- `x[i]` in the register-shifted format, where R15 reads as the address of the instruction plus 12 (R33,
R213: the parameter `REGSHIFT_PC` at `PC + 12`; DESIGN CHOICE, log 12). -/
def State.reg12 (s : State) (i : BitVec 4) : Word := if i = 15#4 then s.pc + 12#32 else s.reg i

/-- `ShifterOperand()` (R210 to R213, R260). -/
def State.operand2 (s : State) : Operand2 → Shifted
  | .imm rot imm8 => rotImm rot imm8 s.flagC
  | .immShift n ty rm => shiftByImm ty n (s.reg rm) s.flagC
  | .regShift rs ty rm => shiftByReg ty ((s.reg12 rs).extractLsb' 0 8) (s.reg12 rm) s.flagC

/-- The first operand of a data-processing instruction: R15 reads 12 ahead beside a register shift (R213,
R260). -/
def State.operand1 (s : State) (rn : BitVec 4) : Operand2 → Word
  | .regShift _ _ _ => s.reg12 rn
  | _ => s.reg rn

/-- The offset of addressing mode 2 (R214). -/
def State.offset2 (s : State) : Offset2 → Word
  | .imm imm12 => imm12.zeroExtend 32
  | .reg n ty rm => (shiftByImm ty n (s.reg rm) s.flagC).value

/-- The offset of addressing mode 3 (R215). -/
def State.offset3 (s : State) : Offset3 → Word
  | .imm immH immL => (immH ++ immL : BitVec 8).zeroExtend 32
  | .reg _ rm => s.reg rm

/-- Base plus or minus offset, by the U bit (R214, R215, R217). -/
def indexed (base offset : Word) (u : BitVec 1) : Word := if u = 1#1 then base + offset else base - offset

/-- The value of a register as STR, STRT and STM store it: R15 is the address of the instruction plus 12
(R33, R205, Table 2-1). -/
def State.storedReg (s : State) (i : BitVec 4) : Word := if i = 15#4 then s.pc + 12#32 else s.reg i

/-- A loaded word rotated by the low bits of its address (R107 (a)). -/
def rotateLoaded (w a : Word) : Word := w.rotateRight (8 * (a.extractLsb' 0 2).toNat)

/-- `(iaddr + 4) AND 0xFFFFFFFC` of Thumb formats 6 and 12 (R33 (c), R222). -/
def State.pcWord (s : State) : Word := wordAddr (s.pc + 4#32)

end Sys2Proof.Machine
end

