-- ==== Sys2Proof/Machine/Ops.lean ====
section
/-!
DEFINITION. The operations every meaning shares: going on to the next instruction, the condition test,
entering debug state, taking an exception and returning from one (R33, R203, R524 to R537, R582 to R617).
-/

namespace Sys2Proof.Machine

/-- Go on to the next instruction (R33).  Past the top of the address space is UNPREDICTABLE (D26); in
debug state the pc only counts (R607). -/
def finish (s : State) : Result :=
  if !s.dbg.active && decide (2 ^ 32 ≤ s.pc.toNat + s.ilen.toNat) then .refused .addressWrap
  else .next { s with pc := s.pc + s.ilen }

/-- Run `f` if the condition passes, else only go on (R203); `cond = 0b1111` is refused (R204). -/
def ifPassed (cond : BitVec 4) (s : State) (f : State → Result) : Result :=
  if cond = 15#4 then .refused .condNever
  else if s.condPassed cond then f s
  else finish s

/-- The condition field of a fetched item (R203, R222): a Thumb instruction other than a conditional branch
always executes. -/
def condField (thumb : Bool) (w : Word) : BitVec 4 :=
  if !thumb then w.extractLsb' 28 4
  else if w.extractLsb' 12 4 = 13#4 ∧ w.extractLsb' 9 3 ≠ 7#3 then w.extractLsb' 8 4
  else 14#4

/-- The state with `INSTREXEC` set for the instruction in the Execute stage (R653): HIGH when its condition passes,
also where the instruction ends in an exception (DESIGN CHOICE, log 57). -/
def State.showExec (s : State) (w : Word) : State :=
  { s with instrExec := s.condPassed (condField s.thumb w) }

/-- The offset of the first instruction's address in debug state: the pc is four addresses on, and one more
when the first instruction reads it (R607). -/
def State.debugLead (s : State) : Word := if s.thumb then 6#32 else 12#32

/-- Enter debug state before the instruction at the pc (R581 to R585, R607).  `watch` and `both` are what
SYSSPEED and WPTANDBKPT report. -/
def enterDebug (watch both : Bool) (s : State) : State :=
  { s with
    pc := s.pc + s.debugLead
    waiting := false
    tap := { s.tap with sysSpeed := watch, wptAndBkpt := both }
    dbg := { DebugCore.idle with active := true } }

/-- The seven exceptions (R520). -/
inductive Exc where
  | reset | undefined | swi | prefetchAbort | dataAbort | irq | fiq
  deriving DecidableEq, Repr

/-- The mode an exception enters (R524). -/
def Exc.mode : Exc → BitVec 5
  | .reset => modeSvc
  | .undefined => modeUnd
  | .swi => modeSvc
  | .prefetchAbort => modeAbt
  | .dataAbort => modeAbt
  | .irq => modeIrq
  | .fiq => modeFiq

/-- The vector offset of an exception (R524). -/
def Exc.offset : Exc → Word
  | .reset => 0x00#32
  | .undefined => 0x04#32
  | .swi => 0x08#32
  | .prefetchAbort => 0x0C#32
  | .dataAbort => 0x10#32
  | .irq => 0x18#32
  | .fiq => 0x1C#32

/-- The bit of the vector catch register that belongs to an exception (R617). -/
def Exc.catchBit : Exc → Nat
  | .reset => 0
  | .undefined => 1
  | .swi => 2
  | .prefetchAbort => 3
  | .dataAbort => 4
  | .irq => 6
  | .fiq => 7

/-- `VectorBase` (R525; D4). -/
def Cp15.vectorBase (c : Cp15) : Word := if c.v then 0xFFFF0000#32 else 0#32

/-- The link value of an exception raised at the instruction at the pc, or before it for an interrupt
(R531); Reset's is unspecified. -/
def State.linkOf (s : State) : Exc → Word
  | .reset => Config.freeWord s.draws
  | .undefined => s.pc + s.ilen
  | .swi => s.pc + s.ilen
  | .prefetchAbort => s.pc + 4#32
  | .dataAbort => s.pc + 8#32
  | .irq => s.pc + 4#32
  | .fiq => s.pc + 4#32

/-- The CPSR after the entry of an exception: mode, T cleared, I set, F set by Reset and FIQ (R530). -/
def entryStatus (old : Word) (e : Exc) : Word :=
  old.extractLsb' 8 24 ++ 1#1 ++ (if e = .reset ∨ e = .fiq then 1#1 else old.extractLsb' 6 1) ++ 0#1 ++ e.mode

/-- The entry of an exception (R530): R14 and SPSR of the mode entered, the CPSR and the pc; nothing
else. -/
def exceptionEntry (e : Exc) (s : State) : State :=
  { (s.bankSet e.mode 14#4 (s.linkOf e)).setSpsrOf e.mode s.cpsr with
    cpsr := entryStatus s.cpsr e
    pc := s.cp15.vectorBase + e.offset }

/-- After an exception entry.  In debug state only the abort of a system speed access comes here, and it
leaves an invalid PC (R604) and no address for the link value of R531 to name: both are free (log 40).
Otherwise the core enters debug state at the vector when a watchpoint was latched (R559 (d), R607 (c)) or the
vector is caught (R617), with debug enabled. -/
def catchEntry (e : Exc) (s : State) : State :=
  if s.dbg.active then
    let t := s.draw.2.bankSet e.mode 14#4 s.draw.1
    { t.draw.2 with pc := wordAddr t.draw.1 }
  else if s.watching && (s.dbg.watch != .idle || s.ice.vectorCatch.getLsbD e.catchBit) then
    enterDebug (s.dbg.watch != .idle) (s.dbg.watch != .idle && s.ice.vectorCatch.getLsbD e.catchBit) s
  else s

/-- Taking an exception: the entry of R530, then the debug events that wait for it. -/
def takeException (e : Exc) (s : State) : State := catchEntry e (exceptionEntry e s)

/-- The instruction takes the exception. -/
def raise (e : Exc) (s : State) : Result := .next (takeException e s)

/-- `WritePC(r)` (R283): ARM state needs bits 1:0 zero, Thumb state drops bit 0. -/
def writePc (r : Word) (s : State) : Result :=
  if s.thumb then .next { s with pc := r &&& 0xFFFFFFFE#32 }
  else if r.extractLsb' 0 2 = 0#2 then .next { s with pc := r }
  else .refused .pcUnaligned

/-- An address masked for the instruction set of `s` (R537). -/
def State.maskedPc (s : State) (r : Word) : Word := if s.thumb then r &&& 0xFFFFFFFE#32 else r &&& 0xFFFFFFFC#32

/-- The pc that LDM (3) has loaded is written without the low bits of the instruction set (R353, R537). -/
def writeLoadedPc (r : Word) (s : State) : Result := .next { s with pc := s.maskedPc r }

/-- Return from an exception (R284, R353, R537): the whole CPSR from the SPSR of the current mode, then the
write of the pc, which sees the restored T.  A mode without SPSR and a restored mode that is none of the seven
have no behaviour. -/
def returnFromException (writes : State → Result) (s : State) : Result :=
  if !modeHasSpsr s.mode then .refused .noSpsr
  else
    let s' := { s with cpsr := statusClean (s.spsrOf s.mode) }
    if modeLegal s'.mode then writes s' else .refused .badMode

/-- Go on after an access that has completed, take Data Abort where it aborted (R529, R336), stop where the
state has no behaviour. -/
def afterAccess {α : Type} (a : Access α) (f : α → State → Result) : Result :=
  match a with
  | .done v s => f v s
  | .abort s => raise .dataAbort s
  | .fault e => .fault e

end Sys2Proof.Machine
end

