-- ==== Sys2Proof/Machine/Cp15.lean ====
section
/-!
DEFINITION. The registers of CP15 as they are read and written (R40 to R54, R400 to R410, R421 to R425),
the cache operations of register 7 (R411 to R420), and the debug communications channel (R60 to R62, R430
to R432).  The instructions are in Coproc.lean; scan chain 15 uses the same registers (R600).
-/

namespace Sys2Proof.Machine

/-- The registers of CP15 that a read or a write names (R40, R400). -/
inductive SysReg where
  | idCode
  | cacheType
  | control
  | cachable (side : Side)
  | bufferable
  | permission (side : Side)
  | region (side : Side) (n : Fin 8)
  | lockdown (side : Side)
  | test
  deriving DecidableEq, Repr

/-- The lockdown register of a side (R52). -/
def Cp15.lock (c : Cp15) : Side → Lockdown
  | .instr => c.lockI
  | .data => c.lockD

/-- The bits a read returns whose value the spec states, in place; every other bit zero (R42 to R53). -/
def Cp15.stated (c : Cp15) : SysReg → Word
  | .idCode => Config.idCodeBase ||| Config.layoutRev.zeroExtend 32
  | .cacheType => Config.cacheType
  | .control =>
    BitVec.ofBool c.iA ++ BitVec.ofBool c.nF ++ 0#16 ++ BitVec.ofBool c.v ++ BitVec.ofBool c.i ++ 0#4 ++
      BitVec.ofBool c.b ++ 0#4 ++ BitVec.ofBool c.c ++ 0#1 ++ BitVec.ofBool c.p
  | .cachable side => (c.cachable side).zeroExtend 32
  | .bufferable => c.bufferable.zeroExtend 32
  | .permission side => (c.ap side).zeroExtend 32
  | .region side n =>
    (c.regions side)[n].base ++ 0#6 ++ (c.regions side)[n].size ++ BitVec.ofBool (c.regions side)[n].enable
  | .lockdown side => BitVec.ofBool (c.lock side).load ++ 0#25 ++ (c.lock side).index
  | .test => 0#28 ++ BitVec.ofBool c.itrRobin ++ BitVec.ofBool c.dtrRobin ++ 0#2

/-- The bits of a register that read as unpredictable (R44, R46, R47, R49, R50, R52, R53; D16). -/
def SysReg.freeBits : SysReg → Word
  | .idCode => 0#32
  | .cacheType => 0#32
  | .control => 0x3FFFCF7A#32
  | .cachable _ => 0xFFFFFF00#32
  | .bufferable => 0xFFFFFF00#32
  | .permission _ => 0xFFFF0000#32
  | .region _ _ => 0x00000FC0#32
  | .lockdown _ => 0x7FFFFFC0#32
  | .test => 0xFFFFFFF3#32

/-- What a read returns: the stated bits, and a free word in the others (R400; D16). -/
def State.sysRead (s : State) (r : SysReg) : Word :=
  s.cp15.stated r ||| (Config.freeWord s.draws &&& r.freeBits)

/-- A region register with the fields of a written word (R409). -/
def Region.ofWord (v : Word) : Region :=
  { base := v.extractLsb' 12 20, size := v.extractLsb' 1 5, enable := v.getLsbD 0 }

/-- A lockdown register with the fields of a written word (R421). -/
def Lockdown.ofWord (v : Word) : Lockdown := { load := v.getLsbD 31, index := v.extractLsb' 0 6 }

/-- CP15 after a write of `v` (R403 to R410, R421 to R423); register 0 holds nothing that is written. -/
def Cp15.write (c : Cp15) (r : SysReg) (v : Word) : Cp15 :=
  match r with
  | .idCode => c
  | .cacheType => c
  | .control =>
    { c with
      iA := v.getLsbD 31, nF := v.getLsbD 30, v := v.getLsbD 13, i := v.getLsbD 12, b := v.getLsbD 7
      c := v.getLsbD 2, p := v.getLsbD 0 }
  | .cachable .data => { c with cachableD := v.extractLsb' 0 8 }
  | .cachable .instr => { c with cachableI := v.extractLsb' 0 8 }
  | .bufferable => { c with bufferable := v.extractLsb' 0 8 }
  | .permission .data => { c with apD := v.extractLsb' 0 16 }
  | .permission .instr => { c with apI := v.extractLsb' 0 16 }
  | .region .data n => { c with regionsD := c.regionsD.set n (Region.ofWord v) }
  | .region .instr n => { c with regionsI := c.regionsI.set n (Region.ofWord v) }
  | .lockdown .data => { c with lockD := Lockdown.ofWord v }
  | .lockdown .instr => { c with lockI := Lockdown.ofWord v }
  | .test => { c with itrRobin := v.getLsbD 3, dtrRobin := v.getLsbD 2 }

/-- The bits of a register that should be zero in a write (R403 to R410, R421 to R423); register 1 also has
bits that should be one. -/
def SysReg.zeroBits : SysReg → Word
  | .control => 0x3FFFCF02#32
  | r => r.freeBits

/-- Why a write has no behaviour, if it has none (R403, R409, R424). -/
def SysReg.writeRefusal (r : SysReg) (v : Word) : Option Refusal :=
  match r with
  | .idCode => some .cp15Reserved
  | .cacheType => some .cp15Reserved
  | .control =>
    if v &&& SysReg.control.zeroBits ≠ 0#32 ∨ v.extractLsb' 3 4 ≠ 15#4 then some .cp15ShouldBe
    else if v.extractLsb' 30 2 = 2#2 then some .clockMode
    else if (v.getLsbD 12 || v.getLsbD 2) && !v.getLsbD 0 then some .cacheUnprotected
    else none
  | .region side n =>
    if v &&& (SysReg.region side n).zeroBits ≠ 0#32 then some .cp15ShouldBe
    else if (Region.ofWord v).enable && !(Region.ofWord v).formed then some .regionForm
    else none
  | r => if v &&& r.zeroBits ≠ 0#32 then some .cp15ShouldBe else none

/-! Register 7. -/

/-- The operations of register 7, and the second form of wait for interrupt (R411 to R420). -/
inductive CacheOp where
  | flushI
  | flushILine
  | flushD
  | flushDLine
  | cleanDLine
  | prefetchI
  | cleanFlushDLine
  | waitInterrupt
  | drain
  deriving DecidableEq, Repr

/-- The bits of the data that should be zero (register 7 formats: nothing, Index/segment, Address). -/
def CacheOp.zeroBits : CacheOp → Word
  | .flushI => 0xFFFFFFFF#32
  | .flushILine => 0x03FFFFCF#32
  | .flushD => 0xFFFFFFFF#32
  | .flushDLine => 0x03FFFFCF#32
  | .cleanDLine => 0x03FFFFCF#32
  | .prefetchI => 0x0000000F#32
  | .cleanFlushDLine => 0x03FFFFCF#32
  | .waitInterrupt => 0xFFFFFFFF#32
  | .drain => 0xFFFFFFFF#32

/-- The segment of Index/segment data, bits 5:4. -/
def opSeg (v : Word) : Fin 4 := segOf v

/-- The index of Index/segment data, bits 31:26. -/
def opIdx (v : Word) : Fin 64 := lineIdx (v.extractLsb' 26 6)

/-- An ICache line marked invalid (R411, R412). -/
def Line.invalid (l : Line) : Line := { l with valid := false }

/-- A DCache line marked invalid and clean (R413, R414). -/
def Line.flushed (l : Line) : Line := { l with valid := false, dirty := false }

/-- A cache with every line changed by `f`. -/
def Cache.mapLines (f : Line → Line) (c : Cache) : Cache := 
  { c with segs := Vector.ofFn fun g => Vector.ofFn fun idx => f (c.line g idx) }

/-- A cache with one line changed by `f`. -/
def Cache.mapLine (f : Line → Line) (g : Fin 4) (idx : Fin 64) (c : Cache) : Cache :=
  c.setLine g idx (f (c.line g idx))

/-- Clean DCache single entry (R415): a valid dirty line goes to the write buffer and stays, clean. -/
def cleanLine (g : Fin 4) (idx : Fin 64) (s : State) : State :=
  let l := s.dcache.line g idx
  if l.valid && l.dirty then
    let s' := evict l g s
    { s' with dcache := s'.dcache.setLine g idx { l with dirty := false } }
  else s

/-- Flush DCache single entry (R414). -/
def flushDLine (g : Fin 4) (idx : Fin 64) (s : State) : State :=
  { s with dcache := s.dcache.mapLine Line.flushed g idx }

/-- Prefetch ICache line (R416): a failed check, a line already present or a read that is not cachable
leaves everything as it was. -/
def prefetchLine (a : Word) (s : State) : Access Unit :=
  match checkAccess s.cp15 .instr a false s.privileged with
  | .fault f => .fault f
  | .abort => .done () s
  | .pass ci _ =>
    match if s.cp15.i then s.icache.lookup a else .miss with
    | .double => .fault .cacheDoubleHit
    | .hit _ => .done () s
    | .miss => if ci && s.cp15.i && s.cp15.p then .done () (linefillI a s) else .done () s

/-- The debug request as it is presented to the core, `DBGRQI` (R584): `EDBGRQ`, or bit 1 of debug control. -/
def State.debugRequest (s : State) : Bool := s.pins.edbgrq || s.ice.ctrl.getLsbD 1

/-- A wake event of the wait state holds (R551). -/
def State.wakes (s : State) : Bool := !s.pins.nFIQ || !s.pins.nIRQ || (s.pins.dbgen && s.debugRequest)

/-- The effect of an operation of register 7 with data `v` (R411 to R420).  A wait ends at once where a wake
event already holds (R551). -/
def cacheOperation (op : CacheOp) (v : Word) (s : State) : Access Unit :=
  match op with
  | .flushI => .done () { s with icache := s.icache.mapLines Line.invalid }
  | .flushILine => .done () { s with icache := s.icache.mapLine Line.invalid (opSeg v) (opIdx v) }
  | .flushD => .done () { s with dcache := s.dcache.mapLines Line.flushed }
  | .flushDLine => .done () (flushDLine (opSeg v) (opIdx v) s)
  | .cleanDLine => .done () (cleanLine (opSeg v) (opIdx v) s)
  | .prefetchI => prefetchLine (v &&& 0xFFFFFFF0#32) s
  | .cleanFlushDLine => .done () (flushDLine (opSeg v) (opIdx v) (cleanLine (opSeg v) (opIdx v) s))
  | .waitInterrupt => .done () { s with waiting := !s.wakes }
  | .drain => .done () (drainWriteBuffer s)

/-! The debug communications channel. -/

/-- What a read of the comms control register returns: version, free bits 27:2, W and R (R61, R430). -/
def State.commsControl (s : State) : Word :=
  Config.iceVersion ++ (Config.freeWord s.draws).extractLsb' 2 26 ++ BitVec.ofBool s.dcc.w ++
    BitVec.ofBool s.dcc.r

/-- The channel after the processor has written to it (R62 (a), R431). -/
def Dcc.send (d : Dcc) (v : Word) : Dcc := { d with writeData := v, w := true }

/-- The channel after the processor has read from it (R62 (d), R432). -/
def Dcc.receive (d : Dcc) : Dcc := { d with r := false }

/-- The channel after the debugger has read from it (R62 (b)). -/
def Dcc.collect (d : Dcc) : Dcc := { d with w := false }

/-- The channel after the debugger has written to it (R62 (c)). -/
def Dcc.deposit (d : Dcc) (v : Word) : Dcc := { d with readData := v, r := true }

end Sys2Proof.Machine
end

