-- ==== Sys2Proof/Machine/DebugPort.lean ====
section
/-!
DEFINITION. The TAP and its scan chains (R590 to R600), and the EmbeddedICE registers behind scan chain 2
(R610 to R621).  One input is a whole scan, from CAPTURE to UPDATE (log 21).
-/

namespace Sys2Proof.Machine

/-! The instruction register. -/

/-- The public instructions of the TAP; every other code is BYPASS (R592). -/
inductive TapInstr where
  | extest | scanN | sample | restart | clamp | highz | clampz | intest | idcode | bypass
  deriving DecidableEq, Repr

/-- The instruction a code selects (R592). -/
def tapInstr (ir : BitVec 4) : TapInstr :=
  match ir.toNat with
  | 0b0000 => .extest
  | 0b0010 => .scanN
  | 0b0011 => .sample
  | 0b0100 => .restart
  | 0b0101 => .clamp
  | 0b0111 => .highz
  | 0b1001 => .clampz
  | 0b1100 => .intest
  | 0b1110 => .idcode
  | _ => .bypass

/-- An instruction that must not be used with the selected chain (R592; S21): EXTEST, HIGHZ and CLAMPZ on
the chains 0 to 15, and CLAMP on any chain but 0. -/
def tapReserved (t : TapInstr) (chain : BitVec 5) : Bool :=
  match t with
  | .extest => decide (chain.toNat < 16)
  | .highz => decide (chain.toNat < 16)
  | .clampz => decide (chain.toNat < 16)
  | .clamp => chain != 0#5
  | _ => false

/-- The machine after an instruction-register scan (R592): `0001` is captured, `v` becomes the
instruction. -/
def scanIr (v : BitVec 4) (s : State) : Result :=
  if tapReserved (tapInstr v) s.tap.chain then .refused .debugPort
  else .next { s with tap := { s.tap with ir := v, out := 1#67 } }

/-- The TAP and the EmbeddedICE latches after `nTRST` (R590, R660): IDCODE, scan chain 3, CHAINOUT
cleared.  The other EmbeddedICE registers, SYSCOMP and the scan cells keep what they held, as R611 and R665 give
them no reset value (DESIGN CHOICE, log 65). -/
def testReset (s : State) : State :=
  { s with tap := { s.tap with ir := 0b1110#4, chain := 3#5 }, ice := { s.ice with chainOut := false } }

/-! EmbeddedICE registers. -/

/-- `DBGACK` (R581, R606, R615): debug state and the first three instruction fetches out of it, or forced by
bit 0 of debug control. -/
def State.debugAck (s : State) : Bool := s.dbg.active || s.dbg.ackFetches != 0 || s.ice.ctrl.getLsbD 0

/-- IFEN (R615, R616): interrupts reach the core, neither INTDIS nor `DBGACK` forbids them.  `DBGACK` counts
here without the fetches it masks after debug state, which hold no interrupt off (DESIGN CHOICE, log 57). -/
def State.ifen (s : State) : Bool := !(s.ice.ctrl.getLsbD 2 || s.dbg.active || s.ice.ctrl.getLsbD 0)

/-- Interrupts reach the core: IFEN, where the EmbeddedICE unit is enabled at all (R580, R615, R616). -/
def State.interruptsEnabled (s : State) : Bool := s.ifen || !s.pins.dbgen

/-- `COMMRX` (R62 (f), R622): the comms channel receive buffer holds data for the processor. -/
def State.commRx (s : State) : Bool := s.dcc.r

/-- `COMMTX` (R62 (f), R622): the comms channel transmit buffer is empty. -/
def State.commTx (s : State) : Bool := !s.dcc.w

/-- `BIGENDOUT` (R103, R654): the B bit. -/
def State.bigEndOut (s : State) : Bool := s.cp15.b

/-- `DRIVEOUTBS` (R598): INTEST, EXTEST, CLAMP or CLAMPZ is selected, with scan chain 3. -/
def State.driveOutBs (s : State) : Bool :=
  s.tap.chain == 3#5 && (tapInstr s.tap.ir ∈ [TapInstr.intest, .extest, .clamp, .clampz])

/-- `RSTCLKBS` (R598): `nTRST` resets the cells of the external boundary scan chain, scan chain 3.  The RESET
state of the controller lies between two scans (log 21). -/
def State.rstClkBs (s : State) : Bool := s.tap.chain == 3#5 && !s.pins.nTRST

/-- The signals that the debug status register shows (R616). -/
def State.debugStatus (s : State) : BitVec 5 :=
  BitVec.ofBool s.thumb ++ BitVec.ofBool s.ice.sysComp ++ BitVec.ofBool s.ifen ++
    BitVec.ofBool s.debugRequest ++ BitVec.ofBool s.debugAck

/-- The registers of the EmbeddedICE unit (R611). -/
inductive IceReg where
  | debugControl
  | debugStatus
  | vectorCatch
  | commsControl
  | commsData
  | addrValue (unit1 : Bool)
  | addrMask (unit1 : Bool)
  | dataValue (unit1 : Bool)
  | dataMask (unit1 : Bool)
  | ctrlValue (unit1 : Bool)
  | ctrlMask (unit1 : Bool)
  deriving DecidableEq, Repr

/-- The register map (R611, Table 8-10). -/
def iceReg (addr : BitVec 5) : Option IceReg :=
  match addr.toNat with
  | 0b00000 => some .debugControl
  | 0b00001 => some .debugStatus
  | 0b00010 => some .vectorCatch
  | 0b00100 => some .commsControl
  | 0b00101 => some .commsData
  | 0b01000 => some (.addrValue false)
  | 0b01001 => some (.addrMask false)
  | 0b01010 => some (.dataValue false)
  | 0b01011 => some (.dataMask false)
  | 0b01100 => some (.ctrlValue false)
  | 0b01101 => some (.ctrlMask false)
  | 0b10000 => some (.addrValue true)
  | 0b10001 => some (.addrMask true)
  | 0b10010 => some (.dataValue true)
  | 0b10011 => some (.dataMask true)
  | 0b10100 => some (.ctrlValue true)
  | 0b10101 => some (.ctrlMask true)
  | _ => none

/-- A watchpoint unit (R610). -/
def Ice.unit (i : Ice) (unit1 : Bool) : Watchpoint := if unit1 then i.wp1 else i.wp0

/-- The EmbeddedICE unit with a watchpoint unit replaced. -/
def Ice.setUnit (i : Ice) (unit1 : Bool) (w : Watchpoint) : Ice :=
  if unit1 then { i with wp1 := w } else { i with wp0 := w }

/-- What the debugger reads from a register (R611, R620): `free` fills the bits that no register has. -/
def State.iceRead (s : State) (r : IceReg) (free : Word) : Word :=
  match r with
  | .debugControl => free.extractLsb' 4 28 ++ s.ice.ctrl
  | .debugStatus => free.extractLsb' 5 27 ++ s.debugStatus
  | .vectorCatch => free.extractLsb' 8 24 ++ s.ice.vectorCatch
  | .commsControl => Config.iceVersion ++ free.extractLsb' 2 26 ++ BitVec.ofBool s.dcc.w ++ BitVec.ofBool s.dcc.r
  | .commsData => s.dcc.writeData
  | .addrValue u => (s.ice.unit u).addrValue
  | .addrMask u => (s.ice.unit u).addrMask
  | .dataValue u => (s.ice.unit u).dataValue
  | .dataMask u => (s.ice.unit u).dataMask
  | .ctrlValue u => free.extractLsb' 9 23 ++ (s.ice.unit u).ctrlValue
  | .ctrlMask u => free.extractLsb' 8 24 ++ (s.ice.unit u).ctrlMask

/-- A debugger read empties the comms data write register (R62 (b), R621), and finds in the debug status register
what its signals, synchronized to TCK, have put there (R616). -/
def State.afterIceRead (s : State) : IceReg → State
  | .commsData => { s with dcc := s.dcc.collect }
  | .debugStatus => { s with ice := { s.ice with status := s.debugStatus } }
  | _ => s

/-- The machine after a debugger write (R611 to R617, R620).  A write of the debug status register writes its five
bits (R616); its signals take them back before the next read, so that the register reads as R74's read-only one (log
24).  The comms control register is read only (R61).  Bit 3 of a control mask is always clear (R613), and writing the
control value of unit 1 clears its CHAINOUT latch. -/
def iceWrite (r : IceReg) (v : Word) (s : State) : Result :=
  match r with
  | .debugControl => .next { s with ice := { s.ice with ctrl := v.extractLsb' 0 4 } }
  | .debugStatus => .next { s with ice := { s.ice with status := v.extractLsb' 0 5 } }
  | .vectorCatch => .next { s with ice := { s.ice with vectorCatch := v.extractLsb' 0 8 } }
  | .commsControl => .refused .debugPort
  | .commsData => .next { s with dcc := s.dcc.deposit v }
  | .addrValue u => .next { s with ice := s.ice.setUnit u { s.ice.unit u with addrValue := v } }
  | .addrMask u => .next { s with ice := s.ice.setUnit u { s.ice.unit u with addrMask := v } }
  | .dataValue u => .next { s with ice := s.ice.setUnit u { s.ice.unit u with dataValue := v } }
  | .dataMask u => .next { s with ice := s.ice.setUnit u { s.ice.unit u with dataMask := v } }
  | .ctrlValue u =>
    let i := s.ice.setUnit u { s.ice.unit u with ctrlValue := v.extractLsb' 0 9 }
    .next { s with ice := { i with chainOut := if u then false else i.chainOut } }
  | .ctrlMask u =>
    .next { s with ice := s.ice.setUnit u { s.ice.unit u with ctrlMask := v.extractLsb' 0 8 &&& 0xF7#8 } }

/-! The scan chains. -/

/-- What scan chain 1 shifts out: its cells, bit `i` the cell of position `i + 1` (R596). -/
def Tap.cells1 (t : Tap) : BitVec 67 :=
  t.dd.reverse ++ BitVec.ofBool t.ddEn ++ BitVec.ofBool t.wptAndBkpt ++ BitVec.ofBool t.sysSpeed ++ t.instr

/-- The cells of scan chain 1 after `v` has been shifted in (R596). -/
def Tap.setCells1 (t : Tap) (v : BitVec 67) : Tap :=
  { t with
    instr := v.extractLsb' 0 32, sysSpeed := v.getLsbD 32, wptAndBkpt := v.getLsbD 33
    ddEn := v.getLsbD 34, dd := (v.extractLsb' 35 32).reverse }

/-- 67 free bits (R21): what a scan shifts out where the spec gives no value. -/
def State.freeOut (s : State) : BitVec 67 :=
  (Config.freeWord s.draws).extractLsb' 0 3 ++ Config.freeWord (s.draws + 1) ++ Config.freeWord (s.draws + 2)

/-- The TAP with the value a scan shifted out. -/
def State.setOut (s : State) (v : BitVec 67) : State := { s with tap := { s.tap with out := v } }

/-- A scan that shifts out free bits and changes nothing else. -/
def scanFree (s : State) : State := { s.setOut s.freeOut with draws := s.draws + 3 }

/-- An external scan chain: number 3, or one of the unassigned numbers (R595). -/
def externalChain (chain : BitVec 5) : Bool := chain == 3#5 || decide (16 ≤ chain.toNat)

/-- A scan of an external chain (R595, R598): `v` goes out on `SDIN`; what comes back on `SDOUTBS` is outside
the macrocell, and free.  The length of such a chain is user-defined (R8, R598, R652); here a scan carries 67
bits, and a longer chain sees more than one scan (DESIGN CHOICE, log 61). -/
def scanExternal (v : BitVec 67) (s : State) : State :=
  let t := scanFree s
  { t with tap := { t.tap with sdin := v } }

/-- UPDATE-DR of scan chain 2 with `v` in its register (R597): a write, or a read into bits 31:0. -/
def update2 (v : BitVec 38) (s : State) : Result :=
  match iceReg (v.extractLsb' 32 5) with
  | none => .refused .debugPort
  | some r =>
    if v.getLsbD 37 then
      iceWrite r (v.extractLsb' 0 32) { s with tap := { s.tap with scan2 := v } }
    else
      let w := s.iceRead r s.draw.1
      .next { s.draw.2.afterIceRead r with tap := { s.tap with scan2 := v.extractLsb' 32 6 ++ w } }

/-- UPDATE-DR of scan chains 4 and 5 with `v` in the register (R599): the line's Valid and Dirty bits and
its TAG; the bits of the addressing format that should be zero are zero. -/
def camRead (c : Cache) (dirty : Bool) (v : BitVec 29) : Option (BitVec 29) :=
  if v.getLsbD 28 || v.extractLsb' 6 16 != 0#16 || v.extractLsb' 2 4 != 0#4 then none
  else
    let l := c.line ⟨(v.extractLsb' 0 2).toNat, (v.extractLsb' 0 2).isLt⟩ (lineIdx (v.extractLsb' 22 6))
    some (BitVec.ofBool l.valid ++ BitVec.ofBool (dirty && l.dirty) ++ Config.camTag l.tag)

/-- What scan chain 15 can address (R600). -/
inductive Chain15 where
  | register (r : SysReg)
  | flushI
  deriving DecidableEq, Repr

/-- The address mapping of scan chain 15 (R600, Table 8-14), bits 37, 36:33 and 32. -/
def chain15Reg (addr : BitVec 6) : Option Chain15 :=
  let side : Side := if addr.getLsbD 0 then .instr else .data
  let n := (addr.extractLsb' 1 4).toNat
  if addr.getLsbD 5 then
    if h : n < 8 then some (.register (.region side ⟨n, h⟩)) else none
  else
    match n, addr.getLsbD 0 with
    | 0b0000, false => some (.register .idCode)
    | 0b0001, false => some (.register .control)
    | 0b0010, _ => some (.register (.cachable side))
    | 0b0011, false => some (.register .bufferable)
    | 0b0101, _ => some (.register (.permission side))
    | 0b0111, true => some .flushI
    | 0b1001, _ => some (.register (.lockdown side))
    | 0b1111, false => some (.register .test)
    | _, _ => none

/-- UPDATE-DR of scan chain 15 with `v` in its register (R600).  A read of the flush pseudo register has
bit 31 clear: the flush has happened. -/
def update15 (v : BitVec 39) (s : State) : Result :=
  let data : Word := v.extractLsb' 0 32
  let put (w : Word) (s : State) : State := { s with tap := { s.tap with scan15 := v.extractLsb' 32 7 ++ w } }
  match chain15Reg (v.extractLsb' 32 6), v.getLsbD 38 with
  | none, _ => .refused .debugPort
  | some .flushI, true => .next (put data { s with icache := s.icache.mapLines Line.invalid })
  | some .flushI, false => .next (put (s.draw.1 &&& 0x7FFFFFFF#32) s.draw.2)
  | some (.register r), true =>
    match r.writeRefusal data with
    | some e => .refused e
    | none => .next (put data { s with cp15 := s.cp15.write r data })
  | some (.register r), false =>
    .next (put (s.sysRead r) (if r.freeBits = 0#32 then s else s.draw.2))

/-- What scan chain 1 shifts out under INTEST (R592, R596): its cells, but that the instruction data cells have
captured the instruction bus, a system input with no instruction on it in debug state (R581), as `id` (log 58). -/
def Tap.captured1 (t : Tap) (id : Word) : BitVec 67 := { t with instr := id }.cells1

/-- A data-register scan of the selected chain under INTEST (R592, R596 to R600): the cells shift out, `v`
shifts in, and the chain's UPDATE-DR follows.  Chain 0 is production test and chains 6 to 14 are reserved;
the cells of chain 3 and of the external chains are outside the macrocell. -/
def scanIntest (v : BitVec 67) (s : State) : Result :=
  match s.tap.chain.toNat with
  | 1 => .next { s.draw.2 with tap := { s.tap.setCells1 v with out := s.tap.captured1 s.draw.1 } }
  | 2 => update2 (v.extractLsb' 0 38) (s.setOut (s.tap.scan2.zeroExtend 67))
  | 4 =>
    match camRead s.icache false (v.extractLsb' 0 29) with
    | none => .refused .debugPort
    | some r => .next { s with tap := { s.tap with out := s.tap.scan4.zeroExtend 67, scan4 := r } }
  | 5 =>
    match camRead s.dcache true (v.extractLsb' 0 29) with
    | none => .refused .debugPort
    | some r => .next { s with tap := { s.tap with out := s.tap.scan5.zeroExtend 67, scan5 := r } }
  | 15 => update15 (v.extractLsb' 0 39) (s.setOut (s.tap.scan15.zeroExtend 67))
  | _ => if externalChain s.tap.chain then .next (scanExternal v s) else .refused .debugPort

/-- A data-register scan under SAMPLE/PRELOAD (R592): the cells are loaded, nothing acts.  What the cells of
chains 1 and 0 capture from the signals is free. -/
def scanSample (v : BitVec 67) (s : State) : Result :=
  match s.tap.chain.toNat with
  | 1 => .next { scanFree s with tap := { (scanFree s).tap.setCells1 v with out := s.freeOut } }
  | 2 => .next { s with tap := { s.tap with out := s.tap.scan2.zeroExtend 67, scan2 := v.extractLsb' 0 38 } }
  | 4 => .next { s with tap := { s.tap with out := s.tap.scan4.zeroExtend 67, scan4 := v.extractLsb' 0 29 } }
  | 5 => .next { s with tap := { s.tap with out := s.tap.scan5.zeroExtend 67, scan5 := v.extractLsb' 0 29 } }
  | 15 => .next { s with tap := { s.tap with out := s.tap.scan15.zeroExtend 67, scan15 := v.extractLsb' 0 39 } }
  | 0 => .next (scanFree s)
  | _ => if externalChain s.tap.chain then .next (scanExternal v s) else .refused .debugPort

/-- A whole data-register scan with `v` shifted in (R591 to R600). -/
def scanDr (v : BitVec 67) (s : State) : Result :=
  match tapInstr s.tap.ir with
  | .scanN => .next { s with tap := { s.tap with out := 0b10000#67, chain := v.extractLsb' 0 5 } }
  | .idcode => .next (s.setOut (s.pins.tapId.zeroExtend 67))
  | .intest => scanIntest v s
  | .sample => scanSample v s
  | .extest => .next (if externalChain s.tap.chain then scanExternal v s else scanFree s)
  | .restart => .next (s.setOut (v <<< 1))
  | .clamp => .next (s.setOut (v <<< 1))
  | .highz => .next (s.setOut (v <<< 1))
  | .clampz => .next (s.setOut (v <<< 1))
  | .bypass => .next (s.setOut (v <<< 1))

end Sys2Proof.Machine
end

