-- ==== Sys2Proof/Machine/LoadStore.lean ====
section
/-!
DEFINITION. The ARM single-register loads and stores and the swaps (R320 to R336).
-/

namespace Sys2Proof.Machine

/-- The register an offset names, if it names one (R214). -/
def offsetReg2 : Offset2 → Option (BitVec 4)
  | .imm _ => none
  | .reg _ _ rm => some rm

/-- The register an offset names, if it names one (R215). -/
def offsetReg3 : Offset3 → Option (BitVec 4)
  | .imm _ _ => none
  | .reg _ rm => some rm

/-- The register combinations of addressing modes 2 and 3 that are UNPREDICTABLE (R214, R215, R320, U11): `rm`
the offset register, `wb` whether the form writes its base back.  The vector of section 2.6 that loads into its
own written-back base is set aside (log 41). -/
def indexRefusal (wb : Bool) (rn rd : BitVec 4) (rm : Option (BitVec 4)) : Option Refusal :=
  if rm = some 15#4 then some .r15Operand
  else if wb && (rn == 15#4) then some .r15Operand
  else if wb && (rm == some rn || rd == rn) then some .registerClash
  else none

/-- The address of an access and the value its base is written back with, if any (R214, R215). -/
structure Indexing where
  address : Word
  writeback : Option Word
  deriving DecidableEq, Repr

/-- Offset and pre-indexed addressing (P = 1) and post-indexed addressing (P = 0) (R214, R215). -/
def State.indexing (s : State) (p u w : BitVec 1) (rn : BitVec 4) (offset : Word) : Indexing :=
  let target := indexed (s.reg rn) offset u
  if p = 1#1 then { address := target, writeback := if w = 1#1 then some target else none }
  else { address := s.reg rn, writeback := some target }

/-- The base register after an access that completed (R320 (3)). -/
def State.writeBase (s : State) (rn : BitVec 4) : Option Word → State
  | none => s
  | some v => s.setReg rn v

/-- A form that is UNPREDICTABLE is refused; any other runs. -/
def unlessRefused (r : Option Refusal) (k : Result) : Result :=
  match r with
  | some r => .refused r
  | none => k

/-- The address of a transfer: word transfers ignore bits 1:0 (R107 (a), (b)). -/
def transferAddr (sz : Size) (a : Word) : Word :=
  match sz with
  | .word => wordAddr a
  | _ => a

/-- A halfword transfer at an odd address (R107 (e), R329). -/
def oddHalf (sz : Size) (a : Word) : Bool := sz == .half && a.getLsbD 0

/-- What a load makes of the item it read (R321, R323, R330, R332, R333). -/
inductive LoadKind where
  | word | byte | half | signedByte | signedHalf
  deriving DecidableEq, Repr

/-- The size of a load. -/
def LoadKind.size : LoadKind → Size
  | .word => .word
  | .byte => .byte
  | .half => .half
  | .signedByte => .byte
  | .signedHalf => .half

/-- The register value of an item loaded from address `a`: words rotate, narrower items extend (R107 (a),
R323, R330, R332, R333). -/
def LoadKind.value (k : LoadKind) (v a : Word) : Word :=
  match k with
  | .word => rotateLoaded v a
  | .byte => v
  | .half => v
  | .signedByte => (v.extractLsb' 0 8).signExtend 32
  | .signedHalf => (v.extractLsb' 0 16).signExtend 32

/-- A load of R15 drops bits 1:0 and keeps the state (R321); any other register just takes the value. -/
def loadWrite (rd : BitVec 4) (v : Word) (s : State) : Result :=
  if rd = 15#4 then .next { s with pc := v &&& 0xFFFFFFFC#32 } else finish (s.setReg rd v)

/-- A load (R320): the access, the base, the destination. -/
def loadInto (k : LoadKind) (privileged : Bool) (rn rd : BitVec 4) (ix : Indexing) (s : State) : Result :=
  if oddHalf k.size ix.address then .refused .oddHalfword
  else
    afterAccess (load (transferAddr k.size ix.address) k.size privileged s) fun v s =>
      loadWrite rd (k.value v ix.address) (s.writeBase rn ix.writeback)

/-- A store (R320): the access, the base. -/
def storeFrom (sz : Size) (privileged : Bool) (rn rd : BitVec 4) (ix : Indexing) (s : State) : Result :=
  if oddHalf sz ix.address then .refused .oddHalfword
  else
    afterAccess (store (transferAddr sz ix.address) sz (s.storedReg rd) privileged false s) fun _ s =>
      finish (s.writeBase rn ix.writeback)

/-- R15 as the register of a byte, halfword or T form (R320, R329). -/
def pcRefusal (allowed : Bool) (rd : BitVec 4) : Option Refusal :=
  if !allowed && rd == 15#4 then some .r15Operand else none

/-- LDR and LDRB in all their forms, and with User privilege for the T forms (R320 to R327). -/
def loadOp (k : LoadKind) (pcOk user : Bool) (cond : BitVec 4) (p u w : BitVec 1) (rn rd : BitVec 4)
    (off : Offset2) (s : State) : Result :=
  ifPassed cond s fun s =>
    unlessRefused (pcRefusal pcOk rd) <|
    unlessRefused (indexRefusal (p == 0#1 || w == 1#1) rn rd (offsetReg2 off)) <|
    loadInto k (!user && s.privileged) rn rd (s.indexing p u w rn (s.offset2 off)) s

/-- STR and STRB in all their forms, and with User privilege for the T forms (R320 to R328). -/
def storeOp (sz : Size) (pcOk user : Bool) (cond : BitVec 4) (p u w : BitVec 1) (rn rd : BitVec 4)
    (off : Offset2) (s : State) : Result :=
  ifPassed cond s fun s =>
    unlessRefused (pcRefusal pcOk rd) <|
    unlessRefused (indexRefusal (p == 0#1 || w == 1#1) rn rd (offsetReg2 off)) <|
    storeFrom sz (!user && s.privileged) rn rd (s.indexing p u w rn (s.offset2 off)) s

/-- The forms of addressing mode 3 that are UNPREDICTABLE whatever the registers hold (R215, R237,
R329). -/
def halfRefusal (p w : BitVec 1) : Offset3 → Option Refusal
  | .reg sbz _ => if sbz ≠ 0#4 then some .shouldBe else if p = 0#1 ∧ w = 1#1 then some .indexMode else none
  | .imm _ _ => if p = 0#1 ∧ w = 1#1 then some .indexMode else none

/-- LDRH, LDRSB and LDRSH (R329, R330, R332, R333). -/
def loadHalfOp (k : LoadKind) (cond : BitVec 4) (p u w : BitVec 1) (rn rd : BitVec 4) (off : Offset3)
    (s : State) : Result :=
  ifPassed cond s fun s =>
    unlessRefused (halfRefusal p w off) <|
    unlessRefused (pcRefusal false rd) <|
    unlessRefused (indexRefusal (p == 0#1 || w == 1#1) rn rd (offsetReg3 off)) <|
    loadInto k s.privileged rn rd (s.indexing p u w rn (s.offset3 off)) s

/-- STRH (R329, R331). -/
def storeHalfOp (cond : BitVec 4) (p u w : BitVec 1) (rn rd : BitVec 4) (off : Offset3) (s : State) : Result :=
  ifPassed cond s fun s =>
    unlessRefused (halfRefusal p w off) <|
    unlessRefused (pcRefusal false rd) <|
    unlessRefused (indexRefusal (p == 0#1 || w == 1#1) rn rd (offsetReg3 off)) <|
    storeFrom .half s.privileged rn rd (s.indexing p u w rn (s.offset3 off)) s

/-- SWP and SWPB (R334, R335): both registers are read before anything is written.  Rn = Rm and Rn = Rd are
UNPREDICTABLE (R334, U14); the vector of section 2.8 with Rn = Rm is set aside (log 41). -/
def swapOp (sz : Size) (k : LoadKind) (cond rn rd sbz rm : BitVec 4) (s : State) : Result :=
  ifPassed cond s fun s =>
    if sbz ≠ 0#4 then .refused .shouldBe
    else if rn = 15#4 ∨ rd = 15#4 ∨ rm = 15#4 then .refused .r15Operand
    else if rn = rd ∨ rn = rm then .refused .registerClash
    else
      afterAccess (swapAccess (transferAddr sz (s.reg rn)) sz (s.reg rm) s) fun v s' =>
        finish (s'.setReg rd (k.value v (s.reg rn)))

/-- LDR, offset and pre-indexed (R321). -/
def execLdr (cond : BitVec 4) (u w : BitVec 1) (rn rd : BitVec 4) (off : Offset2) (s : State) : Result :=
  loadOp .word true false cond 1#1 u w rn rd off s

/-- LDR, post-indexed (R321). -/
def execLdrPost (cond : BitVec 4) (u : BitVec 1) (rn rd : BitVec 4) (off : Offset2) (s : State) : Result :=
  loadOp .word true false cond 0#1 u 0#1 rn rd off s

/-- LDRT (R325). -/
def execLdrt (cond : BitVec 4) (u : BitVec 1) (rn rd : BitVec 4) (off : Offset2) (s : State) : Result :=
  loadOp .word false true cond 0#1 u 1#1 rn rd off s

/-- LDRB, offset and pre-indexed (R323). -/
def execLdrb (cond : BitVec 4) (u w : BitVec 1) (rn rd : BitVec 4) (off : Offset2) (s : State) : Result :=
  loadOp .byte false false cond 1#1 u w rn rd off s

/-- LDRB, post-indexed (R323). -/
def execLdrbPost (cond : BitVec 4) (u : BitVec 1) (rn rd : BitVec 4) (off : Offset2) (s : State) : Result :=
  loadOp .byte false false cond 0#1 u 0#1 rn rd off s

/-- LDRBT (R327). -/
def execLdrbt (cond : BitVec 4) (u : BitVec 1) (rn rd : BitVec 4) (off : Offset2) (s : State) : Result :=
  loadOp .byte false true cond 0#1 u 1#1 rn rd off s

/-- STR, offset and pre-indexed (R322). -/
def execStr (cond : BitVec 4) (u w : BitVec 1) (rn rd : BitVec 4) (off : Offset2) (s : State) : Result :=
  storeOp .word true false cond 1#1 u w rn rd off s

/-- STR, post-indexed (R322). -/
def execStrPost (cond : BitVec 4) (u : BitVec 1) (rn rd : BitVec 4) (off : Offset2) (s : State) : Result :=
  storeOp .word true false cond 0#1 u 0#1 rn rd off s

/-- STRT (R326). R326 gives the value of R15, which R320 would refuse (log 15). -/
def execStrt (cond : BitVec 4) (u : BitVec 1) (rn rd : BitVec 4) (off : Offset2) (s : State) : Result :=
  storeOp .word true true cond 0#1 u 1#1 rn rd off s

/-- STRB, offset and pre-indexed (R324). -/
def execStrb (cond : BitVec 4) (u w : BitVec 1) (rn rd : BitVec 4) (off : Offset2) (s : State) : Result :=
  storeOp .byte false false cond 1#1 u w rn rd off s

/-- STRB, post-indexed (R324). -/
def execStrbPost (cond : BitVec 4) (u : BitVec 1) (rn rd : BitVec 4) (off : Offset2) (s : State) : Result :=
  storeOp .byte false false cond 0#1 u 0#1 rn rd off s

/-- STRBT (R328). -/
def execStrbt (cond : BitVec 4) (u : BitVec 1) (rn rd : BitVec 4) (off : Offset2) (s : State) : Result :=
  storeOp .byte false true cond 0#1 u 1#1 rn rd off s

/-- STRH (R331). -/
def execStrh (cond : BitVec 4) (p u w : BitVec 1) (rn rd : BitVec 4) (off : Offset3) (s : State) : Result :=
  storeHalfOp cond p u w rn rd off s

/-- LDRH (R330). -/
def execLdrh (cond : BitVec 4) (p u w : BitVec 1) (rn rd : BitVec 4) (off : Offset3) (s : State) : Result :=
  loadHalfOp .half cond p u w rn rd off s

/-- LDRSB (R332). -/
def execLdrsb (cond : BitVec 4) (p u w : BitVec 1) (rn rd : BitVec 4) (off : Offset3) (s : State) : Result :=
  loadHalfOp .signedByte cond p u w rn rd off s

/-- LDRSH (R333). -/
def execLdrsh (cond : BitVec 4) (p u w : BitVec 1) (rn rd : BitVec 4) (off : Offset3) (s : State) : Result :=
  loadHalfOp .signedHalf cond p u w rn rd off s

/-- SWP (R334). -/
def execSwp (cond rn rd sbz rm : BitVec 4) (s : State) : Result := swapOp .word .word cond rn rd sbz rm s

/-- SWPB (R335). -/
def execSwpb (cond rn rd sbz rm : BitVec 4) (s : State) : Result := swapOp .byte .byte cond rn rd sbz rm s

end Sys2Proof.Machine
end

