-- ==== Sys2Proof/Machine/Block.lean ====
section
/-!
DEFINITION. The block transfers: LDM and STM in all their forms (R350 to R357), and what the Thumb block
transfers share with them (R504 to R507).
-/

namespace Sys2Proof.Machine

/-- The registers of a list, lowest first (R350). -/
def regsOf (list : BitVec 16) : List (BitVec 4) :=
  ((List.range 16).filter fun i => list.getLsbD i).map fun i => BitVec.ofNat 4 i

/-- Register `i` is in the list (R350). -/
def inList (list : BitVec 16) (i : BitVec 4) : Bool := list.getLsbD i.toNat

/-- The bytes the list takes: four for each register (R216). -/
def listBytes (list : BitVec 16) : Word := BitVec.ofNat 32 (4 * (regsOf list).length)

/-- The first address of a block transfer (R216). -/
def blockStart (p u : BitVec 1) (base : Word) (list : BitVec 16) : Word :=
  match u.toNat, p.toNat with
  | 1, 0 => base
  | 1, _ => base + 4#32
  | _, 0 => base - listBytes list + 4#32
  | _, _ => base - listBytes list

/-- The base after writeback (R216). -/
def blockBase (u : BitVec 1) (base : Word) (list : BitVec 16) : Word :=
  if u = 1#1 then base + listBytes list else base - listBytes list

/-- What a block load holds back until it has completed: the PC and the base (R351, R356). -/
structure Held where
  pc : Option Word
  base : Option Word
  deriving DecidableEq, Repr

/-- The words of a block load in ascending order (R351, R356): register `i` of mode `m` is written as soon
as it is loaded, but for R15 and the registers `hold` names. -/
def loadMany (m : BitVec 5) (hold : BitVec 4 → Bool) : List (BitVec 4) → Word → Held → State → Access Held
  | [], _, h, s => .done h s
  | i :: rest, a, h, s =>
    match load (wordAddr a) .word s.privileged s with
    | .done v s' =>
      if i = 15#4 then loadMany m hold rest (a + 4#32) { h with pc := some v } s'
      else if hold i then loadMany m hold rest (a + 4#32) { h with base := some v } s'
      else loadMany m hold rest (a + 4#32) h (s'.bankSet m i v)
    | .abort s' => .abort s'
    | .fault f => .fault f

/-- The words of a block store in ascending order (R354, R356); words after the first may share a write
buffer entry (R151; PUSH and STMIA as STM, R504, R506). -/
def storeMany : List Word → Word → Bool → State → Access Unit
  | [], _, _, s => .done () s
  | v :: rest, a, join, s =>
    match store (wordAddr a) .word v s.privileged join s with
    | .done _ s' => storeMany rest (a + 4#32) true s'
    | .abort s' => .abort s'
    | .fault f => .fault f

/-- The forms UNPREDICTABLE for every block transfer (R350). -/
def blockRefusal (rn : BitVec 4) (list : BitVec 16) : Option Refusal :=
  if list = 0#16 ∨ rn = 15#4 then some .blockForm else none

/-- A block load with its base in the list and writeback (R350). -/
def baseRefusal (w : BitVec 1) (rn : BitVec 4) (list : BitVec 16) : Option Refusal :=
  if w = 1#1 ∧ inList list rn = true then some .blockForm else none

/-- The User bank forms with writeback, or in a mode that uses the User registers itself (R352, R355). -/
def userRefusal (w : BitVec 1) (s : State) : Option Refusal :=
  if w = 1#1 ∨ s.mode = modeUsr ∨ s.mode = modeSys then some .blockForm else none

/-- Register `i` of mode `m` as a loaded base, if the base was in the list (R351). -/
def State.setHeld (s : State) (m : BitVec 5) (i : BitVec 4) : Option Word → State
  | none => s
  | some v => s.bankSet m i v

/-- The base register after a block load: the loaded value if it was in the list, then writeback
(R351). -/
def State.loadedBase (s : State) (w : BitVec 1) (rn : BitVec 4) (h : Held) (wb : Word) : State :=
  let s := s.setHeld s.mode rn h.base
  if w = 1#1 then s.setReg rn wb else s

/-- The PC after a block load (R351): bits 1:0 of the loaded value are ignored, T never changes. -/
def loadedPc (h : Held) (s : State) : Result :=
  match h.pc with
  | some v => .next { s with pc := v &&& 0xFFFFFFFC#32 }
  | none => finish s

/-- LDM (1) (R351). -/
def execLdm (cond : BitVec 4) (p u w : BitVec 1) (rn : BitVec 4) (regList : BitVec 16) (s : State) : Result :=
  ifPassed cond s fun s =>
    unlessRefused (blockRefusal rn regList) <|
    unlessRefused (baseRefusal w rn regList) <|
    afterAccess (loadMany s.mode (· == rn) (regsOf regList) (blockStart p u (s.reg rn) regList)
        { pc := none, base := none } s) fun h s' =>
      loadedPc h (s'.loadedBase w rn h (blockBase u (s.reg rn) regList))

/-- LDM (2): the User registers (R352).  The base is held back only where the User register is the base
register itself. -/
def execLdmUser (cond : BitVec 4) (p u w : BitVec 1) (rn : BitVec 4) (regList : BitVec 15) (s : State) : Result :=
  let list : BitVec 16 := 0#1 ++ regList
  ifPassed cond s fun s =>
    unlessRefused (blockRefusal rn list) <|
    unlessRefused (userRefusal w s) <|
    afterAccess (loadMany modeUsr (fun i => i == rn && regIndex modeUsr i == regIndex s.mode i) (regsOf list)
        (blockStart p u (s.reg rn) list) { pc := none, base := none } s) fun h s' =>
      finish (s'.setHeld modeUsr rn h.base)

/-- LDM (3): with the PC, and the CPSR from the SPSR (R353). -/
def execLdmRestore (cond : BitVec 4) (p u w : BitVec 1) (rn : BitVec 4) (regList : BitVec 15) (s : State) : Result :=
  let list : BitVec 16 := 1#1 ++ regList
  ifPassed cond s fun s =>
    unlessRefused (blockRefusal rn list) <|
    unlessRefused (baseRefusal w rn list) <|
    if !modeHasSpsr s.mode then .refused .noSpsr
    else
      afterAccess (loadMany s.mode (· == rn) (regsOf list) (blockStart p u (s.reg rn) list)
          { pc := none, base := none } s) fun h s' =>
        returnFromException (writeLoadedPc (h.pc.getD 0#32)) (s'.loadedBase w rn h (blockBase u (s.reg rn) list))

/-- A block store with writeback whose base is in the list and is not its lowest register (R350, R506, U15,
U21; log 13). -/
def storedBaseRefusal (w : BitVec 1) (rn : BitVec 4) (list : BitVec 16) : Option Refusal :=
  if w = 1#1 ∧ inList list rn = true ∧ (regsOf list).head? ≠ some rn then some .blockForm else none

/-- The words an STM stores (R354): R15 is the address of the instruction plus 12. -/
def State.stmWords (s : State) (list : BitVec 16) : List Word := (regsOf list).map s.storedReg

/-- STM (1) (R354). -/
def execStm (cond : BitVec 4) (p u w : BitVec 1) (rn : BitVec 4) (regList : BitVec 16) (s : State) : Result :=
  ifPassed cond s fun s =>
    unlessRefused (blockRefusal rn regList) <|
    unlessRefused (storedBaseRefusal w rn regList) <|
    afterAccess (storeMany (s.stmWords regList) (blockStart p u (s.reg rn) regList) false s) fun _ s' =>
      finish (if w = 1#1 then s'.setReg rn (blockBase u (s.reg rn) regList) else s')

/-- The words an STM (2) stores: the User registers (R355). -/
def State.userWords (s : State) (list : BitVec 16) : List Word :=
  (regsOf list).map fun i => if i = 15#4 then s.pc + 12#32 else s.userReg i

/-- STM (2): the User registers (R355). -/
def execStmUser (cond : BitVec 4) (p u w : BitVec 1) (rn : BitVec 4) (regList : BitVec 16) (s : State) : Result :=
  ifPassed cond s fun s =>
    unlessRefused (blockRefusal rn regList) <|
    unlessRefused (userRefusal w s) <|
    afterAccess (storeMany (s.userWords regList) (blockStart p u (s.reg rn) regList) false s) fun _ s' =>
      finish s'

end Sys2Proof.Machine
end

