-- ==== Sys2Proof/Machine/Branch.lean ====
section
/-!
DEFINITION. B, BL, BX, SWI and the undefined instructions of the ARM set (R365 to R369), the row of
`cond = 0b1111` (R204), and what the Thumb branches share with them.
-/

namespace Sys2Proof.Machine

/-- A branch to an exact address; a target outside the address space is UNPREDICTABLE (R365; D26). -/
def branchTo (target : Int) (s : State) : Result :=
  if 0 ≤ target ∧ target < 2 ^ 32 then .next { s with pc := BitVec.ofInt 32 target }
  else .refused .addressWrap

/-- The target of B and BL (R218): 8 ahead, plus the signed immediate in words. -/
def State.branchTarget (s : State) (imm24 : BitVec 24) : Int := s.pc.toNat + 8 + 4 * imm24.toInt

/-- The state with `CPSR.T` replaced (R34, R37). -/
def State.setThumb (s : State) (t : Bool) : State :=
  { s with cpsr := s.cpsr.extractLsb' 6 26 ++ BitVec.ofBool t ++ s.cpsr.extractLsb' 0 5 }

/-- BX to an address: bit 0 becomes T; ARM state with bit 1 set is UNPREDICTABLE (R367, R482). -/
def exchangeTo (v : Word) (s : State) : Result :=
  if v.extractLsb' 0 2 = 2#2 then .refused .bxTarget
  else .next { s.setThumb (v.getLsbD 0) with pc := v &&& 0xFFFFFFFE#32 }

/-- The row `cond___1111` (R204). -/
def execCondNever (_rest : BitVec 28) (_s : State) : Result := .refused .condNever

/-- B (R365). -/
def execB (cond : BitVec 4) (imm24 : BitVec 24) (s : State) : Result :=
  ifPassed cond s fun s => branchTo (s.branchTarget imm24) s

/-- BL (R366). -/
def execBl (cond : BitVec 4) (imm24 : BitVec 24) (s : State) : Result :=
  ifPassed cond s fun s => branchTo (s.branchTarget imm24) (s.setReg 14#4 (s.pc + 4#32))

/-- BX (R367). -/
def execBx (cond sboA sboB sboC rm : BitVec 4) (s : State) : Result :=
  ifPassed cond s fun s =>
    if sboA ≠ 15#4 ∨ sboB ≠ 15#4 ∨ sboC ≠ 15#4 then .refused .shouldBe
    else if rm = 15#4 then .refused .r15Operand
    else exchangeTo (s.reg rm) s

/-- SWI (R368). -/
def execSwi (cond : BitVec 4) (_imm24 : BitVec 24) (s : State) : Result :=
  ifPassed cond s fun s => raise .swi s

/-- An undefined ARM instruction (R369). -/
def undefinedArm (cond : BitVec 4) (s : State) : Result := ifPassed cond s fun s => raise .undefined s

/-- Undefined (R369, R233 (a)). -/
def execUndControlImm (cond : BitVec 4) (_x22 : BitVec 1) (_rest : BitVec 20) (s : State) : Result :=
  undefinedArm cond s

/-- Undefined (R369, R233 (b)). -/
def execUndControlOne (cond : BitVec 4) (_x22 : BitVec 1) (_rest : BitVec 12) (_low : BitVec 4) (s : State) : Result :=
  undefinedArm cond s

/-- Undefined (R369, R233 (b)). -/
def execUndControlOneR (cond : BitVec 4) (_rest : BitVec 12) (_low : BitVec 4) (s : State) : Result :=
  undefinedArm cond s

/-- Undefined (R369, R233 (c)). -/
def execUndControlHigh (cond : BitVec 4) (_x22to21 : BitVec 2) (_rest : BitVec 12) (_x5 : BitVec 1) (_x4 : BitVec 1) (_low : BitVec 4) (s : State) : Result :=
  undefinedArm cond s

/-- Undefined (R369, R233 (c)). -/
def execUndControlLow (cond : BitVec 4) (_x22to21 : BitVec 2) (_rest : BitVec 12) (_x4 : BitVec 1) (_low : BitVec 4) (s : State) : Result :=
  undefinedArm cond s

/-- Undefined (R369, R233 (d)). -/
def execUndControlEven (cond : BitVec 4) (_x22to21 : BitVec 2) (_rest : BitVec 12) (_x6to5 : BitVec 2) (_low : BitVec 4) (s : State) : Result :=
  undefinedArm cond s

/-- Undefined (R369, R232). -/
def execUndMultiply (cond : BitVec 4) (_x21to20 : BitVec 2) (_rest : BitVec 12) (_low : BitVec 4) (s : State) : Result :=
  undefinedArm cond s

/-- Undefined (R369, R234 (a)). -/
def execUndSwapHigh (cond : BitVec 4) (_x22to20 : BitVec 3) (_rest : BitVec 12) (_low : BitVec 4) (s : State) : Result :=
  undefinedArm cond s

/-- Undefined (R369, R234 (a)). -/
def execUndSwapOdd (cond : BitVec 4) (_x22to21 : BitVec 2) (_rest : BitVec 12) (_low : BitVec 4) (s : State) : Result :=
  undefinedArm cond s

/-- Undefined (R369, R234 (a)). -/
def execUndSwapEven (cond : BitVec 4) (_x22 : BitVec 1) (_rest : BitVec 12) (_low : BitVec 4) (s : State) : Result :=
  undefinedArm cond s

/-- Undefined (R369, R234 (b)). -/
def execUndSignedStore (cond : BitVec 4) (_x24to21 : BitVec 4) (_rest : BitVec 12) (_x5 : BitVec 1) (_low : BitVec 4) (s : State) : Result :=
  undefinedArm cond s

/-- Undefined (R369, R230). -/
def execUndSpace (cond : BitVec 4) (_rest : BitVec 20) (_low : BitVec 4) (s : State) : Result :=
  undefinedArm cond s

/-- Undefined (R369, R235). -/
def execUndCoproc (cond : BitVec 4) (_n : BitVec 1) (_l : BitVec 1) (_rest : BitVec 20) (s : State) : Result :=
  undefinedArm cond s

end Sys2Proof.Machine
end

