-- ==== Sys2Proof/WellFormed.lean ====
section
/-!
DEFINITION. Which terms of `Instr` stand for an encoding.  Every operand is a bit vector of the width its
field has, so two checks are left: an ARM row needs `cond` other than `0b1111` (those words are the row
`cond___1111`, R202, R204), and a generic MCR or MRC must not be one of the CP15 and CP14 operations that
have rows of their own (R206).
-/

namespace Sys2Proof

/-- The CP15 reads that have rows of their own (R401 to R423), by CRn, CRm and opcode_2. -/
def mrc15Listed (crn crm : BitVec 4) (opcode2 : BitVec 3) : Bool :=
  match crn.toNat, crm.toNat, opcode2.toNat with
  | 0, 0, 0 => true
  | 0, 0, 1 => true
  | 0, 0, 2 => true
  | 0, 0, 3 => true
  | 0, 0, 4 => true
  | 0, 0, 5 => true
  | 0, 0, 6 => true
  | 0, 0, 7 => true
  | 1, 0, 0 => true
  | 2, 0, 0 => true
  | 2, 0, 1 => true
  | 3, 0, 0 => true
  | 5, 0, 0 => true
  | 5, 0, 1 => true
  | 6, 0, 0 => true
  | 6, 0, 1 => true
  | 6, 1, 0 => true
  | 6, 1, 1 => true
  | 6, 2, 0 => true
  | 6, 2, 1 => true
  | 6, 3, 0 => true
  | 6, 3, 1 => true
  | 6, 4, 0 => true
  | 6, 4, 1 => true
  | 6, 5, 0 => true
  | 6, 5, 1 => true
  | 6, 6, 0 => true
  | 6, 6, 1 => true
  | 6, 7, 0 => true
  | 6, 7, 1 => true
  | 9, 0, 0 => true
  | 9, 0, 1 => true
  | 15, 0, 0 => true
  | _, _, _ => false

/-- The CP15 writes that have rows of their own (R403 to R423), by CRn, CRm and opcode_2. -/
def mcr15Listed (crn crm : BitVec 4) (opcode2 : BitVec 3) : Bool :=
  match crn.toNat, crm.toNat, opcode2.toNat with
  | 1, 0, 0 => true
  | 2, 0, 0 => true
  | 2, 0, 1 => true
  | 3, 0, 0 => true
  | 5, 0, 0 => true
  | 5, 0, 1 => true
  | 6, 0, 0 => true
  | 6, 0, 1 => true
  | 6, 1, 0 => true
  | 6, 1, 1 => true
  | 6, 2, 0 => true
  | 6, 2, 1 => true
  | 6, 3, 0 => true
  | 6, 3, 1 => true
  | 6, 4, 0 => true
  | 6, 4, 1 => true
  | 6, 5, 0 => true
  | 6, 5, 1 => true
  | 6, 6, 0 => true
  | 6, 6, 1 => true
  | 6, 7, 0 => true
  | 6, 7, 1 => true
  | 7, 0, 4 => true
  | 7, 5, 0 => true
  | 7, 5, 1 => true
  | 7, 5, 2 => true
  | 7, 6, 0 => true
  | 7, 6, 2 => true
  | 7, 8, 2 => true
  | 7, 10, 2 => true
  | 7, 10, 4 => true
  | 7, 13, 1 => true
  | 7, 14, 2 => true
  | 9, 0, 0 => true
  | 9, 0, 1 => true
  | 15, 0, 0 => true
  | 15, 8, 2 => true
  | _, _, _ => false

/-- The CP14 reads that have rows of their own (R430, R432). -/
def mrc14Listed (crn crm : BitVec 4) (opcode2 : BitVec 3) : Bool :=
  match crn.toNat, crm.toNat, opcode2.toNat with
  | 0, 0, 0 => true
  | 1, 0, 0 => true
  | _, _, _ => false

/-- The CP14 write that has a row of its own (R431). -/
def mcr14Listed (crn crm : BitVec 4) (opcode2 : BitVec 3) : Bool :=
  match crn.toNat, crm.toNat, opcode2.toNat with
  | 1, 0, 0 => true
  | _, _, _ => false

/-- An MRC with these fields is the generic row, not a CP15 or CP14 row (R206). -/
def mrcGeneric (opcode1 : BitVec 3) (crn cpNum : BitVec 4) (opcode2 : BitVec 3) (crm : BitVec 4) : Bool :=
  !(opcode1 == 0#3 && ((cpNum == 15#4 && mrc15Listed crn crm opcode2) ||
    (cpNum == 14#4 && mrc14Listed crn crm opcode2)))

/-- An MCR with these fields is the generic row, not a CP15 or CP14 row (R206). -/
def mcrGeneric (opcode1 : BitVec 3) (crn cpNum : BitVec 4) (opcode2 : BitVec 3) (crm : BitVec 4) : Bool :=
  !(opcode1 == 0#3 && ((cpNum == 15#4 && mcr15Listed crn crm opcode2) ||
    (cpNum == 14#4 && mcr14Listed crn crm opcode2)))

/-- The term stands for an encoding of its row (R202, R204, R206, R220). -/
def Instr.wellFormed : Instr → Bool
  | .condNever _ => true
  | .and cond _ _ _ _ => cond != 15#4
  | .eor cond _ _ _ _ => cond != 15#4
  | .sub cond _ _ _ _ => cond != 15#4
  | .rsb cond _ _ _ _ => cond != 15#4
  | .add cond _ _ _ _ => cond != 15#4
  | .adc cond _ _ _ _ => cond != 15#4
  | .sbc cond _ _ _ _ => cond != 15#4
  | .rsc cond _ _ _ _ => cond != 15#4
  | .tst cond _ _ _ => cond != 15#4
  | .teq cond _ _ _ => cond != 15#4
  | .cmp cond _ _ _ => cond != 15#4
  | .cmn cond _ _ _ => cond != 15#4
  | .orr cond _ _ _ _ => cond != 15#4
  | .mov cond _ _ _ _ => cond != 15#4
  | .bic cond _ _ _ _ => cond != 15#4
  | .mvn cond _ _ _ _ => cond != 15#4
  | .mrs cond _ _ _ _ _ => cond != 15#4
  | .msrReg cond _ _ _ _ _ => cond != 15#4
  | .msrImm cond _ _ _ _ _ => cond != 15#4
  | .bx cond _ _ _ _ => cond != 15#4
  | .undControlImm cond _ _ => cond != 15#4
  | .undControlOne cond _ _ _ => cond != 15#4
  | .undControlOneR cond _ _ => cond != 15#4
  | .undControlHigh cond _ _ _ _ _ => cond != 15#4
  | .undControlLow cond _ _ _ _ => cond != 15#4
  | .undControlEven cond _ _ _ _ => cond != 15#4
  | .mul cond _ _ _ _ _ => cond != 15#4
  | .mla cond _ _ _ _ _ => cond != 15#4
  | .umull cond _ _ _ _ _ => cond != 15#4
  | .umlal cond _ _ _ _ _ => cond != 15#4
  | .smull cond _ _ _ _ _ => cond != 15#4
  | .smlal cond _ _ _ _ _ => cond != 15#4
  | .undMultiply cond _ _ _ => cond != 15#4
  | .swp cond _ _ _ _ => cond != 15#4
  | .swpb cond _ _ _ _ => cond != 15#4
  | .undSwapHigh cond _ _ _ => cond != 15#4
  | .undSwapOdd cond _ _ _ => cond != 15#4
  | .undSwapEven cond _ _ _ => cond != 15#4
  | .strh cond _ _ _ _ _ _ => cond != 15#4
  | .ldrh cond _ _ _ _ _ _ => cond != 15#4
  | .ldrsb cond _ _ _ _ _ _ => cond != 15#4
  | .ldrsh cond _ _ _ _ _ _ => cond != 15#4
  | .undSignedStore cond _ _ _ _ => cond != 15#4
  | .ldr cond _ _ _ _ _ => cond != 15#4
  | .ldrPost cond _ _ _ _ => cond != 15#4
  | .ldrt cond _ _ _ _ => cond != 15#4
  | .str cond _ _ _ _ _ => cond != 15#4
  | .strPost cond _ _ _ _ => cond != 15#4
  | .strt cond _ _ _ _ => cond != 15#4
  | .ldrb cond _ _ _ _ _ => cond != 15#4
  | .ldrbPost cond _ _ _ _ => cond != 15#4
  | .ldrbt cond _ _ _ _ => cond != 15#4
  | .strb cond _ _ _ _ _ => cond != 15#4
  | .strbPost cond _ _ _ _ => cond != 15#4
  | .strbt cond _ _ _ _ => cond != 15#4
  | .undSpace cond _ _ => cond != 15#4
  | .ldm cond _ _ _ _ _ => cond != 15#4
  | .ldmUser cond _ _ _ _ _ => cond != 15#4
  | .ldmRestore cond _ _ _ _ _ => cond != 15#4
  | .stm cond _ _ _ _ _ => cond != 15#4
  | .stmUser cond _ _ _ _ _ => cond != 15#4
  | .b cond _ => cond != 15#4
  | .bl cond _ => cond != 15#4
  | .ldcPre cond _ _ _ _ _ _ _ => cond != 15#4
  | .ldcUp cond _ _ _ _ _ _ => cond != 15#4
  | .ldcDown cond _ _ _ _ _ => cond != 15#4
  | .stcPre cond _ _ _ _ _ _ _ => cond != 15#4
  | .stcUp cond _ _ _ _ _ _ => cond != 15#4
  | .stcDown cond _ _ _ _ _ => cond != 15#4
  | .undCoproc cond _ _ _ => cond != 15#4
  | .cdp cond _ _ _ _ _ _ => cond != 15#4
  | .mcr cond opcode1 crn _ cpNum opcode2 crm => cond != 15#4 && mcrGeneric opcode1 crn cpNum opcode2 crm
  | .mrc cond opcode1 crn _ cpNum opcode2 crm => cond != 15#4 && mrcGeneric opcode1 crn cpNum opcode2 crm
  | .swi cond _ => cond != 15#4
  | .mrcP15c0c0o0 cond _ => cond != 15#4
  | .mrcP15c0c0o2 cond _ => cond != 15#4
  | .mrcP15c0c0o3 cond _ => cond != 15#4
  | .mrcP15c0c0o4 cond _ => cond != 15#4
  | .mrcP15c0c0o5 cond _ => cond != 15#4
  | .mrcP15c0c0o6 cond _ => cond != 15#4
  | .mrcP15c0c0o7 cond _ => cond != 15#4
  | .mrcP15c0c0o1 cond _ => cond != 15#4
  | .mrcP15c1c0o0 cond _ => cond != 15#4
  | .mrcP15c2c0o0 cond _ => cond != 15#4
  | .mrcP15c2c0o1 cond _ => cond != 15#4
  | .mrcP15c3c0o0 cond _ => cond != 15#4
  | .mrcP15c5c0o0 cond _ => cond != 15#4
  | .mrcP15c5c0o1 cond _ => cond != 15#4
  | .mrcP15c6c0o0 cond _ => cond != 15#4
  | .mrcP15c6c0o1 cond _ => cond != 15#4
  | .mrcP15c6c1o0 cond _ => cond != 15#4
  | .mrcP15c6c1o1 cond _ => cond != 15#4
  | .mrcP15c6c2o0 cond _ => cond != 15#4
  | .mrcP15c6c2o1 cond _ => cond != 15#4
  | .mrcP15c6c3o0 cond _ => cond != 15#4
  | .mrcP15c6c3o1 cond _ => cond != 15#4
  | .mrcP15c6c4o0 cond _ => cond != 15#4
  | .mrcP15c6c4o1 cond _ => cond != 15#4
  | .mrcP15c6c5o0 cond _ => cond != 15#4
  | .mrcP15c6c5o1 cond _ => cond != 15#4
  | .mrcP15c6c6o0 cond _ => cond != 15#4
  | .mrcP15c6c6o1 cond _ => cond != 15#4
  | .mrcP15c6c7o0 cond _ => cond != 15#4
  | .mrcP15c6c7o1 cond _ => cond != 15#4
  | .mrcP15c9c0o0 cond _ => cond != 15#4
  | .mrcP15c9c0o1 cond _ => cond != 15#4
  | .mrcP15c15c0o0 cond _ => cond != 15#4
  | .mcrP15c1c0o0 cond _ => cond != 15#4
  | .mcrP15c2c0o0 cond _ => cond != 15#4
  | .mcrP15c2c0o1 cond _ => cond != 15#4
  | .mcrP15c3c0o0 cond _ => cond != 15#4
  | .mcrP15c5c0o0 cond _ => cond != 15#4
  | .mcrP15c5c0o1 cond _ => cond != 15#4
  | .mcrP15c6c0o0 cond _ => cond != 15#4
  | .mcrP15c6c0o1 cond _ => cond != 15#4
  | .mcrP15c6c1o0 cond _ => cond != 15#4
  | .mcrP15c6c1o1 cond _ => cond != 15#4
  | .mcrP15c6c2o0 cond _ => cond != 15#4
  | .mcrP15c6c2o1 cond _ => cond != 15#4
  | .mcrP15c6c3o0 cond _ => cond != 15#4
  | .mcrP15c6c3o1 cond _ => cond != 15#4
  | .mcrP15c6c4o0 cond _ => cond != 15#4
  | .mcrP15c6c4o1 cond _ => cond != 15#4
  | .mcrP15c6c5o0 cond _ => cond != 15#4
  | .mcrP15c6c5o1 cond _ => cond != 15#4
  | .mcrP15c6c6o0 cond _ => cond != 15#4
  | .mcrP15c6c6o1 cond _ => cond != 15#4
  | .mcrP15c6c7o0 cond _ => cond != 15#4
  | .mcrP15c6c7o1 cond _ => cond != 15#4
  | .mcrP15c9c0o0 cond _ => cond != 15#4
  | .mcrP15c9c0o1 cond _ => cond != 15#4
  | .mcrP15c15c0o0 cond _ => cond != 15#4
  | .mcrP15c7c5o0 cond _ => cond != 15#4
  | .mcrP15c7c5o2 cond _ => cond != 15#4
  | .mcrP15c7c6o0 cond _ => cond != 15#4
  | .mcrP15c7c6o2 cond _ => cond != 15#4
  | .mcrP15c7c10o2 cond _ => cond != 15#4
  | .mcrP15c7c13o1 cond _ => cond != 15#4
  | .mcrP15c7c14o2 cond _ => cond != 15#4
  | .mcrP15c7c0o4 cond _ => cond != 15#4
  | .mcrP15c15c8o2 cond _ => cond != 15#4
  | .mcrP15c7c10o4 cond _ => cond != 15#4
  | .mcrP15c7c8o2 cond _ => cond != 15#4
  | .mcrP15c7c5o1 cond _ => cond != 15#4
  | .mrcP14c0c0o0 cond _ => cond != 15#4
  | .mcrP14c1c0o0 cond _ => cond != 15#4
  | .mrcP14c1c0o0 cond _ => cond != 15#4
  | .tLslImm _ _ _ => true
  | .tLsrImm _ _ _ => true
  | .tAsrImm _ _ _ => true
  | .tAddReg _ _ _ => true
  | .tSubReg _ _ _ => true
  | .tAddImm3 _ _ _ => true
  | .tSubImm3 _ _ _ => true
  | .tMovImm _ _ => true
  | .tCmpImm _ _ => true
  | .tAddImm8 _ _ => true
  | .tSubImm8 _ _ => true
  | .tAnd _ _ => true
  | .tEor _ _ => true
  | .tLslReg _ _ => true
  | .tLsrReg _ _ => true
  | .tAsrReg _ _ => true
  | .tAdc _ _ => true
  | .tSbc _ _ => true
  | .tRorReg _ _ => true
  | .tTst _ _ => true
  | .tNeg _ _ => true
  | .tCmpReg _ _ => true
  | .tCmn _ _ => true
  | .tOrr _ _ => true
  | .tMul _ _ => true
  | .tBic _ _ => true
  | .tMvn _ _ => true
  | .tAddHi _ _ _ => true
  | .tAddLoHi _ _ => true
  | .tAddLow _ _ => true
  | .tCmpHi _ _ _ => true
  | .tCmpLoHi _ _ => true
  | .tCmpLow _ _ => true
  | .tMovHi _ _ _ => true
  | .tMovLoHi _ _ => true
  | .tMovLow _ _ => true
  | .tBx _ _ _ => true
  | .tBxHigh _ _ _ => true
  | .tLdrPc _ _ => true
  | .tStrReg _ _ _ => true
  | .tStrbReg _ _ _ => true
  | .tLdrReg _ _ _ => true
  | .tLdrbReg _ _ _ => true
  | .tStrhReg _ _ _ => true
  | .tLdrhReg _ _ _ => true
  | .tLdsbReg _ _ _ => true
  | .tLdshReg _ _ _ => true
  | .tStrImm _ _ _ => true
  | .tLdrImm _ _ _ => true
  | .tStrbImm _ _ _ => true
  | .tLdrbImm _ _ _ => true
  | .tStrhImm _ _ _ => true
  | .tLdrhImm _ _ _ => true
  | .tStrSp _ _ => true
  | .tLdrSp _ _ => true
  | .tAddPc _ _ => true
  | .tAddSp _ _ => true
  | .tAddSpImm _ => true
  | .tSubSpImm _ => true
  | .tPush _ _ => true
  | .tPop _ _ => true
  | .tUndB1 _ => true
  | .tUndB2 _ => true
  | .tUndB6 _ => true
  | .tUndB8 _ => true
  | .tUndBE _ => true
  | .tStmia _ _ => true
  | .tLdmia _ _ => true
  | .tBeq _ => true
  | .tBne _ => true
  | .tBcs _ => true
  | .tBcc _ => true
  | .tBmi _ => true
  | .tBpl _ => true
  | .tBvs _ => true
  | .tBvc _ => true
  | .tBhi _ => true
  | .tBls _ => true
  | .tBge _ => true
  | .tBlt _ => true
  | .tBgt _ => true
  | .tBle _ => true
  | .tUndCond _ => true
  | .tSwi _ => true
  | .tB _ => true
  | .tUndE8 _ => true
  | .tBlFirst _ => true
  | .tBlSecond _ => true

end Sys2Proof
end

