-- ==== Sys2Proof/Decode.lean ====
section
/-!
DEFINITION. From bits to instructions and back.  The ARM decoder follows the partition of R202 line by
line, the Thumb decoder that of R221; both are total, because the rows cover every ARM word and every
Thumb halfword (R206).  The only bytes the decoder rejects are too few of them.
-/

namespace Sys2Proof

/-- The field of `n` bits whose least significant bit is bit `lo` (R12). -/
def fld {k : Nat} (w : BitVec k) (lo n : Nat) : BitVec n := w.extractLsb' lo n

/-- Bit `i` of a code word (R12). -/
def bitAt {k : Nat} (w : BitVec k) (i : Nat) : Bool := w.getLsbD i

/-- R202 line 7, DP_IMM: the sixteen operations by `opcode`, bits 24:21 (R201). -/
def decodeDpImm (w : Word) : Instr :=
  match (fld w 21 4).toNat with
  | 0 => .and (fld w 28 4) (fld w 20 1) (fld w 16 4) (fld w 12 4) (.imm (fld w 8 4) (fld w 0 8))
  | 1 => .eor (fld w 28 4) (fld w 20 1) (fld w 16 4) (fld w 12 4) (.imm (fld w 8 4) (fld w 0 8))
  | 2 => .sub (fld w 28 4) (fld w 20 1) (fld w 16 4) (fld w 12 4) (.imm (fld w 8 4) (fld w 0 8))
  | 3 => .rsb (fld w 28 4) (fld w 20 1) (fld w 16 4) (fld w 12 4) (.imm (fld w 8 4) (fld w 0 8))
  | 4 => .add (fld w 28 4) (fld w 20 1) (fld w 16 4) (fld w 12 4) (.imm (fld w 8 4) (fld w 0 8))
  | 5 => .adc (fld w 28 4) (fld w 20 1) (fld w 16 4) (fld w 12 4) (.imm (fld w 8 4) (fld w 0 8))
  | 6 => .sbc (fld w 28 4) (fld w 20 1) (fld w 16 4) (fld w 12 4) (.imm (fld w 8 4) (fld w 0 8))
  | 7 => .rsc (fld w 28 4) (fld w 20 1) (fld w 16 4) (fld w 12 4) (.imm (fld w 8 4) (fld w 0 8))
  | 8 => .tst (fld w 28 4) (fld w 16 4) (fld w 12 4) (.imm (fld w 8 4) (fld w 0 8))
  | 9 => .teq (fld w 28 4) (fld w 16 4) (fld w 12 4) (.imm (fld w 8 4) (fld w 0 8))
  | 10 => .cmp (fld w 28 4) (fld w 16 4) (fld w 12 4) (.imm (fld w 8 4) (fld w 0 8))
  | 11 => .cmn (fld w 28 4) (fld w 16 4) (fld w 12 4) (.imm (fld w 8 4) (fld w 0 8))
  | 12 => .orr (fld w 28 4) (fld w 20 1) (fld w 16 4) (fld w 12 4) (.imm (fld w 8 4) (fld w 0 8))
  | 13 => .mov (fld w 28 4) (fld w 20 1) (fld w 16 4) (fld w 12 4) (.imm (fld w 8 4) (fld w 0 8))
  | 14 => .bic (fld w 28 4) (fld w 20 1) (fld w 16 4) (fld w 12 4) (.imm (fld w 8 4) (fld w 0 8))
  | _ => .mvn (fld w 28 4) (fld w 20 1) (fld w 16 4) (fld w 12 4) (.imm (fld w 8 4) (fld w 0 8))

/-- R202 line 5, DP_REG_IMMSHIFT: the sixteen operations by `opcode`, bits 24:21 (R201). -/
def decodeDpImmShift (w : Word) : Instr :=
  match (fld w 21 4).toNat with
  | 0 => .and (fld w 28 4) (fld w 20 1) (fld w 16 4) (fld w 12 4) (.immShift (fld w 7 5) (fld w 5 2) (fld w 0 4))
  | 1 => .eor (fld w 28 4) (fld w 20 1) (fld w 16 4) (fld w 12 4) (.immShift (fld w 7 5) (fld w 5 2) (fld w 0 4))
  | 2 => .sub (fld w 28 4) (fld w 20 1) (fld w 16 4) (fld w 12 4) (.immShift (fld w 7 5) (fld w 5 2) (fld w 0 4))
  | 3 => .rsb (fld w 28 4) (fld w 20 1) (fld w 16 4) (fld w 12 4) (.immShift (fld w 7 5) (fld w 5 2) (fld w 0 4))
  | 4 => .add (fld w 28 4) (fld w 20 1) (fld w 16 4) (fld w 12 4) (.immShift (fld w 7 5) (fld w 5 2) (fld w 0 4))
  | 5 => .adc (fld w 28 4) (fld w 20 1) (fld w 16 4) (fld w 12 4) (.immShift (fld w 7 5) (fld w 5 2) (fld w 0 4))
  | 6 => .sbc (fld w 28 4) (fld w 20 1) (fld w 16 4) (fld w 12 4) (.immShift (fld w 7 5) (fld w 5 2) (fld w 0 4))
  | 7 => .rsc (fld w 28 4) (fld w 20 1) (fld w 16 4) (fld w 12 4) (.immShift (fld w 7 5) (fld w 5 2) (fld w 0 4))
  | 8 => .tst (fld w 28 4) (fld w 16 4) (fld w 12 4) (.immShift (fld w 7 5) (fld w 5 2) (fld w 0 4))
  | 9 => .teq (fld w 28 4) (fld w 16 4) (fld w 12 4) (.immShift (fld w 7 5) (fld w 5 2) (fld w 0 4))
  | 10 => .cmp (fld w 28 4) (fld w 16 4) (fld w 12 4) (.immShift (fld w 7 5) (fld w 5 2) (fld w 0 4))
  | 11 => .cmn (fld w 28 4) (fld w 16 4) (fld w 12 4) (.immShift (fld w 7 5) (fld w 5 2) (fld w 0 4))
  | 12 => .orr (fld w 28 4) (fld w 20 1) (fld w 16 4) (fld w 12 4) (.immShift (fld w 7 5) (fld w 5 2) (fld w 0 4))
  | 13 => .mov (fld w 28 4) (fld w 20 1) (fld w 16 4) (fld w 12 4) (.immShift (fld w 7 5) (fld w 5 2) (fld w 0 4))
  | 14 => .bic (fld w 28 4) (fld w 20 1) (fld w 16 4) (fld w 12 4) (.immShift (fld w 7 5) (fld w 5 2) (fld w 0 4))
  | _ => .mvn (fld w 28 4) (fld w 20 1) (fld w 16 4) (fld w 12 4) (.immShift (fld w 7 5) (fld w 5 2) (fld w 0 4))

/-- R202 line 6, DP_REG_REGSHIFT: the sixteen operations by `opcode`, bits 24:21 (R201). -/
def decodeDpRegShift (w : Word) : Instr :=
  match (fld w 21 4).toNat with
  | 0 => .and (fld w 28 4) (fld w 20 1) (fld w 16 4) (fld w 12 4) (.regShift (fld w 8 4) (fld w 5 2) (fld w 0 4))
  | 1 => .eor (fld w 28 4) (fld w 20 1) (fld w 16 4) (fld w 12 4) (.regShift (fld w 8 4) (fld w 5 2) (fld w 0 4))
  | 2 => .sub (fld w 28 4) (fld w 20 1) (fld w 16 4) (fld w 12 4) (.regShift (fld w 8 4) (fld w 5 2) (fld w 0 4))
  | 3 => .rsb (fld w 28 4) (fld w 20 1) (fld w 16 4) (fld w 12 4) (.regShift (fld w 8 4) (fld w 5 2) (fld w 0 4))
  | 4 => .add (fld w 28 4) (fld w 20 1) (fld w 16 4) (fld w 12 4) (.regShift (fld w 8 4) (fld w 5 2) (fld w 0 4))
  | 5 => .adc (fld w 28 4) (fld w 20 1) (fld w 16 4) (fld w 12 4) (.regShift (fld w 8 4) (fld w 5 2) (fld w 0 4))
  | 6 => .sbc (fld w 28 4) (fld w 20 1) (fld w 16 4) (fld w 12 4) (.regShift (fld w 8 4) (fld w 5 2) (fld w 0 4))
  | 7 => .rsc (fld w 28 4) (fld w 20 1) (fld w 16 4) (fld w 12 4) (.regShift (fld w 8 4) (fld w 5 2) (fld w 0 4))
  | 8 => .tst (fld w 28 4) (fld w 16 4) (fld w 12 4) (.regShift (fld w 8 4) (fld w 5 2) (fld w 0 4))
  | 9 => .teq (fld w 28 4) (fld w 16 4) (fld w 12 4) (.regShift (fld w 8 4) (fld w 5 2) (fld w 0 4))
  | 10 => .cmp (fld w 28 4) (fld w 16 4) (fld w 12 4) (.regShift (fld w 8 4) (fld w 5 2) (fld w 0 4))
  | 11 => .cmn (fld w 28 4) (fld w 16 4) (fld w 12 4) (.regShift (fld w 8 4) (fld w 5 2) (fld w 0 4))
  | 12 => .orr (fld w 28 4) (fld w 20 1) (fld w 16 4) (fld w 12 4) (.regShift (fld w 8 4) (fld w 5 2) (fld w 0 4))
  | 13 => .mov (fld w 28 4) (fld w 20 1) (fld w 16 4) (fld w 12 4) (.regShift (fld w 8 4) (fld w 5 2) (fld w 0 4))
  | 14 => .bic (fld w 28 4) (fld w 20 1) (fld w 16 4) (fld w 12 4) (.regShift (fld w 8 4) (fld w 5 2) (fld w 0 4))
  | _ => .mvn (fld w 28 4) (fld w 20 1) (fld w 16 4) (fld w 12 4) (.regShift (fld w 8 4) (fld w 5 2) (fld w 0 4))

/-- R202 line 1: the multiplies; the rest is the arithmetic extension space (R232). -/
def decodeMultiply (w : Word) : Instr :=
  if !bitAt w 23 && bitAt w 22 then
    .undMultiply (fld w 28 4) (fld w 20 2) (fld w 8 12) (fld w 0 4)
  else
    if bitAt w 23 then
      if bitAt w 22 then
        if bitAt w 21 then
          .smlal (fld w 28 4) (fld w 20 1) (fld w 16 4) (fld w 12 4) (fld w 8 4) (fld w 0 4)
        else
          .smull (fld w 28 4) (fld w 20 1) (fld w 16 4) (fld w 12 4) (fld w 8 4) (fld w 0 4)
      else
        if bitAt w 21 then
          .umlal (fld w 28 4) (fld w 20 1) (fld w 16 4) (fld w 12 4) (fld w 8 4) (fld w 0 4)
        else
          .umull (fld w 28 4) (fld w 20 1) (fld w 16 4) (fld w 12 4) (fld w 8 4) (fld w 0 4)
    else
      if bitAt w 21 then
        .mla (fld w 28 4) (fld w 20 1) (fld w 16 4) (fld w 12 4) (fld w 8 4) (fld w 0 4)
      else
        .mul (fld w 28 4) (fld w 20 1) (fld w 16 4) (fld w 12 4) (fld w 8 4) (fld w 0 4)

/-- R202 line 2: SWP and SWPB; the rest is the load/store extension space (R234). -/
def decodeSwap (w : Word) : Instr :=
  if bitAt w 23 then
    .undSwapHigh (fld w 28 4) (fld w 20 3) (fld w 8 12) (fld w 0 4)
  else
    if bitAt w 20 then
      .undSwapOdd (fld w 28 4) (fld w 21 2) (fld w 8 12) (fld w 0 4)
    else
      if bitAt w 21 then
        .undSwapEven (fld w 28 4) (fld w 22 1) (fld w 8 12) (fld w 0 4)
      else
        if bitAt w 22 then
          .swpb (fld w 28 4) (fld w 16 4) (fld w 12 4) (fld w 8 4) (fld w 0 4)
        else
          .swp (fld w 28 4) (fld w 16 4) (fld w 12 4) (fld w 8 4) (fld w 0 4)

/-- R202 line 3: halfwords and signed bytes; the signed stores are undefined (R234). -/
def decodeHalf (w : Word) : Instr :=
  if bitAt w 6 && !bitAt w 20 then
    .undSignedStore (fld w 28 4) (fld w 21 4) (fld w 8 12) (fld w 5 1) (fld w 0 4)
  else
    if bitAt w 6 then
      if bitAt w 5 then
        if bitAt w 22 then
          .ldrsh (fld w 28 4) (fld w 24 1) (fld w 23 1) (fld w 21 1) (fld w 16 4) (fld w 12 4) (.imm (fld w 8 4) (fld w 0 4))
        else
          .ldrsh (fld w 28 4) (fld w 24 1) (fld w 23 1) (fld w 21 1) (fld w 16 4) (fld w 12 4) (.reg (fld w 8 4) (fld w 0 4))
      else
        if bitAt w 22 then
          .ldrsb (fld w 28 4) (fld w 24 1) (fld w 23 1) (fld w 21 1) (fld w 16 4) (fld w 12 4) (.imm (fld w 8 4) (fld w 0 4))
        else
          .ldrsb (fld w 28 4) (fld w 24 1) (fld w 23 1) (fld w 21 1) (fld w 16 4) (fld w 12 4) (.reg (fld w 8 4) (fld w 0 4))
    else
      if bitAt w 20 then
        if bitAt w 22 then
          .ldrh (fld w 28 4) (fld w 24 1) (fld w 23 1) (fld w 21 1) (fld w 16 4) (fld w 12 4) (.imm (fld w 8 4) (fld w 0 4))
        else
          .ldrh (fld w 28 4) (fld w 24 1) (fld w 23 1) (fld w 21 1) (fld w 16 4) (fld w 12 4) (.reg (fld w 8 4) (fld w 0 4))
      else
        if bitAt w 22 then
          .strh (fld w 28 4) (fld w 24 1) (fld w 23 1) (fld w 21 1) (fld w 16 4) (fld w 12 4) (.imm (fld w 8 4) (fld w 0 4))
        else
          .strh (fld w 28 4) (fld w 24 1) (fld w 23 1) (fld w 21 1) (fld w 16 4) (fld w 12 4) (.reg (fld w 8 4) (fld w 0 4))

/-- R202 line 4: the control space, MRS, MSR and BX; the rest is undefined (R233). -/
def decodeControl (w : Word) : Instr :=
  if bitAt w 25 then
    if bitAt w 21 then
      .msrImm (fld w 28 4) (fld w 22 1) (fld w 16 4) (fld w 12 4) (fld w 8 4) (fld w 0 8)
    else
      .undControlImm (fld w 28 4) (fld w 22 1) (fld w 0 20)
  else
    if bitAt w 7 then
      .undControlEven (fld w 28 4) (fld w 21 2) (fld w 8 12) (fld w 5 2) (fld w 0 4)
    else
      if bitAt w 6 then
        .undControlHigh (fld w 28 4) (fld w 21 2) (fld w 8 12) (fld w 5 1) (fld w 4 1) (fld w 0 4)
      else
        if bitAt w 5 then
          .undControlLow (fld w 28 4) (fld w 21 2) (fld w 8 12) (fld w 4 1) (fld w 0 4)
        else
          if bitAt w 4 then
            if bitAt w 21 then
              if bitAt w 22 then
                .undControlOneR (fld w 28 4) (fld w 8 12) (fld w 0 4)
              else
                .bx (fld w 28 4) (fld w 16 4) (fld w 12 4) (fld w 8 4) (fld w 0 4)
            else
              .undControlOne (fld w 28 4) (fld w 22 1) (fld w 8 12) (fld w 0 4)
          else
            if bitAt w 21 then
              .msrReg (fld w 28 4) (fld w 22 1) (fld w 16 4) (fld w 12 4) (fld w 8 4) (fld w 0 4)
            else
              .mrs (fld w 28 4) (fld w 22 1) (fld w 16 4) (fld w 12 4) (fld w 8 4) (fld w 0 4)

/-- R202 line 8: word and byte loads and stores; P = 0 with W = 1 is the User form (R214). -/
def decodeLsImm (w : Word) : Instr :=
  if bitAt w 22 then
    if bitAt w 20 then
      if bitAt w 24 then
        .ldrb (fld w 28 4) (fld w 23 1) (fld w 21 1) (fld w 16 4) (fld w 12 4) (.imm (fld w 0 12))
      else
        if bitAt w 21 then
          .ldrbt (fld w 28 4) (fld w 23 1) (fld w 16 4) (fld w 12 4) (.imm (fld w 0 12))
        else
          .ldrbPost (fld w 28 4) (fld w 23 1) (fld w 16 4) (fld w 12 4) (.imm (fld w 0 12))
    else
      if bitAt w 24 then
        .strb (fld w 28 4) (fld w 23 1) (fld w 21 1) (fld w 16 4) (fld w 12 4) (.imm (fld w 0 12))
      else
        if bitAt w 21 then
          .strbt (fld w 28 4) (fld w 23 1) (fld w 16 4) (fld w 12 4) (.imm (fld w 0 12))
        else
          .strbPost (fld w 28 4) (fld w 23 1) (fld w 16 4) (fld w 12 4) (.imm (fld w 0 12))
  else
    if bitAt w 20 then
      if bitAt w 24 then
        .ldr (fld w 28 4) (fld w 23 1) (fld w 21 1) (fld w 16 4) (fld w 12 4) (.imm (fld w 0 12))
      else
        if bitAt w 21 then
          .ldrt (fld w 28 4) (fld w 23 1) (fld w 16 4) (fld w 12 4) (.imm (fld w 0 12))
        else
          .ldrPost (fld w 28 4) (fld w 23 1) (fld w 16 4) (fld w 12 4) (.imm (fld w 0 12))
    else
      if bitAt w 24 then
        .str (fld w 28 4) (fld w 23 1) (fld w 21 1) (fld w 16 4) (fld w 12 4) (.imm (fld w 0 12))
      else
        if bitAt w 21 then
          .strt (fld w 28 4) (fld w 23 1) (fld w 16 4) (fld w 12 4) (.imm (fld w 0 12))
        else
          .strPost (fld w 28 4) (fld w 23 1) (fld w 16 4) (fld w 12 4) (.imm (fld w 0 12))

/-- R202 line 9: word and byte loads and stores; P = 0 with W = 1 is the User form (R214). -/
def decodeLsReg (w : Word) : Instr :=
  if bitAt w 22 then
    if bitAt w 20 then
      if bitAt w 24 then
        .ldrb (fld w 28 4) (fld w 23 1) (fld w 21 1) (fld w 16 4) (fld w 12 4) (.reg (fld w 7 5) (fld w 5 2) (fld w 0 4))
      else
        if bitAt w 21 then
          .ldrbt (fld w 28 4) (fld w 23 1) (fld w 16 4) (fld w 12 4) (.reg (fld w 7 5) (fld w 5 2) (fld w 0 4))
        else
          .ldrbPost (fld w 28 4) (fld w 23 1) (fld w 16 4) (fld w 12 4) (.reg (fld w 7 5) (fld w 5 2) (fld w 0 4))
    else
      if bitAt w 24 then
        .strb (fld w 28 4) (fld w 23 1) (fld w 21 1) (fld w 16 4) (fld w 12 4) (.reg (fld w 7 5) (fld w 5 2) (fld w 0 4))
      else
        if bitAt w 21 then
          .strbt (fld w 28 4) (fld w 23 1) (fld w 16 4) (fld w 12 4) (.reg (fld w 7 5) (fld w 5 2) (fld w 0 4))
        else
          .strbPost (fld w 28 4) (fld w 23 1) (fld w 16 4) (fld w 12 4) (.reg (fld w 7 5) (fld w 5 2) (fld w 0 4))
  else
    if bitAt w 20 then
      if bitAt w 24 then
        .ldr (fld w 28 4) (fld w 23 1) (fld w 21 1) (fld w 16 4) (fld w 12 4) (.reg (fld w 7 5) (fld w 5 2) (fld w 0 4))
      else
        if bitAt w 21 then
          .ldrt (fld w 28 4) (fld w 23 1) (fld w 16 4) (fld w 12 4) (.reg (fld w 7 5) (fld w 5 2) (fld w 0 4))
        else
          .ldrPost (fld w 28 4) (fld w 23 1) (fld w 16 4) (fld w 12 4) (.reg (fld w 7 5) (fld w 5 2) (fld w 0 4))
    else
      if bitAt w 24 then
        .str (fld w 28 4) (fld w 23 1) (fld w 21 1) (fld w 16 4) (fld w 12 4) (.reg (fld w 7 5) (fld w 5 2) (fld w 0 4))
      else
        if bitAt w 21 then
          .strt (fld w 28 4) (fld w 23 1) (fld w 16 4) (fld w 12 4) (.reg (fld w 7 5) (fld w 5 2) (fld w 0 4))
        else
          .strPost (fld w 28 4) (fld w 23 1) (fld w 16 4) (fld w 12 4) (.reg (fld w 7 5) (fld w 5 2) (fld w 0 4))

/-- R202 line 11: block transfers; bit 22 and bit 15 choose the form (R350 to R355). -/
def decodeLsm (w : Word) : Instr :=
  if bitAt w 20 then
    if bitAt w 22 then
      if bitAt w 15 then
        .ldmRestore (fld w 28 4) (fld w 24 1) (fld w 23 1) (fld w 21 1) (fld w 16 4) (fld w 0 15)
      else
        .ldmUser (fld w 28 4) (fld w 24 1) (fld w 23 1) (fld w 21 1) (fld w 16 4) (fld w 0 15)
    else
      .ldm (fld w 28 4) (fld w 24 1) (fld w 23 1) (fld w 21 1) (fld w 16 4) (fld w 0 16)
  else
    if bitAt w 22 then
      .stmUser (fld w 28 4) (fld w 24 1) (fld w 23 1) (fld w 21 1) (fld w 16 4) (fld w 0 16)
    else
      .stm (fld w 28 4) (fld w 24 1) (fld w 23 1) (fld w 21 1) (fld w 16 4) (fld w 0 16)

/-- R202 line 13: coprocessor loads and stores; P = U = W = 0 is undefined (R235). -/
def decodeLsc (w : Word) : Instr :=
  if bitAt w 24 then
    if bitAt w 20 then
      .ldcPre (fld w 28 4) (fld w 23 1) (fld w 22 1) (fld w 21 1) (fld w 16 4) (fld w 12 4) (fld w 8 4) (fld w 0 8)
    else
      .stcPre (fld w 28 4) (fld w 23 1) (fld w 22 1) (fld w 21 1) (fld w 16 4) (fld w 12 4) (fld w 8 4) (fld w 0 8)
  else
    if bitAt w 23 then
      if bitAt w 20 then
        .ldcUp (fld w 28 4) (fld w 22 1) (fld w 21 1) (fld w 16 4) (fld w 12 4) (fld w 8 4) (fld w 0 8)
      else
        .stcUp (fld w 28 4) (fld w 22 1) (fld w 21 1) (fld w 16 4) (fld w 12 4) (fld w 8 4) (fld w 0 8)
    else
      if bitAt w 21 then
        if bitAt w 20 then
          .ldcDown (fld w 28 4) (fld w 22 1) (fld w 16 4) (fld w 12 4) (fld w 8 4) (fld w 0 8)
        else
          .stcDown (fld w 28 4) (fld w 22 1) (fld w 16 4) (fld w 12 4) (fld w 8 4) (fld w 0 8)
      else
        .undCoproc (fld w 28 4) (fld w 22 1) (fld w 20 1) (fld w 0 20)

/-- The CP15 reads, by CRn, CRm and opcode_2 (R400 to R423). -/
def decodeMrc15 (w : Word) : Instr :=
  match (fld w 16 4).toNat, (fld w 0 4).toNat, (fld w 5 3).toNat with
  | 0, 0, 0 => .mrcP15c0c0o0 (fld w 28 4) (fld w 12 4)
  | 0, 0, 2 => .mrcP15c0c0o2 (fld w 28 4) (fld w 12 4)
  | 0, 0, 3 => .mrcP15c0c0o3 (fld w 28 4) (fld w 12 4)
  | 0, 0, 4 => .mrcP15c0c0o4 (fld w 28 4) (fld w 12 4)
  | 0, 0, 5 => .mrcP15c0c0o5 (fld w 28 4) (fld w 12 4)
  | 0, 0, 6 => .mrcP15c0c0o6 (fld w 28 4) (fld w 12 4)
  | 0, 0, 7 => .mrcP15c0c0o7 (fld w 28 4) (fld w 12 4)
  | 0, 0, 1 => .mrcP15c0c0o1 (fld w 28 4) (fld w 12 4)
  | 1, 0, 0 => .mrcP15c1c0o0 (fld w 28 4) (fld w 12 4)
  | 2, 0, 0 => .mrcP15c2c0o0 (fld w 28 4) (fld w 12 4)
  | 2, 0, 1 => .mrcP15c2c0o1 (fld w 28 4) (fld w 12 4)
  | 3, 0, 0 => .mrcP15c3c0o0 (fld w 28 4) (fld w 12 4)
  | 5, 0, 0 => .mrcP15c5c0o0 (fld w 28 4) (fld w 12 4)
  | 5, 0, 1 => .mrcP15c5c0o1 (fld w 28 4) (fld w 12 4)
  | 6, 0, 0 => .mrcP15c6c0o0 (fld w 28 4) (fld w 12 4)
  | 6, 0, 1 => .mrcP15c6c0o1 (fld w 28 4) (fld w 12 4)
  | 6, 1, 0 => .mrcP15c6c1o0 (fld w 28 4) (fld w 12 4)
  | 6, 1, 1 => .mrcP15c6c1o1 (fld w 28 4) (fld w 12 4)
  | 6, 2, 0 => .mrcP15c6c2o0 (fld w 28 4) (fld w 12 4)
  | 6, 2, 1 => .mrcP15c6c2o1 (fld w 28 4) (fld w 12 4)
  | 6, 3, 0 => .mrcP15c6c3o0 (fld w 28 4) (fld w 12 4)
  | 6, 3, 1 => .mrcP15c6c3o1 (fld w 28 4) (fld w 12 4)
  | 6, 4, 0 => .mrcP15c6c4o0 (fld w 28 4) (fld w 12 4)
  | 6, 4, 1 => .mrcP15c6c4o1 (fld w 28 4) (fld w 12 4)
  | 6, 5, 0 => .mrcP15c6c5o0 (fld w 28 4) (fld w 12 4)
  | 6, 5, 1 => .mrcP15c6c5o1 (fld w 28 4) (fld w 12 4)
  | 6, 6, 0 => .mrcP15c6c6o0 (fld w 28 4) (fld w 12 4)
  | 6, 6, 1 => .mrcP15c6c6o1 (fld w 28 4) (fld w 12 4)
  | 6, 7, 0 => .mrcP15c6c7o0 (fld w 28 4) (fld w 12 4)
  | 6, 7, 1 => .mrcP15c6c7o1 (fld w 28 4) (fld w 12 4)
  | 9, 0, 0 => .mrcP15c9c0o0 (fld w 28 4) (fld w 12 4)
  | 9, 0, 1 => .mrcP15c9c0o1 (fld w 28 4) (fld w 12 4)
  | 15, 0, 0 => .mrcP15c15c0o0 (fld w 28 4) (fld w 12 4)
  | _, _, _ => .mrc (fld w 28 4) (fld w 21 3) (fld w 16 4) (fld w 12 4) (fld w 8 4) (fld w 5 3) (fld w 0 4)

/-- The CP15 writes, by CRn, CRm and opcode_2 (R400 to R423). -/
def decodeMcr15 (w : Word) : Instr :=
  match (fld w 16 4).toNat, (fld w 0 4).toNat, (fld w 5 3).toNat with
  | 1, 0, 0 => .mcrP15c1c0o0 (fld w 28 4) (fld w 12 4)
  | 2, 0, 0 => .mcrP15c2c0o0 (fld w 28 4) (fld w 12 4)
  | 2, 0, 1 => .mcrP15c2c0o1 (fld w 28 4) (fld w 12 4)
  | 3, 0, 0 => .mcrP15c3c0o0 (fld w 28 4) (fld w 12 4)
  | 5, 0, 0 => .mcrP15c5c0o0 (fld w 28 4) (fld w 12 4)
  | 5, 0, 1 => .mcrP15c5c0o1 (fld w 28 4) (fld w 12 4)
  | 6, 0, 0 => .mcrP15c6c0o0 (fld w 28 4) (fld w 12 4)
  | 6, 0, 1 => .mcrP15c6c0o1 (fld w 28 4) (fld w 12 4)
  | 6, 1, 0 => .mcrP15c6c1o0 (fld w 28 4) (fld w 12 4)
  | 6, 1, 1 => .mcrP15c6c1o1 (fld w 28 4) (fld w 12 4)
  | 6, 2, 0 => .mcrP15c6c2o0 (fld w 28 4) (fld w 12 4)
  | 6, 2, 1 => .mcrP15c6c2o1 (fld w 28 4) (fld w 12 4)
  | 6, 3, 0 => .mcrP15c6c3o0 (fld w 28 4) (fld w 12 4)
  | 6, 3, 1 => .mcrP15c6c3o1 (fld w 28 4) (fld w 12 4)
  | 6, 4, 0 => .mcrP15c6c4o0 (fld w 28 4) (fld w 12 4)
  | 6, 4, 1 => .mcrP15c6c4o1 (fld w 28 4) (fld w 12 4)
  | 6, 5, 0 => .mcrP15c6c5o0 (fld w 28 4) (fld w 12 4)
  | 6, 5, 1 => .mcrP15c6c5o1 (fld w 28 4) (fld w 12 4)
  | 6, 6, 0 => .mcrP15c6c6o0 (fld w 28 4) (fld w 12 4)
  | 6, 6, 1 => .mcrP15c6c6o1 (fld w 28 4) (fld w 12 4)
  | 6, 7, 0 => .mcrP15c6c7o0 (fld w 28 4) (fld w 12 4)
  | 6, 7, 1 => .mcrP15c6c7o1 (fld w 28 4) (fld w 12 4)
  | 9, 0, 0 => .mcrP15c9c0o0 (fld w 28 4) (fld w 12 4)
  | 9, 0, 1 => .mcrP15c9c0o1 (fld w 28 4) (fld w 12 4)
  | 15, 0, 0 => .mcrP15c15c0o0 (fld w 28 4) (fld w 12 4)
  | 7, 5, 0 => .mcrP15c7c5o0 (fld w 28 4) (fld w 12 4)
  | 7, 5, 2 => .mcrP15c7c5o2 (fld w 28 4) (fld w 12 4)
  | 7, 6, 0 => .mcrP15c7c6o0 (fld w 28 4) (fld w 12 4)
  | 7, 6, 2 => .mcrP15c7c6o2 (fld w 28 4) (fld w 12 4)
  | 7, 10, 2 => .mcrP15c7c10o2 (fld w 28 4) (fld w 12 4)
  | 7, 13, 1 => .mcrP15c7c13o1 (fld w 28 4) (fld w 12 4)
  | 7, 14, 2 => .mcrP15c7c14o2 (fld w 28 4) (fld w 12 4)
  | 7, 0, 4 => .mcrP15c7c0o4 (fld w 28 4) (fld w 12 4)
  | 15, 8, 2 => .mcrP15c15c8o2 (fld w 28 4) (fld w 12 4)
  | 7, 10, 4 => .mcrP15c7c10o4 (fld w 28 4) (fld w 12 4)
  | 7, 8, 2 => .mcrP15c7c8o2 (fld w 28 4) (fld w 12 4)
  | 7, 5, 1 => .mcrP15c7c5o1 (fld w 28 4) (fld w 12 4)
  | _, _, _ => .mcr (fld w 28 4) (fld w 21 3) (fld w 16 4) (fld w 12 4) (fld w 8 4) (fld w 5 3) (fld w 0 4)

/-- The CP14 reads (R430, R432). -/
def decodeMrc14 (w : Word) : Instr :=
  match (fld w 16 4).toNat, (fld w 0 4).toNat, (fld w 5 3).toNat with
  | 0, 0, 0 => .mrcP14c0c0o0 (fld w 28 4) (fld w 12 4)
  | 1, 0, 0 => .mrcP14c1c0o0 (fld w 28 4) (fld w 12 4)
  | _, _, _ => .mrc (fld w 28 4) (fld w 21 3) (fld w 16 4) (fld w 12 4) (fld w 8 4) (fld w 5 3) (fld w 0 4)

/-- The CP14 write (R431). -/
def decodeMcr14 (w : Word) : Instr :=
  match (fld w 16 4).toNat, (fld w 0 4).toNat, (fld w 5 3).toNat with
  | 1, 0, 0 => .mcrP14c1c0o0 (fld w 28 4) (fld w 12 4)
  | _, _, _ => .mcr (fld w 28 4) (fld w 21 3) (fld w 16 4) (fld w 12 4) (fld w 8 4) (fld w 5 3) (fld w 0 4)

/-- R202 lines 14 to 16: CDP, the register transfers with their CP15 and CP14 rows, and SWI. -/
def decodeCoproc (w : Word) : Instr :=
  if bitAt w 24 then
    .swi (fld w 28 4) (fld w 0 24)
  else if bitAt w 4 then
    if bitAt w 20 then
      if mrcGeneric (fld w 21 3) (fld w 16 4) (fld w 8 4) (fld w 5 3) (fld w 0 4) then
        .mrc (fld w 28 4) (fld w 21 3) (fld w 16 4) (fld w 12 4) (fld w 8 4) (fld w 5 3) (fld w 0 4)
      else if bitAt w 8 then decodeMrc15 w else decodeMrc14 w
    else
      if mcrGeneric (fld w 21 3) (fld w 16 4) (fld w 8 4) (fld w 5 3) (fld w 0 4) then
        .mcr (fld w 28 4) (fld w 21 3) (fld w 16 4) (fld w 12 4) (fld w 8 4) (fld w 5 3) (fld w 0 4)
      else if bitAt w 8 then decodeMcr15 w else decodeMcr14 w
  else
    .cdp (fld w 28 4) (fld w 20 4) (fld w 16 4) (fld w 12 4) (fld w 8 4) (fld w 5 3) (fld w 0 4)

/-- R202: the ARM decode.  `cond = 0b1111` is the row of R204. -/
def decodeArm (w : Word) : Instr :=
  if fld w 28 4 = 15#4 then .condNever (fld w 0 28)
  else if bitAt w 27 then
    if bitAt w 26 then
      if bitAt w 25 then decodeCoproc w else decodeLsc w
    else if bitAt w 25 then
      if bitAt w 24 then .bl (fld w 28 4) (fld w 0 24)
      else .b (fld w 28 4) (fld w 0 24)
    else decodeLsm w
  else if bitAt w 26 then
    if bitAt w 25 then
      if bitAt w 4 then .undSpace (fld w 28 4) (fld w 5 20) (fld w 0 4)
      else decodeLsReg w
    else decodeLsImm w
  else if !bitAt w 25 && bitAt w 7 && bitAt w 4 then
    if bitAt w 6 || bitAt w 5 then decodeHalf w
    else if bitAt w 24 then decodeSwap w else decodeMultiply w
  else if bitAt w 24 && !bitAt w 23 && !bitAt w 20 then decodeControl w
  else if bitAt w 25 then decodeDpImm w
  else if bitAt w 4 then decodeDpRegShift w
  else decodeDpImmShift w

/-- Thumb format 4: the sixteen ALU operations by bits 9:6 (R220). -/
def decodeThumbAlu (h : Half) : Instr :=
  match (fld h 6 4).toNat with
  | 0 => .tAnd (fld h 3 3) (fld h 0 3)
  | 1 => .tEor (fld h 3 3) (fld h 0 3)
  | 2 => .tLslReg (fld h 3 3) (fld h 0 3)
  | 3 => .tLsrReg (fld h 3 3) (fld h 0 3)
  | 4 => .tAsrReg (fld h 3 3) (fld h 0 3)
  | 5 => .tAdc (fld h 3 3) (fld h 0 3)
  | 6 => .tSbc (fld h 3 3) (fld h 0 3)
  | 7 => .tRorReg (fld h 3 3) (fld h 0 3)
  | 8 => .tTst (fld h 3 3) (fld h 0 3)
  | 9 => .tNeg (fld h 3 3) (fld h 0 3)
  | 10 => .tCmpReg (fld h 3 3) (fld h 0 3)
  | 11 => .tCmn (fld h 3 3) (fld h 0 3)
  | 12 => .tOrr (fld h 3 3) (fld h 0 3)
  | 13 => .tMul (fld h 3 3) (fld h 0 3)
  | 14 => .tBic (fld h 3 3) (fld h 0 3)
  | _ => .tMvn (fld h 3 3) (fld h 0 3)

/-- Thumb format 5: high registers and BX (R220); H1 = H2 = 0 is UNPREDICTABLE (R236). -/
def decodeThumbHigh (h : Half) : Instr :=
  if bitAt h 9 then
    if bitAt h 8 then
      if bitAt h 7 then
        .tBxHigh (fld h 6 1) (fld h 3 3) (fld h 0 3)
      else
        .tBx (fld h 6 1) (fld h 3 3) (fld h 0 3)
    else
      if bitAt h 7 then
        .tMovHi (fld h 6 1) (fld h 3 3) (fld h 0 3)
      else
        if bitAt h 6 then
          .tMovLoHi (fld h 3 3) (fld h 0 3)
        else
          .tMovLow (fld h 3 3) (fld h 0 3)
  else
    if bitAt h 8 then
      if bitAt h 7 then
        .tCmpHi (fld h 6 1) (fld h 3 3) (fld h 0 3)
      else
        if bitAt h 6 then
          .tCmpLoHi (fld h 3 3) (fld h 0 3)
        else
          .tCmpLow (fld h 3 3) (fld h 0 3)
    else
      if bitAt h 7 then
        .tAddHi (fld h 6 1) (fld h 3 3) (fld h 0 3)
      else
        if bitAt h 6 then
          .tAddLoHi (fld h 3 3) (fld h 0 3)
        else
          .tAddLow (fld h 3 3) (fld h 0 3)

/-- Thumb formats 7 and 8 (R220, R221). -/
def decodeThumbLsReg (h : Half) : Instr :=
  if bitAt h 11 then
    if bitAt h 10 then
      if bitAt h 9 then
        .tLdshReg (fld h 6 3) (fld h 3 3) (fld h 0 3)
      else
        .tLdrbReg (fld h 6 3) (fld h 3 3) (fld h 0 3)
    else
      if bitAt h 9 then
        .tLdrhReg (fld h 6 3) (fld h 3 3) (fld h 0 3)
      else
        .tLdrReg (fld h 6 3) (fld h 3 3) (fld h 0 3)
  else
    if bitAt h 10 then
      if bitAt h 9 then
        .tLdsbReg (fld h 6 3) (fld h 3 3) (fld h 0 3)
      else
        .tStrbReg (fld h 6 3) (fld h 3 3) (fld h 0 3)
    else
      if bitAt h 9 then
        .tStrhReg (fld h 6 3) (fld h 3 3) (fld h 0 3)
      else
        .tStrReg (fld h 6 3) (fld h 3 3) (fld h 0 3)

/-- Thumb formats 13 and 14; the rest of `1011` is undefined (R221, R236). -/
def decodeThumbMisc (h : Half) : Instr :=
  if bitAt h 11 then
    if bitAt h 10 then
      if bitAt h 9 then
        .tUndBE (fld h 0 9)
      else
        .tPop (fld h 8 1) (fld h 0 8)
    else
      .tUndB8 (fld h 0 10)
  else
    if bitAt h 10 then
      if bitAt h 9 then
        .tUndB6 (fld h 0 9)
      else
        .tPush (fld h 8 1) (fld h 0 8)
    else
      if bitAt h 9 then
        .tUndB2 (fld h 0 9)
      else
        if bitAt h 8 then
          .tUndB1 (fld h 0 8)
        else
          if bitAt h 7 then
            .tSubSpImm (fld h 0 7)
          else
            .tAddSpImm (fld h 0 7)

/-- Thumb formats 16 and 17 by bits 11:8 (R221); `1110` is undefined (R236). -/
def decodeThumbCond (h : Half) : Instr :=
  match (fld h 8 4).toNat with
  | 0 => .tBeq (fld h 0 8)
  | 1 => .tBne (fld h 0 8)
  | 2 => .tBcs (fld h 0 8)
  | 3 => .tBcc (fld h 0 8)
  | 4 => .tBmi (fld h 0 8)
  | 5 => .tBpl (fld h 0 8)
  | 6 => .tBvs (fld h 0 8)
  | 7 => .tBvc (fld h 0 8)
  | 8 => .tBhi (fld h 0 8)
  | 9 => .tBls (fld h 0 8)
  | 10 => .tBge (fld h 0 8)
  | 11 => .tBlt (fld h 0 8)
  | 12 => .tBgt (fld h 0 8)
  | 13 => .tBle (fld h 0 8)
  | 14 => .tUndCond (fld h 0 8)
  | _ => .tSwi (fld h 0 8)

/-- Thumb format 2 (R220). -/
def decodeThumbAddSub (h : Half) : Instr :=
  if bitAt h 10 then
    if bitAt h 9 then
      .tSubImm3 (fld h 6 3) (fld h 3 3) (fld h 0 3)
    else
      .tAddImm3 (fld h 6 3) (fld h 3 3) (fld h 0 3)
  else
    if bitAt h 9 then
      .tSubReg (fld h 6 3) (fld h 3 3) (fld h 0 3)
    else
      .tAddReg (fld h 6 3) (fld h 3 3) (fld h 0 3)

/-- R221: the Thumb decode, by bits 15:11. -/
def decodeThumb (h : Half) : Instr :=
  match (fld h 11 5).toNat with
  | 0 => .tLslImm (fld h 6 5) (fld h 3 3) (fld h 0 3)
  | 1 => .tLsrImm (fld h 6 5) (fld h 3 3) (fld h 0 3)
  | 2 => .tAsrImm (fld h 6 5) (fld h 3 3) (fld h 0 3)
  | 3 => decodeThumbAddSub h
  | 4 => .tMovImm (fld h 8 3) (fld h 0 8)
  | 5 => .tCmpImm (fld h 8 3) (fld h 0 8)
  | 6 => .tAddImm8 (fld h 8 3) (fld h 0 8)
  | 7 => .tSubImm8 (fld h 8 3) (fld h 0 8)
  | 8 => if bitAt h 10 then decodeThumbHigh h else decodeThumbAlu h
  | 9 => .tLdrPc (fld h 8 3) (fld h 0 8)
  | 10 => decodeThumbLsReg h
  | 11 => decodeThumbLsReg h
  | 12 => .tStrImm (fld h 6 5) (fld h 3 3) (fld h 0 3)
  | 13 => .tLdrImm (fld h 6 5) (fld h 3 3) (fld h 0 3)
  | 14 => .tStrbImm (fld h 6 5) (fld h 3 3) (fld h 0 3)
  | 15 => .tLdrbImm (fld h 6 5) (fld h 3 3) (fld h 0 3)
  | 16 => .tStrhImm (fld h 6 5) (fld h 3 3) (fld h 0 3)
  | 17 => .tLdrhImm (fld h 6 5) (fld h 3 3) (fld h 0 3)
  | 18 => .tStrSp (fld h 8 3) (fld h 0 8)
  | 19 => .tLdrSp (fld h 8 3) (fld h 0 8)
  | 20 => .tAddPc (fld h 8 3) (fld h 0 8)
  | 21 => .tAddSp (fld h 8 3) (fld h 0 8)
  | 22 => decodeThumbMisc h
  | 23 => decodeThumbMisc h
  | 24 => .tStmia (fld h 8 3) (fld h 0 8)
  | 25 => .tLdmia (fld h 8 3) (fld h 0 8)
  | 26 => decodeThumbCond h
  | 27 => decodeThumbCond h
  | 28 => .tB (fld h 0 11)
  | 29 => .tUndE8 (fld h 0 11)
  | 30 => .tBlFirst (fld h 0 11)
  | _ => .tBlSecond (fld h 0 11)

/-- A code word of one of the two instruction sets (R200). -/
inductive Code where
  | arm (w : Word)
  | thumb (h : Half)
  deriving DecidableEq, Repr

/-- The instruction of a code word (R202, R221). -/
def decode : Code → Instr
  | .arm w => decodeArm w
  | .thumb h => decodeThumb h

/-- The code word of an instruction: the fixed bits and the fields of its row (R201, R220, R206).  On a
well-formed instruction `decode` reads it back. -/
def encode : Instr → Code
  | .condNever rest => .arm (0b1111#4 ++ rest)
  | .and cond s rn rd (.imm rot imm8) => .arm (cond ++ 0b0010000#7 ++ s ++ rn ++ rd ++ rot ++ imm8)
  | .and cond s rn rd (.immShift shiftImm ty rm) => .arm (cond ++ 0b0000000#7 ++ s ++ rn ++ rd ++ shiftImm ++ ty ++ 0b0#1 ++ rm)
  | .and cond s rn rd (.regShift rs ty rm) => .arm (cond ++ 0b0000000#7 ++ s ++ rn ++ rd ++ rs ++ 0b0#1 ++ ty ++ 0b1#1 ++ rm)
  | .eor cond s rn rd (.imm rot imm8) => .arm (cond ++ 0b0010001#7 ++ s ++ rn ++ rd ++ rot ++ imm8)
  | .eor cond s rn rd (.immShift shiftImm ty rm) => .arm (cond ++ 0b0000001#7 ++ s ++ rn ++ rd ++ shiftImm ++ ty ++ 0b0#1 ++ rm)
  | .eor cond s rn rd (.regShift rs ty rm) => .arm (cond ++ 0b0000001#7 ++ s ++ rn ++ rd ++ rs ++ 0b0#1 ++ ty ++ 0b1#1 ++ rm)
  | .sub cond s rn rd (.imm rot imm8) => .arm (cond ++ 0b0010010#7 ++ s ++ rn ++ rd ++ rot ++ imm8)
  | .sub cond s rn rd (.immShift shiftImm ty rm) => .arm (cond ++ 0b0000010#7 ++ s ++ rn ++ rd ++ shiftImm ++ ty ++ 0b0#1 ++ rm)
  | .sub cond s rn rd (.regShift rs ty rm) => .arm (cond ++ 0b0000010#7 ++ s ++ rn ++ rd ++ rs ++ 0b0#1 ++ ty ++ 0b1#1 ++ rm)
  | .rsb cond s rn rd (.imm rot imm8) => .arm (cond ++ 0b0010011#7 ++ s ++ rn ++ rd ++ rot ++ imm8)
  | .rsb cond s rn rd (.immShift shiftImm ty rm) => .arm (cond ++ 0b0000011#7 ++ s ++ rn ++ rd ++ shiftImm ++ ty ++ 0b0#1 ++ rm)
  | .rsb cond s rn rd (.regShift rs ty rm) => .arm (cond ++ 0b0000011#7 ++ s ++ rn ++ rd ++ rs ++ 0b0#1 ++ ty ++ 0b1#1 ++ rm)
  | .add cond s rn rd (.imm rot imm8) => .arm (cond ++ 0b0010100#7 ++ s ++ rn ++ rd ++ rot ++ imm8)
  | .add cond s rn rd (.immShift shiftImm ty rm) => .arm (cond ++ 0b0000100#7 ++ s ++ rn ++ rd ++ shiftImm ++ ty ++ 0b0#1 ++ rm)
  | .add cond s rn rd (.regShift rs ty rm) => .arm (cond ++ 0b0000100#7 ++ s ++ rn ++ rd ++ rs ++ 0b0#1 ++ ty ++ 0b1#1 ++ rm)
  | .adc cond s rn rd (.imm rot imm8) => .arm (cond ++ 0b0010101#7 ++ s ++ rn ++ rd ++ rot ++ imm8)
  | .adc cond s rn rd (.immShift shiftImm ty rm) => .arm (cond ++ 0b0000101#7 ++ s ++ rn ++ rd ++ shiftImm ++ ty ++ 0b0#1 ++ rm)
  | .adc cond s rn rd (.regShift rs ty rm) => .arm (cond ++ 0b0000101#7 ++ s ++ rn ++ rd ++ rs ++ 0b0#1 ++ ty ++ 0b1#1 ++ rm)
  | .sbc cond s rn rd (.imm rot imm8) => .arm (cond ++ 0b0010110#7 ++ s ++ rn ++ rd ++ rot ++ imm8)
  | .sbc cond s rn rd (.immShift shiftImm ty rm) => .arm (cond ++ 0b0000110#7 ++ s ++ rn ++ rd ++ shiftImm ++ ty ++ 0b0#1 ++ rm)
  | .sbc cond s rn rd (.regShift rs ty rm) => .arm (cond ++ 0b0000110#7 ++ s ++ rn ++ rd ++ rs ++ 0b0#1 ++ ty ++ 0b1#1 ++ rm)
  | .rsc cond s rn rd (.imm rot imm8) => .arm (cond ++ 0b0010111#7 ++ s ++ rn ++ rd ++ rot ++ imm8)
  | .rsc cond s rn rd (.immShift shiftImm ty rm) => .arm (cond ++ 0b0000111#7 ++ s ++ rn ++ rd ++ shiftImm ++ ty ++ 0b0#1 ++ rm)
  | .rsc cond s rn rd (.regShift rs ty rm) => .arm (cond ++ 0b0000111#7 ++ s ++ rn ++ rd ++ rs ++ 0b0#1 ++ ty ++ 0b1#1 ++ rm)
  | .tst cond rn rd (.imm rot imm8) => .arm (cond ++ 0b00110001#8 ++ rn ++ rd ++ rot ++ imm8)
  | .tst cond rn rd (.immShift shiftImm ty rm) => .arm (cond ++ 0b00010001#8 ++ rn ++ rd ++ shiftImm ++ ty ++ 0b0#1 ++ rm)
  | .tst cond rn rd (.regShift rs ty rm) => .arm (cond ++ 0b00010001#8 ++ rn ++ rd ++ rs ++ 0b0#1 ++ ty ++ 0b1#1 ++ rm)
  | .teq cond rn rd (.imm rot imm8) => .arm (cond ++ 0b00110011#8 ++ rn ++ rd ++ rot ++ imm8)
  | .teq cond rn rd (.immShift shiftImm ty rm) => .arm (cond ++ 0b00010011#8 ++ rn ++ rd ++ shiftImm ++ ty ++ 0b0#1 ++ rm)
  | .teq cond rn rd (.regShift rs ty rm) => .arm (cond ++ 0b00010011#8 ++ rn ++ rd ++ rs ++ 0b0#1 ++ ty ++ 0b1#1 ++ rm)
  | .cmp cond rn rd (.imm rot imm8) => .arm (cond ++ 0b00110101#8 ++ rn ++ rd ++ rot ++ imm8)
  | .cmp cond rn rd (.immShift shiftImm ty rm) => .arm (cond ++ 0b00010101#8 ++ rn ++ rd ++ shiftImm ++ ty ++ 0b0#1 ++ rm)
  | .cmp cond rn rd (.regShift rs ty rm) => .arm (cond ++ 0b00010101#8 ++ rn ++ rd ++ rs ++ 0b0#1 ++ ty ++ 0b1#1 ++ rm)
  | .cmn cond rn rd (.imm rot imm8) => .arm (cond ++ 0b00110111#8 ++ rn ++ rd ++ rot ++ imm8)
  | .cmn cond rn rd (.immShift shiftImm ty rm) => .arm (cond ++ 0b00010111#8 ++ rn ++ rd ++ shiftImm ++ ty ++ 0b0#1 ++ rm)
  | .cmn cond rn rd (.regShift rs ty rm) => .arm (cond ++ 0b00010111#8 ++ rn ++ rd ++ rs ++ 0b0#1 ++ ty ++ 0b1#1 ++ rm)
  | .orr cond s rn rd (.imm rot imm8) => .arm (cond ++ 0b0011100#7 ++ s ++ rn ++ rd ++ rot ++ imm8)
  | .orr cond s rn rd (.immShift shiftImm ty rm) => .arm (cond ++ 0b0001100#7 ++ s ++ rn ++ rd ++ shiftImm ++ ty ++ 0b0#1 ++ rm)
  | .orr cond s rn rd (.regShift rs ty rm) => .arm (cond ++ 0b0001100#7 ++ s ++ rn ++ rd ++ rs ++ 0b0#1 ++ ty ++ 0b1#1 ++ rm)
  | .mov cond s rn rd (.imm rot imm8) => .arm (cond ++ 0b0011101#7 ++ s ++ rn ++ rd ++ rot ++ imm8)
  | .mov cond s rn rd (.immShift shiftImm ty rm) => .arm (cond ++ 0b0001101#7 ++ s ++ rn ++ rd ++ shiftImm ++ ty ++ 0b0#1 ++ rm)
  | .mov cond s rn rd (.regShift rs ty rm) => .arm (cond ++ 0b0001101#7 ++ s ++ rn ++ rd ++ rs ++ 0b0#1 ++ ty ++ 0b1#1 ++ rm)
  | .bic cond s rn rd (.imm rot imm8) => .arm (cond ++ 0b0011110#7 ++ s ++ rn ++ rd ++ rot ++ imm8)
  | .bic cond s rn rd (.immShift shiftImm ty rm) => .arm (cond ++ 0b0001110#7 ++ s ++ rn ++ rd ++ shiftImm ++ ty ++ 0b0#1 ++ rm)
  | .bic cond s rn rd (.regShift rs ty rm) => .arm (cond ++ 0b0001110#7 ++ s ++ rn ++ rd ++ rs ++ 0b0#1 ++ ty ++ 0b1#1 ++ rm)
  | .mvn cond s rn rd (.imm rot imm8) => .arm (cond ++ 0b0011111#7 ++ s ++ rn ++ rd ++ rot ++ imm8)
  | .mvn cond s rn rd (.immShift shiftImm ty rm) => .arm (cond ++ 0b0001111#7 ++ s ++ rn ++ rd ++ shiftImm ++ ty ++ 0b0#1 ++ rm)
  | .mvn cond s rn rd (.regShift rs ty rm) => .arm (cond ++ 0b0001111#7 ++ s ++ rn ++ rd ++ rs ++ 0b0#1 ++ ty ++ 0b1#1 ++ rm)
  | .mrs cond r sbo rd sbzHi sbzLo => .arm (cond ++ 0b00010#5 ++ r ++ 0b00#2 ++ sbo ++ rd ++ sbzHi ++ 0b0000#4 ++ sbzLo)
  | .msrReg cond r fieldMask sbo sbz rm => .arm (cond ++ 0b00010#5 ++ r ++ 0b10#2 ++ fieldMask ++ sbo ++ sbz ++ 0b0000#4 ++ rm)
  | .msrImm cond r fieldMask sbo rot imm8 => .arm (cond ++ 0b00110#5 ++ r ++ 0b10#2 ++ fieldMask ++ sbo ++ rot ++ imm8)
  | .bx cond sboA sboB sboC rm => .arm (cond ++ 0b00010010#8 ++ sboA ++ sboB ++ sboC ++ 0b0001#4 ++ rm)
  | .undControlImm cond x22 rest => .arm (cond ++ 0b00110#5 ++ x22 ++ 0b00#2 ++ rest)
  | .undControlOne cond x22 rest low => .arm (cond ++ 0b00010#5 ++ x22 ++ 0b00#2 ++ rest ++ 0b0001#4 ++ low)
  | .undControlOneR cond rest low => .arm (cond ++ 0b00010110#8 ++ rest ++ 0b0001#4 ++ low)
  | .undControlHigh cond x22to21 rest x5 x4 low => .arm (cond ++ 0b00010#5 ++ x22to21 ++ 0b0#1 ++ rest ++ 0b01#2 ++ x5 ++ x4 ++ low)
  | .undControlLow cond x22to21 rest x4 low => .arm (cond ++ 0b00010#5 ++ x22to21 ++ 0b0#1 ++ rest ++ 0b001#3 ++ x4 ++ low)
  | .undControlEven cond x22to21 rest x6to5 low => .arm (cond ++ 0b00010#5 ++ x22to21 ++ 0b0#1 ++ rest ++ 0b1#1 ++ x6to5 ++ 0b0#1 ++ low)
  | .mul cond s rd sbz rs rm => .arm (cond ++ 0b0000000#7 ++ s ++ rd ++ sbz ++ rs ++ 0b1001#4 ++ rm)
  | .mla cond s rd rn rs rm => .arm (cond ++ 0b0000001#7 ++ s ++ rd ++ rn ++ rs ++ 0b1001#4 ++ rm)
  | .umull cond s rdHi rdLo rs rm => .arm (cond ++ 0b0000100#7 ++ s ++ rdHi ++ rdLo ++ rs ++ 0b1001#4 ++ rm)
  | .umlal cond s rdHi rdLo rs rm => .arm (cond ++ 0b0000101#7 ++ s ++ rdHi ++ rdLo ++ rs ++ 0b1001#4 ++ rm)
  | .smull cond s rdHi rdLo rs rm => .arm (cond ++ 0b0000110#7 ++ s ++ rdHi ++ rdLo ++ rs ++ 0b1001#4 ++ rm)
  | .smlal cond s rdHi rdLo rs rm => .arm (cond ++ 0b0000111#7 ++ s ++ rdHi ++ rdLo ++ rs ++ 0b1001#4 ++ rm)
  | .undMultiply cond x21to20 rest low => .arm (cond ++ 0b000001#6 ++ x21to20 ++ rest ++ 0b1001#4 ++ low)
  | .swp cond rn rd sbz rm => .arm (cond ++ 0b00010000#8 ++ rn ++ rd ++ sbz ++ 0b1001#4 ++ rm)
  | .swpb cond rn rd sbz rm => .arm (cond ++ 0b00010100#8 ++ rn ++ rd ++ sbz ++ 0b1001#4 ++ rm)
  | .undSwapHigh cond x22to20 rest low => .arm (cond ++ 0b00011#5 ++ x22to20 ++ rest ++ 0b1001#4 ++ low)
  | .undSwapOdd cond x22to21 rest low => .arm (cond ++ 0b00010#5 ++ x22to21 ++ 0b1#1 ++ rest ++ 0b1001#4 ++ low)
  | .undSwapEven cond x22 rest low => .arm (cond ++ 0b00010#5 ++ x22 ++ 0b10#2 ++ rest ++ 0b1001#4 ++ low)
  | .strh cond p u w rn rd (.reg sbz rm) => .arm (cond ++ 0b000#3 ++ p ++ u ++ 0b0#1 ++ w ++ 0b0#1 ++ rn ++ rd ++ sbz ++ 0b1011#4 ++ rm)
  | .strh cond p u w rn rd (.imm immH immL) => .arm (cond ++ 0b000#3 ++ p ++ u ++ 0b1#1 ++ w ++ 0b0#1 ++ rn ++ rd ++ immH ++ 0b1011#4 ++ immL)
  | .ldrh cond p u w rn rd (.reg sbz rm) => .arm (cond ++ 0b000#3 ++ p ++ u ++ 0b0#1 ++ w ++ 0b1#1 ++ rn ++ rd ++ sbz ++ 0b1011#4 ++ rm)
  | .ldrh cond p u w rn rd (.imm immH immL) => .arm (cond ++ 0b000#3 ++ p ++ u ++ 0b1#1 ++ w ++ 0b1#1 ++ rn ++ rd ++ immH ++ 0b1011#4 ++ immL)
  | .ldrsb cond p u w rn rd (.reg sbz rm) => .arm (cond ++ 0b000#3 ++ p ++ u ++ 0b0#1 ++ w ++ 0b1#1 ++ rn ++ rd ++ sbz ++ 0b1101#4 ++ rm)
  | .ldrsb cond p u w rn rd (.imm immH immL) => .arm (cond ++ 0b000#3 ++ p ++ u ++ 0b1#1 ++ w ++ 0b1#1 ++ rn ++ rd ++ immH ++ 0b1101#4 ++ immL)
  | .ldrsh cond p u w rn rd (.reg sbz rm) => .arm (cond ++ 0b000#3 ++ p ++ u ++ 0b0#1 ++ w ++ 0b1#1 ++ rn ++ rd ++ sbz ++ 0b1111#4 ++ rm)
  | .ldrsh cond p u w rn rd (.imm immH immL) => .arm (cond ++ 0b000#3 ++ p ++ u ++ 0b1#1 ++ w ++ 0b1#1 ++ rn ++ rd ++ immH ++ 0b1111#4 ++ immL)
  | .undSignedStore cond x24to21 rest x5 low => .arm (cond ++ 0b000#3 ++ x24to21 ++ 0b0#1 ++ rest ++ 0b11#2 ++ x5 ++ 0b1#1 ++ low)
  | .ldr cond u w rn rd (.imm imm12) => .arm (cond ++ 0b0101#4 ++ u ++ 0b0#1 ++ w ++ 0b1#1 ++ rn ++ rd ++ imm12)
  | .ldr cond u w rn rd (.reg shiftImm ty rm) => .arm (cond ++ 0b0111#4 ++ u ++ 0b0#1 ++ w ++ 0b1#1 ++ rn ++ rd ++ shiftImm ++ ty ++ 0b0#1 ++ rm)
  | .ldrPost cond u rn rd (.imm imm12) => .arm (cond ++ 0b0100#4 ++ u ++ 0b001#3 ++ rn ++ rd ++ imm12)
  | .ldrPost cond u rn rd (.reg shiftImm ty rm) => .arm (cond ++ 0b0110#4 ++ u ++ 0b001#3 ++ rn ++ rd ++ shiftImm ++ ty ++ 0b0#1 ++ rm)
  | .ldrt cond u rn rd (.imm imm12) => .arm (cond ++ 0b0100#4 ++ u ++ 0b011#3 ++ rn ++ rd ++ imm12)
  | .ldrt cond u rn rd (.reg shiftImm ty rm) => .arm (cond ++ 0b0110#4 ++ u ++ 0b011#3 ++ rn ++ rd ++ shiftImm ++ ty ++ 0b0#1 ++ rm)
  | .str cond u w rn rd (.imm imm12) => .arm (cond ++ 0b0101#4 ++ u ++ 0b0#1 ++ w ++ 0b0#1 ++ rn ++ rd ++ imm12)
  | .str cond u w rn rd (.reg shiftImm ty rm) => .arm (cond ++ 0b0111#4 ++ u ++ 0b0#1 ++ w ++ 0b0#1 ++ rn ++ rd ++ shiftImm ++ ty ++ 0b0#1 ++ rm)
  | .strPost cond u rn rd (.imm imm12) => .arm (cond ++ 0b0100#4 ++ u ++ 0b000#3 ++ rn ++ rd ++ imm12)
  | .strPost cond u rn rd (.reg shiftImm ty rm) => .arm (cond ++ 0b0110#4 ++ u ++ 0b000#3 ++ rn ++ rd ++ shiftImm ++ ty ++ 0b0#1 ++ rm)
  | .strt cond u rn rd (.imm imm12) => .arm (cond ++ 0b0100#4 ++ u ++ 0b010#3 ++ rn ++ rd ++ imm12)
  | .strt cond u rn rd (.reg shiftImm ty rm) => .arm (cond ++ 0b0110#4 ++ u ++ 0b010#3 ++ rn ++ rd ++ shiftImm ++ ty ++ 0b0#1 ++ rm)
  | .ldrb cond u w rn rd (.imm imm12) => .arm (cond ++ 0b0101#4 ++ u ++ 0b1#1 ++ w ++ 0b1#1 ++ rn ++ rd ++ imm12)
  | .ldrb cond u w rn rd (.reg shiftImm ty rm) => .arm (cond ++ 0b0111#4 ++ u ++ 0b1#1 ++ w ++ 0b1#1 ++ rn ++ rd ++ shiftImm ++ ty ++ 0b0#1 ++ rm)
  | .ldrbPost cond u rn rd (.imm imm12) => .arm (cond ++ 0b0100#4 ++ u ++ 0b101#3 ++ rn ++ rd ++ imm12)
  | .ldrbPost cond u rn rd (.reg shiftImm ty rm) => .arm (cond ++ 0b0110#4 ++ u ++ 0b101#3 ++ rn ++ rd ++ shiftImm ++ ty ++ 0b0#1 ++ rm)
  | .ldrbt cond u rn rd (.imm imm12) => .arm (cond ++ 0b0100#4 ++ u ++ 0b111#3 ++ rn ++ rd ++ imm12)
  | .ldrbt cond u rn rd (.reg shiftImm ty rm) => .arm (cond ++ 0b0110#4 ++ u ++ 0b111#3 ++ rn ++ rd ++ shiftImm ++ ty ++ 0b0#1 ++ rm)
  | .strb cond u w rn rd (.imm imm12) => .arm (cond ++ 0b0101#4 ++ u ++ 0b1#1 ++ w ++ 0b0#1 ++ rn ++ rd ++ imm12)
  | .strb cond u w rn rd (.reg shiftImm ty rm) => .arm (cond ++ 0b0111#4 ++ u ++ 0b1#1 ++ w ++ 0b0#1 ++ rn ++ rd ++ shiftImm ++ ty ++ 0b0#1 ++ rm)
  | .strbPost cond u rn rd (.imm imm12) => .arm (cond ++ 0b0100#4 ++ u ++ 0b100#3 ++ rn ++ rd ++ imm12)
  | .strbPost cond u rn rd (.reg shiftImm ty rm) => .arm (cond ++ 0b0110#4 ++ u ++ 0b100#3 ++ rn ++ rd ++ shiftImm ++ ty ++ 0b0#1 ++ rm)
  | .strbt cond u rn rd (.imm imm12) => .arm (cond ++ 0b0100#4 ++ u ++ 0b110#3 ++ rn ++ rd ++ imm12)
  | .strbt cond u rn rd (.reg shiftImm ty rm) => .arm (cond ++ 0b0110#4 ++ u ++ 0b110#3 ++ rn ++ rd ++ shiftImm ++ ty ++ 0b0#1 ++ rm)
  | .undSpace cond rest low => .arm (cond ++ 0b011#3 ++ rest ++ 0b1#1 ++ low)
  | .ldm cond p u w rn regList => .arm (cond ++ 0b100#3 ++ p ++ u ++ 0b0#1 ++ w ++ 0b1#1 ++ rn ++ regList)
  | .ldmUser cond p u w rn regList => .arm (cond ++ 0b100#3 ++ p ++ u ++ 0b1#1 ++ w ++ 0b1#1 ++ rn ++ 0b0#1 ++ regList)
  | .ldmRestore cond p u w rn regList => .arm (cond ++ 0b100#3 ++ p ++ u ++ 0b1#1 ++ w ++ 0b1#1 ++ rn ++ 0b1#1 ++ regList)
  | .stm cond p u w rn regList => .arm (cond ++ 0b100#3 ++ p ++ u ++ 0b0#1 ++ w ++ 0b0#1 ++ rn ++ regList)
  | .stmUser cond p u w rn regList => .arm (cond ++ 0b100#3 ++ p ++ u ++ 0b1#1 ++ w ++ 0b0#1 ++ rn ++ regList)
  | .b cond imm24 => .arm (cond ++ 0b1010#4 ++ imm24)
  | .bl cond imm24 => .arm (cond ++ 0b1011#4 ++ imm24)
  | .ldcPre cond u n w rn crd cpNum imm8 => .arm (cond ++ 0b1101#4 ++ u ++ n ++ w ++ 0b1#1 ++ rn ++ crd ++ cpNum ++ imm8)
  | .ldcUp cond n w rn crd cpNum imm8 => .arm (cond ++ 0b11001#5 ++ n ++ w ++ 0b1#1 ++ rn ++ crd ++ cpNum ++ imm8)
  | .ldcDown cond n rn crd cpNum imm8 => .arm (cond ++ 0b11000#5 ++ n ++ 0b11#2 ++ rn ++ crd ++ cpNum ++ imm8)
  | .stcPre cond u n w rn crd cpNum imm8 => .arm (cond ++ 0b1101#4 ++ u ++ n ++ w ++ 0b0#1 ++ rn ++ crd ++ cpNum ++ imm8)
  | .stcUp cond n w rn crd cpNum imm8 => .arm (cond ++ 0b11001#5 ++ n ++ w ++ 0b0#1 ++ rn ++ crd ++ cpNum ++ imm8)
  | .stcDown cond n rn crd cpNum imm8 => .arm (cond ++ 0b11000#5 ++ n ++ 0b10#2 ++ rn ++ crd ++ cpNum ++ imm8)
  | .undCoproc cond n l rest => .arm (cond ++ 0b11000#5 ++ n ++ 0b0#1 ++ l ++ rest)
  | .cdp cond opcode1 crn crd cpNum opcode2 crm => .arm (cond ++ 0b1110#4 ++ opcode1 ++ crn ++ crd ++ cpNum ++ opcode2 ++ 0b0#1 ++ crm)
  | .mcr cond opcode1 crn rd cpNum opcode2 crm => .arm (cond ++ 0b1110#4 ++ opcode1 ++ 0b0#1 ++ crn ++ rd ++ cpNum ++ opcode2 ++ 0b1#1 ++ crm)
  | .mrc cond opcode1 crn rd cpNum opcode2 crm => .arm (cond ++ 0b1110#4 ++ opcode1 ++ 0b1#1 ++ crn ++ rd ++ cpNum ++ opcode2 ++ 0b1#1 ++ crm)
  | .swi cond imm24 => .arm (cond ++ 0b1111#4 ++ imm24)
  | .mrcP15c0c0o0 cond rd => .arm (cond ++ 0b111000010000#12 ++ rd ++ 0b111100010000#12)
  | .mrcP15c0c0o2 cond rd => .arm (cond ++ 0b111000010000#12 ++ rd ++ 0b111101010000#12)
  | .mrcP15c0c0o3 cond rd => .arm (cond ++ 0b111000010000#12 ++ rd ++ 0b111101110000#12)
  | .mrcP15c0c0o4 cond rd => .arm (cond ++ 0b111000010000#12 ++ rd ++ 0b111110010000#12)
  | .mrcP15c0c0o5 cond rd => .arm (cond ++ 0b111000010000#12 ++ rd ++ 0b111110110000#12)
  | .mrcP15c0c0o6 cond rd => .arm (cond ++ 0b111000010000#12 ++ rd ++ 0b111111010000#12)
  | .mrcP15c0c0o7 cond rd => .arm (cond ++ 0b111000010000#12 ++ rd ++ 0b111111110000#12)
  | .mrcP15c0c0o1 cond rd => .arm (cond ++ 0b111000010000#12 ++ rd ++ 0b111100110000#12)
  | .mrcP15c1c0o0 cond rd => .arm (cond ++ 0b111000010001#12 ++ rd ++ 0b111100010000#12)
  | .mrcP15c2c0o0 cond rd => .arm (cond ++ 0b111000010010#12 ++ rd ++ 0b111100010000#12)
  | .mrcP15c2c0o1 cond rd => .arm (cond ++ 0b111000010010#12 ++ rd ++ 0b111100110000#12)
  | .mrcP15c3c0o0 cond rd => .arm (cond ++ 0b111000010011#12 ++ rd ++ 0b111100010000#12)
  | .mrcP15c5c0o0 cond rd => .arm (cond ++ 0b111000010101#12 ++ rd ++ 0b111100010000#12)
  | .mrcP15c5c0o1 cond rd => .arm (cond ++ 0b111000010101#12 ++ rd ++ 0b111100110000#12)
  | .mrcP15c6c0o0 cond rd => .arm (cond ++ 0b111000010110#12 ++ rd ++ 0b111100010000#12)
  | .mrcP15c6c0o1 cond rd => .arm (cond ++ 0b111000010110#12 ++ rd ++ 0b111100110000#12)
  | .mrcP15c6c1o0 cond rd => .arm (cond ++ 0b111000010110#12 ++ rd ++ 0b111100010001#12)
  | .mrcP15c6c1o1 cond rd => .arm (cond ++ 0b111000010110#12 ++ rd ++ 0b111100110001#12)
  | .mrcP15c6c2o0 cond rd => .arm (cond ++ 0b111000010110#12 ++ rd ++ 0b111100010010#12)
  | .mrcP15c6c2o1 cond rd => .arm (cond ++ 0b111000010110#12 ++ rd ++ 0b111100110010#12)
  | .mrcP15c6c3o0 cond rd => .arm (cond ++ 0b111000010110#12 ++ rd ++ 0b111100010011#12)
  | .mrcP15c6c3o1 cond rd => .arm (cond ++ 0b111000010110#12 ++ rd ++ 0b111100110011#12)
  | .mrcP15c6c4o0 cond rd => .arm (cond ++ 0b111000010110#12 ++ rd ++ 0b111100010100#12)
  | .mrcP15c6c4o1 cond rd => .arm (cond ++ 0b111000010110#12 ++ rd ++ 0b111100110100#12)
  | .mrcP15c6c5o0 cond rd => .arm (cond ++ 0b111000010110#12 ++ rd ++ 0b111100010101#12)
  | .mrcP15c6c5o1 cond rd => .arm (cond ++ 0b111000010110#12 ++ rd ++ 0b111100110101#12)
  | .mrcP15c6c6o0 cond rd => .arm (cond ++ 0b111000010110#12 ++ rd ++ 0b111100010110#12)
  | .mrcP15c6c6o1 cond rd => .arm (cond ++ 0b111000010110#12 ++ rd ++ 0b111100110110#12)
  | .mrcP15c6c7o0 cond rd => .arm (cond ++ 0b111000010110#12 ++ rd ++ 0b111100010111#12)
  | .mrcP15c6c7o1 cond rd => .arm (cond ++ 0b111000010110#12 ++ rd ++ 0b111100110111#12)
  | .mrcP15c9c0o0 cond rd => .arm (cond ++ 0b111000011001#12 ++ rd ++ 0b111100010000#12)
  | .mrcP15c9c0o1 cond rd => .arm (cond ++ 0b111000011001#12 ++ rd ++ 0b111100110000#12)
  | .mrcP15c15c0o0 cond rd => .arm (cond ++ 0b111000011111#12 ++ rd ++ 0b111100010000#12)
  | .mcrP15c1c0o0 cond rd => .arm (cond ++ 0b111000000001#12 ++ rd ++ 0b111100010000#12)
  | .mcrP15c2c0o0 cond rd => .arm (cond ++ 0b111000000010#12 ++ rd ++ 0b111100010000#12)
  | .mcrP15c2c0o1 cond rd => .arm (cond ++ 0b111000000010#12 ++ rd ++ 0b111100110000#12)
  | .mcrP15c3c0o0 cond rd => .arm (cond ++ 0b111000000011#12 ++ rd ++ 0b111100010000#12)
  | .mcrP15c5c0o0 cond rd => .arm (cond ++ 0b111000000101#12 ++ rd ++ 0b111100010000#12)
  | .mcrP15c5c0o1 cond rd => .arm (cond ++ 0b111000000101#12 ++ rd ++ 0b111100110000#12)
  | .mcrP15c6c0o0 cond rd => .arm (cond ++ 0b111000000110#12 ++ rd ++ 0b111100010000#12)
  | .mcrP15c6c0o1 cond rd => .arm (cond ++ 0b111000000110#12 ++ rd ++ 0b111100110000#12)
  | .mcrP15c6c1o0 cond rd => .arm (cond ++ 0b111000000110#12 ++ rd ++ 0b111100010001#12)
  | .mcrP15c6c1o1 cond rd => .arm (cond ++ 0b111000000110#12 ++ rd ++ 0b111100110001#12)
  | .mcrP15c6c2o0 cond rd => .arm (cond ++ 0b111000000110#12 ++ rd ++ 0b111100010010#12)
  | .mcrP15c6c2o1 cond rd => .arm (cond ++ 0b111000000110#12 ++ rd ++ 0b111100110010#12)
  | .mcrP15c6c3o0 cond rd => .arm (cond ++ 0b111000000110#12 ++ rd ++ 0b111100010011#12)
  | .mcrP15c6c3o1 cond rd => .arm (cond ++ 0b111000000110#12 ++ rd ++ 0b111100110011#12)
  | .mcrP15c6c4o0 cond rd => .arm (cond ++ 0b111000000110#12 ++ rd ++ 0b111100010100#12)
  | .mcrP15c6c4o1 cond rd => .arm (cond ++ 0b111000000110#12 ++ rd ++ 0b111100110100#12)
  | .mcrP15c6c5o0 cond rd => .arm (cond ++ 0b111000000110#12 ++ rd ++ 0b111100010101#12)
  | .mcrP15c6c5o1 cond rd => .arm (cond ++ 0b111000000110#12 ++ rd ++ 0b111100110101#12)
  | .mcrP15c6c6o0 cond rd => .arm (cond ++ 0b111000000110#12 ++ rd ++ 0b111100010110#12)
  | .mcrP15c6c6o1 cond rd => .arm (cond ++ 0b111000000110#12 ++ rd ++ 0b111100110110#12)
  | .mcrP15c6c7o0 cond rd => .arm (cond ++ 0b111000000110#12 ++ rd ++ 0b111100010111#12)
  | .mcrP15c6c7o1 cond rd => .arm (cond ++ 0b111000000110#12 ++ rd ++ 0b111100110111#12)
  | .mcrP15c9c0o0 cond rd => .arm (cond ++ 0b111000001001#12 ++ rd ++ 0b111100010000#12)
  | .mcrP15c9c0o1 cond rd => .arm (cond ++ 0b111000001001#12 ++ rd ++ 0b111100110000#12)
  | .mcrP15c15c0o0 cond rd => .arm (cond ++ 0b111000001111#12 ++ rd ++ 0b111100010000#12)
  | .mcrP15c7c5o0 cond rd => .arm (cond ++ 0b111000000111#12 ++ rd ++ 0b111100010101#12)
  | .mcrP15c7c5o2 cond rd => .arm (cond ++ 0b111000000111#12 ++ rd ++ 0b111101010101#12)
  | .mcrP15c7c6o0 cond rd => .arm (cond ++ 0b111000000111#12 ++ rd ++ 0b111100010110#12)
  | .mcrP15c7c6o2 cond rd => .arm (cond ++ 0b111000000111#12 ++ rd ++ 0b111101010110#12)
  | .mcrP15c7c10o2 cond rd => .arm (cond ++ 0b111000000111#12 ++ rd ++ 0b111101011010#12)
  | .mcrP15c7c13o1 cond rd => .arm (cond ++ 0b111000000111#12 ++ rd ++ 0b111100111101#12)
  | .mcrP15c7c14o2 cond rd => .arm (cond ++ 0b111000000111#12 ++ rd ++ 0b111101011110#12)
  | .mcrP15c7c0o4 cond rd => .arm (cond ++ 0b111000000111#12 ++ rd ++ 0b111110010000#12)
  | .mcrP15c15c8o2 cond rd => .arm (cond ++ 0b111000001111#12 ++ rd ++ 0b111101011000#12)
  | .mcrP15c7c10o4 cond rd => .arm (cond ++ 0b111000000111#12 ++ rd ++ 0b111110011010#12)
  | .mcrP15c7c8o2 cond rd => .arm (cond ++ 0b111000000111#12 ++ rd ++ 0b111101011000#12)
  | .mcrP15c7c5o1 cond rd => .arm (cond ++ 0b111000000111#12 ++ rd ++ 0b111100110101#12)
  | .mrcP14c0c0o0 cond rd => .arm (cond ++ 0b111000010000#12 ++ rd ++ 0b111000010000#12)
  | .mcrP14c1c0o0 cond rd => .arm (cond ++ 0b111000000001#12 ++ rd ++ 0b111000010000#12)
  | .mrcP14c1c0o0 cond rd => .arm (cond ++ 0b111000010001#12 ++ rd ++ 0b111000010000#12)
  | .tLslImm imm5 rs rd => .thumb (0b00000#5 ++ imm5 ++ rs ++ rd)
  | .tLsrImm imm5 rs rd => .thumb (0b00001#5 ++ imm5 ++ rs ++ rd)
  | .tAsrImm imm5 rs rd => .thumb (0b00010#5 ++ imm5 ++ rs ++ rd)
  | .tAddReg rn rs rd => .thumb (0b0001100#7 ++ rn ++ rs ++ rd)
  | .tSubReg rn rs rd => .thumb (0b0001101#7 ++ rn ++ rs ++ rd)
  | .tAddImm3 imm3 rs rd => .thumb (0b0001110#7 ++ imm3 ++ rs ++ rd)
  | .tSubImm3 imm3 rs rd => .thumb (0b0001111#7 ++ imm3 ++ rs ++ rd)
  | .tMovImm rd imm8 => .thumb (0b00100#5 ++ rd ++ imm8)
  | .tCmpImm rd imm8 => .thumb (0b00101#5 ++ rd ++ imm8)
  | .tAddImm8 rd imm8 => .thumb (0b00110#5 ++ rd ++ imm8)
  | .tSubImm8 rd imm8 => .thumb (0b00111#5 ++ rd ++ imm8)
  | .tAnd rs rd => .thumb (0b0100000000#10 ++ rs ++ rd)
  | .tEor rs rd => .thumb (0b0100000001#10 ++ rs ++ rd)
  | .tLslReg rs rd => .thumb (0b0100000010#10 ++ rs ++ rd)
  | .tLsrReg rs rd => .thumb (0b0100000011#10 ++ rs ++ rd)
  | .tAsrReg rs rd => .thumb (0b0100000100#10 ++ rs ++ rd)
  | .tAdc rs rd => .thumb (0b0100000101#10 ++ rs ++ rd)
  | .tSbc rs rd => .thumb (0b0100000110#10 ++ rs ++ rd)
  | .tRorReg rs rd => .thumb (0b0100000111#10 ++ rs ++ rd)
  | .tTst rs rd => .thumb (0b0100001000#10 ++ rs ++ rd)
  | .tNeg rs rd => .thumb (0b0100001001#10 ++ rs ++ rd)
  | .tCmpReg rs rd => .thumb (0b0100001010#10 ++ rs ++ rd)
  | .tCmn rs rd => .thumb (0b0100001011#10 ++ rs ++ rd)
  | .tOrr rs rd => .thumb (0b0100001100#10 ++ rs ++ rd)
  | .tMul rs rd => .thumb (0b0100001101#10 ++ rs ++ rd)
  | .tBic rs rd => .thumb (0b0100001110#10 ++ rs ++ rd)
  | .tMvn rs rd => .thumb (0b0100001111#10 ++ rs ++ rd)
  | .tAddHi h2 rs rd => .thumb (0b010001001#9 ++ h2 ++ rs ++ rd)
  | .tAddLoHi rs rd => .thumb (0b0100010001#10 ++ rs ++ rd)
  | .tAddLow rs rd => .thumb (0b0100010000#10 ++ rs ++ rd)
  | .tCmpHi h2 rs rd => .thumb (0b010001011#9 ++ h2 ++ rs ++ rd)
  | .tCmpLoHi rs rd => .thumb (0b0100010101#10 ++ rs ++ rd)
  | .tCmpLow rs rd => .thumb (0b0100010100#10 ++ rs ++ rd)
  | .tMovHi h2 rs rd => .thumb (0b010001101#9 ++ h2 ++ rs ++ rd)
  | .tMovLoHi rs rd => .thumb (0b0100011001#10 ++ rs ++ rd)
  | .tMovLow rs rd => .thumb (0b0100011000#10 ++ rs ++ rd)
  | .tBx h2 rs sbz => .thumb (0b010001110#9 ++ h2 ++ rs ++ sbz)
  | .tBxHigh h2 rs sbz => .thumb (0b010001111#9 ++ h2 ++ rs ++ sbz)
  | .tLdrPc rd imm8 => .thumb (0b01001#5 ++ rd ++ imm8)
  | .tStrReg ro rb rd => .thumb (0b0101000#7 ++ ro ++ rb ++ rd)
  | .tStrbReg ro rb rd => .thumb (0b0101010#7 ++ ro ++ rb ++ rd)
  | .tLdrReg ro rb rd => .thumb (0b0101100#7 ++ ro ++ rb ++ rd)
  | .tLdrbReg ro rb rd => .thumb (0b0101110#7 ++ ro ++ rb ++ rd)
  | .tStrhReg ro rb rd => .thumb (0b0101001#7 ++ ro ++ rb ++ rd)
  | .tLdrhReg ro rb rd => .thumb (0b0101101#7 ++ ro ++ rb ++ rd)
  | .tLdsbReg ro rb rd => .thumb (0b0101011#7 ++ ro ++ rb ++ rd)
  | .tLdshReg ro rb rd => .thumb (0b0101111#7 ++ ro ++ rb ++ rd)
  | .tStrImm imm5 rb rd => .thumb (0b01100#5 ++ imm5 ++ rb ++ rd)
  | .tLdrImm imm5 rb rd => .thumb (0b01101#5 ++ imm5 ++ rb ++ rd)
  | .tStrbImm imm5 rb rd => .thumb (0b01110#5 ++ imm5 ++ rb ++ rd)
  | .tLdrbImm imm5 rb rd => .thumb (0b01111#5 ++ imm5 ++ rb ++ rd)
  | .tStrhImm imm5 rb rd => .thumb (0b10000#5 ++ imm5 ++ rb ++ rd)
  | .tLdrhImm imm5 rb rd => .thumb (0b10001#5 ++ imm5 ++ rb ++ rd)
  | .tStrSp rd imm8 => .thumb (0b10010#5 ++ rd ++ imm8)
  | .tLdrSp rd imm8 => .thumb (0b10011#5 ++ rd ++ imm8)
  | .tAddPc rd imm8 => .thumb (0b10100#5 ++ rd ++ imm8)
  | .tAddSp rd imm8 => .thumb (0b10101#5 ++ rd ++ imm8)
  | .tAddSpImm imm7 => .thumb (0b101100000#9 ++ imm7)
  | .tSubSpImm imm7 => .thumb (0b101100001#9 ++ imm7)
  | .tPush r rlist => .thumb (0b1011010#7 ++ r ++ rlist)
  | .tPop r rlist => .thumb (0b1011110#7 ++ r ++ rlist)
  | .tUndB1 rest => .thumb (0b10110001#8 ++ rest)
  | .tUndB2 rest => .thumb (0b1011001#7 ++ rest)
  | .tUndB6 rest => .thumb (0b1011011#7 ++ rest)
  | .tUndB8 rest => .thumb (0b101110#6 ++ rest)
  | .tUndBE rest => .thumb (0b1011111#7 ++ rest)
  | .tStmia rb rlist => .thumb (0b11000#5 ++ rb ++ rlist)
  | .tLdmia rb rlist => .thumb (0b11001#5 ++ rb ++ rlist)
  | .tBeq soffset8 => .thumb (0b11010000#8 ++ soffset8)
  | .tBne soffset8 => .thumb (0b11010001#8 ++ soffset8)
  | .tBcs soffset8 => .thumb (0b11010010#8 ++ soffset8)
  | .tBcc soffset8 => .thumb (0b11010011#8 ++ soffset8)
  | .tBmi soffset8 => .thumb (0b11010100#8 ++ soffset8)
  | .tBpl soffset8 => .thumb (0b11010101#8 ++ soffset8)
  | .tBvs soffset8 => .thumb (0b11010110#8 ++ soffset8)
  | .tBvc soffset8 => .thumb (0b11010111#8 ++ soffset8)
  | .tBhi soffset8 => .thumb (0b11011000#8 ++ soffset8)
  | .tBls soffset8 => .thumb (0b11011001#8 ++ soffset8)
  | .tBge soffset8 => .thumb (0b11011010#8 ++ soffset8)
  | .tBlt soffset8 => .thumb (0b11011011#8 ++ soffset8)
  | .tBgt soffset8 => .thumb (0b11011100#8 ++ soffset8)
  | .tBle soffset8 => .thumb (0b11011101#8 ++ soffset8)
  | .tUndCond rest => .thumb (0b11011110#8 ++ rest)
  | .tSwi imm8 => .thumb (0b11011111#8 ++ imm8)
  | .tB offset11 => .thumb (0b11100#5 ++ offset11)
  | .tUndE8 rest => .thumb (0b11101#5 ++ rest)
  | .tBlFirst offset11 => .thumb (0b11110#5 ++ offset11)
  | .tBlSecond offset11 => .thumb (0b11111#5 ++ offset11)

/-- Why bytes are no instruction. -/
inductive DecodeError where
  /-- Fewer bytes than the instruction set's one length (R200).  Safe: nothing is read. -/
  | truncated
  deriving DecidableEq, Repr

/-- The word of four bytes, the least significant first (R104; the model's layout of memory). -/
def wordOfBytes (b0 b1 b2 b3 : Byte) : Word := b3 ++ b2 ++ b1 ++ b0

/-- The halfword of two bytes, the least significant first. -/
def halfOfBytes (b0 b1 : Byte) : Half := b1 ++ b0

/-- The instruction at the head of a list of bytes and the bytes after it; `thumb` is CPSR.T (R200). -/
def decodeBytes (thumb : Bool) (bs : List Byte) : Except DecodeError (Instr × List Byte) :=
  match thumb, bs with
  | true, b0 :: b1 :: rest => .ok (decodeThumb (halfOfBytes b0 b1), rest)
  | false, b0 :: b1 :: b2 :: b3 :: rest => .ok (decodeArm (wordOfBytes b0 b1 b2 b3), rest)
  | _, _ => .error .truncated

/-- The bytes of a code word, lowest address first (little-endian layout, R104). -/
def Code.bytes : Code → List Byte
  | .arm w => [fld w 0 8, fld w 8 8, fld w 16 8, fld w 24 8]
  | .thumb h => [fld h 0 8, fld h 8 8]

/-- The bytes of an instruction, lowest address first. -/
def encodeBytes (i : Instr) : List Byte := (encode i).bytes

/-- The instruction the decoder reads from an opcode-table word of `nbits` bits: 16 for a Thumb row, 32
for an ARM row.  The word goes to the decoder as bytes in memory order. -/
def decodeTableWord (nbits w : Nat) : Option Instr :=
  if nbits = 16 then
    match decodeBytes true (Code.thumb (BitVec.ofNat 16 w)).bytes with
    | .ok (i, _) => some i
    | .error _ => none
  else if nbits = 32 then
    match decodeBytes false (Code.arm (BitVec.ofNat 32 w)).bytes with
    | .ok (i, _) => some i
    | .error _ => none
  else none

end Sys2Proof
end

