-- ==== Sys2Proof/Machine/Coproc.lean ====
section
/-!
DEFINITION. The coprocessor instructions (R380 to R392): CDP, LDC, STC and the generic MCR and MRC over the
external interface, and one meaning for each MCR and MRC access of CP15 and CP14 (R400 to R433).
-/

namespace Sys2Proof.Machine

/-! The external interface. -/

/-- The instruction word a coprocessor sees: its encoding (R386). -/
def codeWord (i : Instr) : Word :=
  match encode i with
  | .arm w => w
  | .thumb h => h.zeroExtend 32

/-- The state of an external coprocessor (R381). -/
def State.cpStateOf (s : State) (cp : BitVec 4) : Nat := (s.cpState[cp.toNat]?).getD 0

/-- The machine with the state of an external coprocessor replaced (R381). -/
def State.setCpState (s : State) (cp : BitVec 4) (v : Nat) : State :=
  { s with cpState := s.cpState.setIfInBounds cp.toNat v }

/-- A coprocessor with this number is attached (`ExtCoproc`, R10); 14 and 15 never are (R391). -/
def State.hasCp (s : State) (cp : BitVec 4) : Bool := s.attached.getLsbD cp.toNat

/-- The answer of a coprocessor to this offer of an instruction (R386, R390): the next one the outside has
set, else a free one. -/
def State.cpAnswer (s : State) (cp : BitVec 4) (w : Word) : CpAnswer :=
  match s.cpAnswers with
  | a :: _ => a
  | [] => Config.cpAnswer cp.toNat w s.privileged (s.cpStateOf cp) s.draws

/-- The machine after an offer: one answer has been used up. -/
def State.offered (s : State) : State := { s with cpAnswers := s.cpAnswers.tail, draws := s.draws + 1 }

/-- The words of an accepted transfer: 1 to 16 (R382, R386). -/
def cpWords (n : Nat) : Nat := (n - 1) % 16 + 1

/-- The handshake (R386 to R388): no coprocessor, or ABSENT, is the Undefined Instruction exception; WAIT
holds the instruction to be offered again in the next step, where an interrupt may come first; an accepted
instruction runs, with the number of words of a transfer. -/
def offer (cp : BitVec 4) (w : Word) (s : State) (accepted : Nat → State → Result) : Result :=
  if s.hasCp cp then
    match s.cpAnswer cp w with
    | .wait => .next { s.offered with busy := some w }
    | .absent => raise .undefined s.offered
    | .accept n => accepted (cpWords n) s.offered
  else raise .undefined s

/-- CDP (R381). -/
def execCdp (cond opcode1 crn crd cpNum : BitVec 4) (opcode2 : BitVec 3) (crm : BitVec 4) (s : State) : Result :=
  let w := codeWord (.cdp cond opcode1 crn crd cpNum opcode2 crm)
  ifPassed cond s fun s =>
    offer cpNum w s fun _ s => finish (s.setCpState cpNum (Config.cpCdp cpNum.toNat w (s.cpStateOf cpNum)))

/-- The words of an LDC from `k` on, ascending; `n` are left (R382, R392). -/
def cpLoadMany (cp : BitVec 4) (w : Word) (a : Word) : Nat → Nat → State → Access Unit
  | 0, _, s => .done () s
  | n + 1, k, s =>
    match load (a + BitVec.ofNat 32 (4 * k)) .word s.privileged s with
    | .done v s' =>
      cpLoadMany cp w a n (k + 1) (s'.setCpState cp (Config.cpLoadWord cp.toNat w k v (s'.cpStateOf cp)))
    | .abort s' => .abort s'
    | .fault f => .fault f

/-- The words an STC stores (R383). -/
def State.cpStoreWords (s : State) (cp : BitVec 4) (w : Word) (n : Nat) : List Word :=
  (List.range n).map fun k => Config.cpStoreWord cp.toNat w k (s.cpStateOf cp)

/-- The words of an STC, ascending (R383, R392).  R151 lets the words of an STM share a write buffer entry and
no rule speaks of STC: here words after the first may share one too (DESIGN CHOICE, log 55). -/
def cpStoreMany : List Word → Word → Bool → State → Access Unit
  | [], _, _, s => .done () s
  | v :: rest, a, join, s =>
    match store a .word v s.privileged join s with
    | .done _ s' => cpStoreMany rest (a + 4#32) true s'
    | .abort s' => .abort s'
    | .fault f => .fault f

/-- The address and the writeback of addressing mode 5 (R217). -/
def State.cpIndexing (s : State) (p u w : BitVec 1) (rn : BitVec 4) (imm8 : BitVec 8) : Indexing :=
  let target := indexed (s.reg rn) (imm8.zeroExtend 32 * 4#32) u
  { address := if p = 1#1 then target else s.reg rn, writeback := if w = 1#1 then some target else none }

/-- LDC (R382). -/
def cpLoad (cond : BitVec 4) (wb : BitVec 1) (rn cp : BitVec 4) (w : Word) (ix : State → Indexing)
    (s : State) : Result :=
  ifPassed cond s fun s =>
    offer cp w s fun n s =>
      if rn = 15#4 ∧ wb = 1#1 then .refused .r15Operand
      else
        afterAccess (cpLoadMany cp w (wordAddr (ix s).address) n 0 s) fun _ s' =>
          finish (s'.writeBase rn (ix s).writeback)

/-- STC (R383). -/
def cpStore (cond : BitVec 4) (wb : BitVec 1) (rn cp : BitVec 4) (w : Word) (ix : State → Indexing)
    (s : State) : Result :=
  ifPassed cond s fun s =>
    offer cp w s fun n s =>
      if rn = 15#4 ∧ wb = 1#1 then .refused .r15Operand
      else
        afterAccess (cpStoreMany (s.cpStoreWords cp w n) (wordAddr (ix s).address) false s) fun _ s' =>
          finish (s'.writeBase rn (ix s).writeback)

/-- LDC, offset and pre-indexed (R382). -/
def execLdcPre (cond : BitVec 4) (u n w : BitVec 1) (rn crd cpNum : BitVec 4) (imm8 : BitVec 8) (s : State) :
    Result :=
  cpLoad cond w rn cpNum (codeWord (.ldcPre cond u n w rn crd cpNum imm8))
    (fun s => s.cpIndexing 1#1 u w rn imm8) s

/-- LDC, post-indexed upwards, and unindexed (R382). -/
def execLdcUp (cond : BitVec 4) (n w : BitVec 1) (rn crd cpNum : BitVec 4) (imm8 : BitVec 8) (s : State) :
    Result :=
  cpLoad cond w rn cpNum (codeWord (.ldcUp cond n w rn crd cpNum imm8))
    (fun s => s.cpIndexing 0#1 1#1 w rn imm8) s

/-- LDC, post-indexed downwards (R382). -/
def execLdcDown (cond : BitVec 4) (n : BitVec 1) (rn crd cpNum : BitVec 4) (imm8 : BitVec 8) (s : State) :
    Result :=
  cpLoad cond 1#1 rn cpNum (codeWord (.ldcDown cond n rn crd cpNum imm8))
    (fun s => s.cpIndexing 0#1 0#1 1#1 rn imm8) s

/-- STC, offset and pre-indexed (R383). -/
def execStcPre (cond : BitVec 4) (u n w : BitVec 1) (rn crd cpNum : BitVec 4) (imm8 : BitVec 8) (s : State) :
    Result :=
  cpStore cond w rn cpNum (codeWord (.stcPre cond u n w rn crd cpNum imm8))
    (fun s => s.cpIndexing 1#1 u w rn imm8) s

/-- STC, post-indexed upwards, and unindexed (R383). -/
def execStcUp (cond : BitVec 4) (n w : BitVec 1) (rn crd cpNum : BitVec 4) (imm8 : BitVec 8) (s : State) :
    Result :=
  cpStore cond w rn cpNum (codeWord (.stcUp cond n w rn crd cpNum imm8))
    (fun s => s.cpIndexing 0#1 1#1 w rn imm8) s

/-- STC, post-indexed downwards (R383). -/
def execStcDown (cond : BitVec 4) (n : BitVec 1) (rn crd cpNum : BitVec 4) (imm8 : BitVec 8) (s : State) :
    Result :=
  cpStore cond 1#1 rn cpNum (codeWord (.stcDown cond n rn crd cpNum imm8))
    (fun s => s.cpIndexing 0#1 0#1 1#1 rn imm8) s

/-! Register transfers. -/

/-- The value an MRC returns goes to Rd, or with Rd = 15 its bits 31:28 to the flags (R385). -/
def transferIn (rd : BitVec 4) (v : Word) (s : State) : Result :=
  if rd = 15#4 then finish (s.setFlags (v.getLsbD 31) (v.getLsbD 30) (v.getLsbD 29) (v.getLsbD 28))
  else finish (s.setReg rd v)

/-- An access to CP15: in User mode the Undefined Instruction exception, whatever its fields (R400). -/
def cp15Access (cond : BitVec 4) (s : State) (f : State → Result) : Result :=
  ifPassed cond s fun s => if s.privileged then f s else raise .undefined s

/-- MRC of a CP15 register (R400); a register with unstated bits uses up a free word. -/
def cp15Read (r : SysReg) (cond rd : BitVec 4) (s : State) : Result :=
  cp15Access cond s fun s =>
    transferIn rd (s.sysRead r) (if r.freeBits = 0#32 then s else s.draw.2)

/-- MCR to a CP15 register (R400); Rd = 15 is UNPREDICTABLE (R384). -/
def cp15Write (r : SysReg) (cond rd : BitVec 4) (s : State) : Result :=
  cp15Access cond s fun s =>
    if rd = 15#4 then .refused .r15Operand
    else
      match r.writeRefusal (s.reg rd) with
      | some e => .refused e
      | none => finish { s with cp15 := s.cp15.write r (s.reg rd) }

/-- MCR to register 7, and the second wait for interrupt (R411 to R420). -/
def cp15Op (op : CacheOp) (cond rd : BitVec 4) (s : State) : Result :=
  cp15Access cond s fun s =>
    if rd = 15#4 then .refused .r15Operand
    else if s.reg rd &&& op.zeroBits ≠ 0#32 then .refused .cp15ShouldBe
    else afterAccess (cacheOperation op (s.reg rd) s) fun _ s => finish s

/-- A CP15 access that no row of R400 allows (R424, R425). -/
def cp15None (cond : BitVec 4) (s : State) : Result := cp15Access cond s fun _ => .refused .cp15Reserved

/-- An MCR or MRC of CP14 that is none of its three accesses (R433, S9, D33): refused in every mode. -/
def cp14None (cond : BitVec 4) (s : State) : Result := ifPassed cond s fun _ => .refused .cp14Reserved

/-- MCR to an external coprocessor (R384), to CP14 where no row gives it a meaning (R433), and to CP15
where no row allows it (R424, R425). -/
def execMcr (cond : BitVec 4) (opcode1 : BitVec 3) (crn rd cpNum : BitVec 4) (opcode2 : BitVec 3)
    (crm : BitVec 4) (s : State) : Result :=
  let w := codeWord (.mcr cond opcode1 crn rd cpNum opcode2 crm)
  if cpNum = 15#4 then cp15None cond s
  else if cpNum = 14#4 then cp14None cond s
  else
    ifPassed cond s fun s =>
      offer cpNum w s fun _ s =>
        if rd = 15#4 then .refused .r15Operand
        else finish (s.setCpState cpNum (Config.cpMcr cpNum.toNat w (s.reg rd) (s.cpStateOf cpNum)))

/-- MRC from an external coprocessor (R385), from CP14 where no row gives it a meaning (R433), and from CP15
where no row allows it, the reads of register 7 among them (R424, R425). -/
def execMrc (cond : BitVec 4) (opcode1 : BitVec 3) (crn rd cpNum : BitVec 4) (opcode2 : BitVec 3)
    (crm : BitVec 4) (s : State) : Result :=
  let w := codeWord (.mrc cond opcode1 crn rd cpNum opcode2 crm)
  if cpNum = 15#4 then cp15None cond s
  else if cpNum = 14#4 then cp14None cond s
  else
    ifPassed cond s fun s =>
      offer cpNum w s fun _ s => transferIn rd (Config.cpMrc cpNum.toNat w (s.cpStateOf cpNum)) s

/-! CP15. -/

/-- Read the ID code (R401). -/
def execMrcP15c0c0o0 (cond rd : BitVec 4) (s : State) : Result := cp15Read .idCode cond rd s

/-- Read the ID code (R401). -/
def execMrcP15c0c0o2 (cond rd : BitVec 4) (s : State) : Result := cp15Read .idCode cond rd s

/-- Read the ID code (R401). -/
def execMrcP15c0c0o3 (cond rd : BitVec 4) (s : State) : Result := cp15Read .idCode cond rd s

/-- Read the ID code (R401). -/
def execMrcP15c0c0o4 (cond rd : BitVec 4) (s : State) : Result := cp15Read .idCode cond rd s

/-- Read the ID code (R401). -/
def execMrcP15c0c0o5 (cond rd : BitVec 4) (s : State) : Result := cp15Read .idCode cond rd s

/-- Read the ID code (R401). -/
def execMrcP15c0c0o6 (cond rd : BitVec 4) (s : State) : Result := cp15Read .idCode cond rd s

/-- Read the ID code (R401). -/
def execMrcP15c0c0o7 (cond rd : BitVec 4) (s : State) : Result := cp15Read .idCode cond rd s

/-- Read the cache type (R402). -/
def execMrcP15c0c0o1 (cond rd : BitVec 4) (s : State) : Result := cp15Read .cacheType cond rd s

/-- Read the control register (R403). -/
def execMrcP15c1c0o0 (cond rd : BitVec 4) (s : State) : Result := cp15Read .control cond rd s

/-- Read the data cachable bits (R404). -/
def execMrcP15c2c0o0 (cond rd : BitVec 4) (s : State) : Result := cp15Read (.cachable .data) cond rd s

/-- Read the instruction cachable bits (R405). -/
def execMrcP15c2c0o1 (cond rd : BitVec 4) (s : State) : Result := cp15Read (.cachable .instr) cond rd s

/-- Read the bufferable bits (R406). -/
def execMrcP15c3c0o0 (cond rd : BitVec 4) (s : State) : Result := cp15Read .bufferable cond rd s

/-- Read the data access permissions (R407). -/
def execMrcP15c5c0o0 (cond rd : BitVec 4) (s : State) : Result := cp15Read (.permission .data) cond rd s

/-- Read the instruction access permissions (R408). -/
def execMrcP15c5c0o1 (cond rd : BitVec 4) (s : State) : Result := cp15Read (.permission .instr) cond rd s

/-- Read data region 0 (R409). -/
def execMrcP15c6c0o0 (cond rd : BitVec 4) (s : State) : Result := cp15Read (.region .data 0) cond rd s

/-- Read instruction region 0 (R410). -/
def execMrcP15c6c0o1 (cond rd : BitVec 4) (s : State) : Result := cp15Read (.region .instr 0) cond rd s

/-- Read data region 1 (R409). -/
def execMrcP15c6c1o0 (cond rd : BitVec 4) (s : State) : Result := cp15Read (.region .data 1) cond rd s

/-- Read instruction region 1 (R410). -/
def execMrcP15c6c1o1 (cond rd : BitVec 4) (s : State) : Result := cp15Read (.region .instr 1) cond rd s

/-- Read data region 2 (R409). -/
def execMrcP15c6c2o0 (cond rd : BitVec 4) (s : State) : Result := cp15Read (.region .data 2) cond rd s

/-- Read instruction region 2 (R410). -/
def execMrcP15c6c2o1 (cond rd : BitVec 4) (s : State) : Result := cp15Read (.region .instr 2) cond rd s

/-- Read data region 3 (R409). -/
def execMrcP15c6c3o0 (cond rd : BitVec 4) (s : State) : Result := cp15Read (.region .data 3) cond rd s

/-- Read instruction region 3 (R410). -/
def execMrcP15c6c3o1 (cond rd : BitVec 4) (s : State) : Result := cp15Read (.region .instr 3) cond rd s

/-- Read data region 4 (R409). -/
def execMrcP15c6c4o0 (cond rd : BitVec 4) (s : State) : Result := cp15Read (.region .data 4) cond rd s

/-- Read instruction region 4 (R410). -/
def execMrcP15c6c4o1 (cond rd : BitVec 4) (s : State) : Result := cp15Read (.region .instr 4) cond rd s

/-- Read data region 5 (R409). -/
def execMrcP15c6c5o0 (cond rd : BitVec 4) (s : State) : Result := cp15Read (.region .data 5) cond rd s

/-- Read instruction region 5 (R410). -/
def execMrcP15c6c5o1 (cond rd : BitVec 4) (s : State) : Result := cp15Read (.region .instr 5) cond rd s

/-- Read data region 6 (R409). -/
def execMrcP15c6c6o0 (cond rd : BitVec 4) (s : State) : Result := cp15Read (.region .data 6) cond rd s

/-- Read instruction region 6 (R410). -/
def execMrcP15c6c6o1 (cond rd : BitVec 4) (s : State) : Result := cp15Read (.region .instr 6) cond rd s

/-- Read data region 7 (R409). -/
def execMrcP15c6c7o0 (cond rd : BitVec 4) (s : State) : Result := cp15Read (.region .data 7) cond rd s

/-- Read instruction region 7 (R410). -/
def execMrcP15c6c7o1 (cond rd : BitVec 4) (s : State) : Result := cp15Read (.region .instr 7) cond rd s

/-- Read the data lockdown register (R421). -/
def execMrcP15c9c0o0 (cond rd : BitVec 4) (s : State) : Result := cp15Read (.lockdown .data) cond rd s

/-- Read the instruction lockdown register (R422). -/
def execMrcP15c9c0o1 (cond rd : BitVec 4) (s : State) : Result := cp15Read (.lockdown .instr) cond rd s

/-- Read the test register (R423). -/
def execMrcP15c15c0o0 (cond rd : BitVec 4) (s : State) : Result := cp15Read .test cond rd s

/-- Write the control register (R403). -/
def execMcrP15c1c0o0 (cond rd : BitVec 4) (s : State) : Result := cp15Write .control cond rd s

/-- Write the data cachable bits (R404). -/
def execMcrP15c2c0o0 (cond rd : BitVec 4) (s : State) : Result := cp15Write (.cachable .data) cond rd s

/-- Write the instruction cachable bits (R405). -/
def execMcrP15c2c0o1 (cond rd : BitVec 4) (s : State) : Result := cp15Write (.cachable .instr) cond rd s

/-- Write the bufferable bits (R406). -/
def execMcrP15c3c0o0 (cond rd : BitVec 4) (s : State) : Result := cp15Write .bufferable cond rd s

/-- Write the data access permissions (R407). -/
def execMcrP15c5c0o0 (cond rd : BitVec 4) (s : State) : Result := cp15Write (.permission .data) cond rd s

/-- Write the instruction access permissions (R408). -/
def execMcrP15c5c0o1 (cond rd : BitVec 4) (s : State) : Result := cp15Write (.permission .instr) cond rd s

/-- Write data region 0 (R409). -/
def execMcrP15c6c0o0 (cond rd : BitVec 4) (s : State) : Result := cp15Write (.region .data 0) cond rd s

/-- Write instruction region 0 (R410). -/
def execMcrP15c6c0o1 (cond rd : BitVec 4) (s : State) : Result := cp15Write (.region .instr 0) cond rd s

/-- Write data region 1 (R409). -/
def execMcrP15c6c1o0 (cond rd : BitVec 4) (s : State) : Result := cp15Write (.region .data 1) cond rd s

/-- Write instruction region 1 (R410). -/
def execMcrP15c6c1o1 (cond rd : BitVec 4) (s : State) : Result := cp15Write (.region .instr 1) cond rd s

/-- Write data region 2 (R409). -/
def execMcrP15c6c2o0 (cond rd : BitVec 4) (s : State) : Result := cp15Write (.region .data 2) cond rd s

/-- Write instruction region 2 (R410). -/
def execMcrP15c6c2o1 (cond rd : BitVec 4) (s : State) : Result := cp15Write (.region .instr 2) cond rd s

/-- Write data region 3 (R409). -/
def execMcrP15c6c3o0 (cond rd : BitVec 4) (s : State) : Result := cp15Write (.region .data 3) cond rd s

/-- Write instruction region 3 (R410). -/
def execMcrP15c6c3o1 (cond rd : BitVec 4) (s : State) : Result := cp15Write (.region .instr 3) cond rd s

/-- Write data region 4 (R409). -/
def execMcrP15c6c4o0 (cond rd : BitVec 4) (s : State) : Result := cp15Write (.region .data 4) cond rd s

/-- Write instruction region 4 (R410). -/
def execMcrP15c6c4o1 (cond rd : BitVec 4) (s : State) : Result := cp15Write (.region .instr 4) cond rd s

/-- Write data region 5 (R409). -/
def execMcrP15c6c5o0 (cond rd : BitVec 4) (s : State) : Result := cp15Write (.region .data 5) cond rd s

/-- Write instruction region 5 (R410). -/
def execMcrP15c6c5o1 (cond rd : BitVec 4) (s : State) : Result := cp15Write (.region .instr 5) cond rd s

/-- Write data region 6 (R409). -/
def execMcrP15c6c6o0 (cond rd : BitVec 4) (s : State) : Result := cp15Write (.region .data 6) cond rd s

/-- Write instruction region 6 (R410). -/
def execMcrP15c6c6o1 (cond rd : BitVec 4) (s : State) : Result := cp15Write (.region .instr 6) cond rd s

/-- Write data region 7 (R409). -/
def execMcrP15c6c7o0 (cond rd : BitVec 4) (s : State) : Result := cp15Write (.region .data 7) cond rd s

/-- Write instruction region 7 (R410). -/
def execMcrP15c6c7o1 (cond rd : BitVec 4) (s : State) : Result := cp15Write (.region .instr 7) cond rd s

/-- Write the data lockdown register (R421). -/
def execMcrP15c9c0o0 (cond rd : BitVec 4) (s : State) : Result := cp15Write (.lockdown .data) cond rd s

/-- Write the instruction lockdown register (R422). -/
def execMcrP15c9c0o1 (cond rd : BitVec 4) (s : State) : Result := cp15Write (.lockdown .instr) cond rd s

/-- Write the test register (R423). -/
def execMcrP15c15c0o0 (cond rd : BitVec 4) (s : State) : Result := cp15Write .test cond rd s

/-- Flush ICache (R411). -/
def execMcrP15c7c5o0 (cond rd : BitVec 4) (s : State) : Result := cp15Op .flushI cond rd s

/-- Flush ICache single entry (R412). -/
def execMcrP15c7c5o2 (cond rd : BitVec 4) (s : State) : Result := cp15Op .flushILine cond rd s

/-- Flush DCache (R413). -/
def execMcrP15c7c6o0 (cond rd : BitVec 4) (s : State) : Result := cp15Op .flushD cond rd s

/-- Flush DCache single entry (R414). -/
def execMcrP15c7c6o2 (cond rd : BitVec 4) (s : State) : Result := cp15Op .flushDLine cond rd s

/-- Clean DCache single entry (R415). -/
def execMcrP15c7c10o2 (cond rd : BitVec 4) (s : State) : Result := cp15Op .cleanDLine cond rd s

/-- Prefetch ICache line (R416). -/
def execMcrP15c7c13o1 (cond rd : BitVec 4) (s : State) : Result := cp15Op .prefetchI cond rd s

/-- Clean and flush DCache single entry (R417). -/
def execMcrP15c7c14o2 (cond rd : BitVec 4) (s : State) : Result := cp15Op .cleanFlushDLine cond rd s

/-- Wait for interrupt (R418). -/
def execMcrP15c7c0o4 (cond rd : BitVec 4) (s : State) : Result := cp15Op .waitInterrupt cond rd s

/-- Wait for interrupt, the StrongARM form (R419). -/
def execMcrP15c15c8o2 (cond rd : BitVec 4) (s : State) : Result := cp15Op .waitInterrupt cond rd s

/-- Drain write buffer (R420). -/
def execMcrP15c7c10o4 (cond rd : BitVec 4) (s : State) : Result := cp15Op .drain cond rd s

/-- A misprinted encoding: no row of R400 allows it (R425; C1). -/
def execMcrP15c7c8o2 (cond _rd : BitVec 4) (s : State) : Result := cp15None cond s

/-- A misprinted encoding: no row of R400 allows it (R425; C2). -/
def execMcrP15c7c5o1 (cond _rd : BitVec 4) (s : State) : Result := cp15None cond s

/-! CP14. -/

/-- Read the debug comms control register (R430), in any mode. -/
def execMrcP14c0c0o0 (cond rd : BitVec 4) (s : State) : Result :=
  ifPassed cond s fun s => transferIn rd s.commsControl s.draw.2

/-- Write the comms data write register (R431), in any mode. -/
def execMcrP14c1c0o0 (cond rd : BitVec 4) (s : State) : Result :=
  ifPassed cond s fun s =>
    if rd = 15#4 then .refused .r15Operand else finish { s with dcc := s.dcc.send (s.reg rd) }

/-- Read the comms data read register (R432), in any mode. -/
def execMrcP14c1c0o0 (cond rd : BitVec 4) (s : State) : Result :=
  ifPassed cond s fun s => transferIn rd s.dcc.readData { s with dcc := s.dcc.receive }

end Sys2Proof.Machine
end

