-- ==== Sys2Proof/Machine/DataProcessing.lean ====
section
/-!
DEFINITION. The sixteen ARM data-processing instructions (R260 to R284): the three operand forms, the
flags, and the forms that write the PC.
-/

namespace Sys2Proof.Machine

/-- The sixteen operations (R201). -/
inductive DpOp where
  | and | eor | sub | rsb | add | adc | sbc | rsc | tst | teq | cmp | cmn | orr | mov | bic | mvn
  deriving DecidableEq, Repr

/-- The result, carry and overflow of an operation on the first operand, the shifter operand and the old C
and V (R264 to R279, R282). -/
def dpResult (op : DpOp) (a : Word) (b : Shifted) (c v : Bool) : FlagResult :=
  match op with
  | .and => logicalResult (a &&& b.value) b.carry v
  | .eor => logicalResult (a ^^^ b.value) b.carry v
  | .sub => addWithCarry a (~~~b.value) true
  | .rsb => addWithCarry b.value (~~~a) true
  | .add => addWithCarry a b.value false
  | .adc => addWithCarry a b.value c
  | .sbc => addWithCarry a (~~~b.value) c
  | .rsc => addWithCarry b.value (~~~a) c
  | .tst => logicalResult (a &&& b.value) b.carry v
  | .teq => logicalResult (a ^^^ b.value) b.carry v
  | .cmp => addWithCarry a (~~~b.value) true
  | .cmn => addWithCarry a b.value false
  | .orr => logicalResult (a ||| b.value) b.carry v
  | .mov => logicalResult b.value b.carry v
  | .bic => logicalResult (a &&& ~~~b.value) b.carry v
  | .mvn => logicalResult (~~~b.value) b.carry v

/-- What an operation computes in a state (R260). -/
def State.dpOutcome (s : State) (op : DpOp) (rn : BitVec 4) (op2 : Operand2) : FlagResult :=
  dpResult op (s.operand1 rn op2) (s.operand2 op2) s.flagC s.flagV

/-- The destination of a data-processing instruction other than a compare (R260, R283, R284).  Rd = 15 beside a
register-specified shift, to which the spec gives no semantics (R213), is written as in the other forms (DESIGN
CHOICE, log 12).  The pc of a return is judged with the restored T (R284, U4; log 11). -/
def dpWrite (setFlags : BitVec 1) (rd : BitVec 4) (r : FlagResult) (s : State) : Result :=
  if rd = 15#4 then
    if setFlags = 1#1 then returnFromException (writePc r.value) s else writePc r.value s
  else
    finish ((if setFlags = 1#1 then s.setFlagsOf r else s).setReg rd r.value)

/-- An instruction with a destination and a first operand (R260). -/
def dataOp (op : DpOp) (cond : BitVec 4) (setFlags : BitVec 1) (rn rd : BitVec 4) (op2 : Operand2)
    (s : State) : Result :=
  ifPassed cond s fun s => dpWrite setFlags rd (s.dpOutcome op rn op2) s

/-- MOV and MVN: bits 19:16 should be zero (R237, R277, R279). -/
def moveOp (op : DpOp) (cond : BitVec 4) (setFlags : BitVec 1) (rn rd : BitVec 4) (op2 : Operand2)
    (s : State) : Result :=
  ifPassed cond s fun s =>
    if rn = 0#4 then dpWrite setFlags rd (s.dpOutcome op rn op2) s else .refused .shouldBe

/-- TST, TEQ, CMP and CMN: flags only; bits 15:12 should be zero (R237, R272 to R275). -/
def compareOp (op : DpOp) (cond : BitVec 4) (rn rd : BitVec 4) (op2 : Operand2) (s : State) : Result :=
  ifPassed cond s fun s =>
    if rd = 0#4 then finish (s.setFlagsOf (s.dpOutcome op rn op2)) else .refused .shouldBe

/-- AND (R264). -/
def execAnd (cond : BitVec 4) (setFlags : BitVec 1) (rn rd : BitVec 4) (op2 : Operand2) (s : State) : Result :=
  dataOp .and cond setFlags rn rd op2 s

/-- EOR (R265). -/
def execEor (cond : BitVec 4) (setFlags : BitVec 1) (rn rd : BitVec 4) (op2 : Operand2) (s : State) : Result :=
  dataOp .eor cond setFlags rn rd op2 s

/-- SUB (R266). -/
def execSub (cond : BitVec 4) (setFlags : BitVec 1) (rn rd : BitVec 4) (op2 : Operand2) (s : State) : Result :=
  dataOp .sub cond setFlags rn rd op2 s

/-- RSB (R267). -/
def execRsb (cond : BitVec 4) (setFlags : BitVec 1) (rn rd : BitVec 4) (op2 : Operand2) (s : State) : Result :=
  dataOp .rsb cond setFlags rn rd op2 s

/-- ADD (R268). -/
def execAdd (cond : BitVec 4) (setFlags : BitVec 1) (rn rd : BitVec 4) (op2 : Operand2) (s : State) : Result :=
  dataOp .add cond setFlags rn rd op2 s

/-- ADC (R269). -/
def execAdc (cond : BitVec 4) (setFlags : BitVec 1) (rn rd : BitVec 4) (op2 : Operand2) (s : State) : Result :=
  dataOp .adc cond setFlags rn rd op2 s

/-- SBC (R270). -/
def execSbc (cond : BitVec 4) (setFlags : BitVec 1) (rn rd : BitVec 4) (op2 : Operand2) (s : State) : Result :=
  dataOp .sbc cond setFlags rn rd op2 s

/-- RSC (R271). -/
def execRsc (cond : BitVec 4) (setFlags : BitVec 1) (rn rd : BitVec 4) (op2 : Operand2) (s : State) : Result :=
  dataOp .rsc cond setFlags rn rd op2 s

/-- TST (R272). -/
def execTst (cond rn rd : BitVec 4) (op2 : Operand2) (s : State) : Result :=
  compareOp .tst cond rn rd op2 s

/-- TEQ (R273). -/
def execTeq (cond rn rd : BitVec 4) (op2 : Operand2) (s : State) : Result :=
  compareOp .teq cond rn rd op2 s

/-- CMP (R274). -/
def execCmp (cond rn rd : BitVec 4) (op2 : Operand2) (s : State) : Result :=
  compareOp .cmp cond rn rd op2 s

/-- CMN (R275). -/
def execCmn (cond rn rd : BitVec 4) (op2 : Operand2) (s : State) : Result :=
  compareOp .cmn cond rn rd op2 s

/-- ORR (R276). -/
def execOrr (cond : BitVec 4) (setFlags : BitVec 1) (rn rd : BitVec 4) (op2 : Operand2) (s : State) : Result :=
  dataOp .orr cond setFlags rn rd op2 s

/-- MOV (R277). -/
def execMov (cond : BitVec 4) (setFlags : BitVec 1) (rn rd : BitVec 4) (op2 : Operand2) (s : State) : Result :=
  moveOp .mov cond setFlags rn rd op2 s

/-- BIC (R278). -/
def execBic (cond : BitVec 4) (setFlags : BitVec 1) (rn rd : BitVec 4) (op2 : Operand2) (s : State) : Result :=
  dataOp .bic cond setFlags rn rd op2 s

/-- MVN (R279). -/
def execMvn (cond : BitVec 4) (setFlags : BitVec 1) (rn rd : BitVec 4) (op2 : Operand2) (s : State) : Result :=
  moveOp .mvn cond setFlags rn rd op2 s

end Sys2Proof.Machine
end

