-- ==== Sys2Proof/Machine/Multiply.lean ====
section
/-!
DEFINITION. The six multiplies (R300 to R306).
-/

namespace Sys2Proof.Machine

/-- The flags of MULS and MLAS: N and Z of the result, C a free bit, V kept (R306; D17). -/
def State.multiplyFlags (s : State) (r : Word) : State :=
  s.draw.2.setFlags (r.getLsbD 31) (r == 0#32) (s.draw.1.getLsbD 0) s.flagV

/-- The flags of the long forms with S: N and Z of the 64 bits, C and V free bits (R306; D17). -/
def State.longFlags (s : State) (p : BitVec 64) : State :=
  s.draw.2.setFlags (p.getLsbD 63) (p == 0#64) (s.draw.1.getLsbD 0) (s.draw.1.getLsbD 1)

/-- MUL and MLA after their product (R300, R301, R306). -/
def multiplyWrite (setFlags : BitVec 1) (rd : BitVec 4) (r : Word) (s : State) : Result :=
  finish ((if setFlags = 1#1 then s.multiplyFlags r else s).setReg rd r)

/-- MUL (R300). -/
def execMul (cond : BitVec 4) (setFlags : BitVec 1) (rd sbz rs rm : BitVec 4) (s : State) : Result :=
  ifPassed cond s fun s =>
    if sbz ≠ 0#4 then .refused .shouldBe
    else if rd = 15#4 ∨ rs = 15#4 ∨ rm = 15#4 then .refused .r15Operand
    else if rd = rm then .refused .registerClash
    else multiplyWrite setFlags rd (s.reg rm * s.reg rs) s

/-- MLA (R301). -/
def execMla (cond : BitVec 4) (setFlags : BitVec 1) (rd rn rs rm : BitVec 4) (s : State) : Result :=
  ifPassed cond s fun s =>
    if rd = 15#4 ∨ rn = 15#4 ∨ rs = 15#4 ∨ rm = 15#4 then .refused .r15Operand
    else if rd = rm then .refused .registerClash
    else multiplyWrite setFlags rd (s.reg rm * s.reg rs + s.reg rn) s

/-- The operands a long multiply must not have (R306). -/
def longRefusal (rdHi rdLo rs rm : BitVec 4) : Option Refusal :=
  if rdHi = 15#4 ∨ rdLo = 15#4 ∨ rs = 15#4 ∨ rm = 15#4 then some .r15Operand
  else if rdHi = rdLo ∨ rdHi = rm ∨ rdLo = rm then some .registerClash
  else none

/-- The exact product of two words as 64 bits (R302, R304). -/
def longProduct (signed : Bool) (a b : Word) : BitVec 64 :=
  if signed then BitVec.ofInt 64 (a.toInt * b.toInt) else BitVec.ofNat 64 (a.toNat * b.toNat)

/-- The 64 bits a long multiply writes (R302 to R305). -/
def State.longValue (s : State) (signed accumulate : Bool) (rdHi rdLo rs rm : BitVec 4) : BitVec 64 :=
  longProduct signed (s.reg rm) (s.reg rs) +
    (if accumulate then (s.reg rdHi ++ s.reg rdLo : BitVec 64) else 0#64)

/-- The four long multiplies (R302 to R306). -/
def longMultiply (signed accumulate : Bool) (cond : BitVec 4) (setFlags : BitVec 1)
    (rdHi rdLo rs rm : BitVec 4) (s : State) : Result :=
  ifPassed cond s fun s =>
    match longRefusal rdHi rdLo rs rm with
    | some r => .refused r
    | none =>
      let p := s.longValue signed accumulate rdHi rdLo rs rm
      let s := if setFlags = 1#1 then s.longFlags p else s
      finish ((s.setReg rdLo (p.extractLsb' 0 32)).setReg rdHi (p.extractLsb' 32 32))

/-- UMULL (R302). -/
def execUmull (cond : BitVec 4) (setFlags : BitVec 1) (rdHi rdLo rs rm : BitVec 4) (s : State) : Result :=
  longMultiply false false cond setFlags rdHi rdLo rs rm s

/-- UMLAL (R303). -/
def execUmlal (cond : BitVec 4) (setFlags : BitVec 1) (rdHi rdLo rs rm : BitVec 4) (s : State) : Result :=
  longMultiply false true cond setFlags rdHi rdLo rs rm s

/-- SMULL (R304). -/
def execSmull (cond : BitVec 4) (setFlags : BitVec 1) (rdHi rdLo rs rm : BitVec 4) (s : State) : Result :=
  longMultiply true false cond setFlags rdHi rdLo rs rm s

/-- SMLAL (R305). -/
def execSmlal (cond : BitVec 4) (setFlags : BitVec 1) (rdHi rdLo rs rm : BitVec 4) (s : State) : Result :=
  longMultiply true true cond setFlags rdHi rdLo rs rm s

end Sys2Proof.Machine
end

