-- ==== Sys2Proof/Machine/Status.lean ====
section
/-!
DEFINITION. MRS and MSR (R280, R281).
-/

namespace Sys2Proof.Machine

/-- MRS (R280).  The SPSR of a mode that has none is UNPREDICTABLE to read (R36, R280, U7; log 9). -/
def execMrs (cond : BitVec 4) (r : BitVec 1) (sbo rd sbzHi sbzLo : BitVec 4) (s : State) : Result :=
  ifPassed cond s fun s =>
    if sbo ≠ 15#4 ∨ sbzHi ≠ 0#4 ∨ sbzLo ≠ 0#4 then .refused .shouldBe
    else if rd = 15#4 then .refused .r15Operand
    else if r = 0#1 then finish (s.setReg rd (statusClean s.cpsr))
    else if modeHasSpsr s.mode then finish (s.setReg rd (s.spsrOf s.mode))
    else .refused .noSpsr

/-- The bytes of a status register that `field_mask` names (R281). -/
def fieldBytes (mask : BitVec 4) : Word :=
  (if mask.getLsbD 3 then 0xFF000000#32 else 0#32) ||| (if mask.getLsbD 2 then 0x00FF0000#32 else 0#32) |||
  (if mask.getLsbD 1 then 0x0000FF00#32 else 0#32) ||| (if mask.getLsbD 0 then 0x000000FF#32 else 0#32)

/-- A status word with some of its bits replaced, the reserved bits zero (R281; D29). -/
def statusMerge (old v bytes : Word) : Word := statusClean ((old &&& ~~~bytes) ||| (v &&& bytes))

/-- The bytes of the CPSR an MSR may write: User mode changes the flags only (R281), except in debug state
(R581 (d), R603). -/
def State.cpsrBytes (s : State) (mask : BitVec 4) : Word :=
  if s.privileged || s.dbg.active then fieldBytes mask else fieldBytes mask &&& 0xFF000000#32

/-- MSR to the CPSR (R281). -/
def msrCpsr (mask : BitVec 4) (v : Word) (s : State) : Result :=
  let new := statusMerge s.cpsr v (s.cpsrBytes mask)
  if new.getLsbD 5 ≠ s.thumb then .refused .msrThumb
  else if modeLegal (new.extractLsb' 0 5) then finish { s with cpsr := new } else .refused .badMode

/-- MSR to the SPSR (R281).  The SPSR of a mode that has none is UNPREDICTABLE to write (R281, U7; log 9). -/
def msrSpsr (mask : BitVec 4) (v : Word) (s : State) : Result :=
  if modeHasSpsr s.mode then
    finish (s.setSpsrOf s.mode (statusMerge (s.spsrOf s.mode) v (fieldBytes mask)))
  else .refused .noSpsr

/-- Both destinations of MSR (R281). -/
def msrWrite (r : BitVec 1) (mask : BitVec 4) (v : Word) (s : State) : Result :=
  if r = 0#1 then msrCpsr mask v s else msrSpsr mask v s

/-- MSR from a register (R281). -/
def execMsrReg (cond : BitVec 4) (r : BitVec 1) (fieldMask sbo sbz rm : BitVec 4) (s : State) : Result :=
  ifPassed cond s fun s =>
    if sbo ≠ 15#4 ∨ sbz ≠ 0#4 then .refused .shouldBe
    else if rm = 15#4 then .refused .r15Operand
    else msrWrite r fieldMask (s.reg rm) s

/-- MSR from a rotated immediate (R210, R281). -/
def execMsrImm (cond : BitVec 4) (r : BitVec 1) (fieldMask sbo rot : BitVec 4) (imm8 : BitVec 8)
    (s : State) : Result :=
  ifPassed cond s fun s =>
    if sbo ≠ 15#4 then .refused .shouldBe
    else msrWrite r fieldMask (rotImm rot imm8 s.flagC).value s

end Sys2Proof.Machine
end

