-- ==== Sys2Proof/Machine/Thumb.lean ====
section
/-!
DEFINITION. The Thumb instructions (R450 to R515): each is one of the shared operations with the operands
its format names (R515), except for the value of R15, the step of the pc and the masking of values written
to it (R450).
-/

namespace Sys2Proof.Machine

/-- A flag-setting Thumb data operation with a destination (R451). -/
def thumbWrite (rd : BitVec 3) (r : FlagResult) (s : State) : Result :=
  finish ((s.setFlagsOf r).setReg (lowReg rd) r.value)

/-- A Thumb compare: flags only (R451). -/
def thumbCompare (r : FlagResult) (s : State) : Result := finish (s.setFlagsOf r)

/-- A register or an immediate as a shifter operand that keeps C (R451). -/
def State.plain (s : State) (v : Word) : Shifted := { value := v, carry := s.flagC }

/-- A Thumb data operation of `a` and `b` (R451, R515). -/
def State.thumbOutcome (s : State) (op : DpOp) (a : Word) (b : Shifted) : FlagResult :=
  dpResult op a b s.flagC s.flagV

/-- A format 4 operation on `x[Rd]` and `x[Rs]` with the result in Rd (R463 to R478). -/
def thumbAlu (op : DpOp) (rs rd : BitVec 3) (s : State) : Result :=
  thumbWrite rd (s.thumbOutcome op (s.reg (lowReg rd)) (s.plain (s.reg (lowReg rs)))) s

/-- A format 4 compare of `x[Rd]` and `x[Rs]` (R471, R473, R474). -/
def thumbAluCompare (op : DpOp) (rs rd : BitVec 3) (s : State) : Result :=
  thumbCompare (s.thumbOutcome op (s.reg (lowReg rd)) (s.plain (s.reg (lowReg rs)))) s

/-- A format 4 shift of `x[Rd]` by the low byte of `x[Rs]` (R465 to R467, R470). -/
def thumbShiftReg (ty : BitVec 2) (rs rd : BitVec 3) (s : State) : Result :=
  thumbWrite rd (s.thumbOutcome .mov 0#32
    (shiftByReg ty ((s.reg (lowReg rs)).extractLsb' 0 8) (s.reg (lowReg rd)) s.flagC)) s

/-- A format 1 shift of `x[Rs]` by an immediate (R452 to R454). -/
def thumbShiftImm (ty : BitVec 2) (imm5 : BitVec 5) (rs rd : BitVec 3) (s : State) : Result :=
  thumbWrite rd (s.thumbOutcome .mov 0#32 (shiftByImm ty imm5 (s.reg (lowReg rs)) s.flagC)) s

/-- LSL by an immediate (R452). -/
def execTLslImm (imm5 : BitVec 5) (rs rd : BitVec 3) (s : State) : Result := thumbShiftImm 0#2 imm5 rs rd s

/-- LSR by an immediate (R453). -/
def execTLsrImm (imm5 : BitVec 5) (rs rd : BitVec 3) (s : State) : Result := thumbShiftImm 1#2 imm5 rs rd s

/-- ASR by an immediate (R454). -/
def execTAsrImm (imm5 : BitVec 5) (rs rd : BitVec 3) (s : State) : Result := thumbShiftImm 2#2 imm5 rs rd s

/-- ADD of two registers (R455). -/
def execTAddReg (rn rs rd : BitVec 3) (s : State) : Result :=
  thumbWrite rd (s.thumbOutcome .add (s.reg (lowReg rs)) (s.plain (s.reg (lowReg rn)))) s

/-- SUB of two registers (R456). -/
def execTSubReg (rn rs rd : BitVec 3) (s : State) : Result :=
  thumbWrite rd (s.thumbOutcome .sub (s.reg (lowReg rs)) (s.plain (s.reg (lowReg rn)))) s

/-- ADD of a 3-bit immediate (R457). -/
def execTAddImm3 (imm3 rs rd : BitVec 3) (s : State) : Result :=
  thumbWrite rd (s.thumbOutcome .add (s.reg (lowReg rs)) (s.plain (imm3.zeroExtend 32))) s

/-- SUB of a 3-bit immediate (R458). -/
def execTSubImm3 (imm3 rs rd : BitVec 3) (s : State) : Result :=
  thumbWrite rd (s.thumbOutcome .sub (s.reg (lowReg rs)) (s.plain (imm3.zeroExtend 32))) s

/-- MOV of an immediate (R459). -/
def execTMovImm (rd : BitVec 3) (imm8 : BitVec 8) (s : State) : Result :=
  thumbWrite rd (s.thumbOutcome .mov 0#32 (s.plain (imm8.zeroExtend 32))) s

/-- CMP with an immediate (R460). -/
def execTCmpImm (rd : BitVec 3) (imm8 : BitVec 8) (s : State) : Result :=
  thumbCompare (s.thumbOutcome .cmp (s.reg (lowReg rd)) (s.plain (imm8.zeroExtend 32))) s

/-- ADD of an 8-bit immediate (R461). -/
def execTAddImm8 (rd : BitVec 3) (imm8 : BitVec 8) (s : State) : Result :=
  thumbWrite rd (s.thumbOutcome .add (s.reg (lowReg rd)) (s.plain (imm8.zeroExtend 32))) s

/-- SUB of an 8-bit immediate (R462). -/
def execTSubImm8 (rd : BitVec 3) (imm8 : BitVec 8) (s : State) : Result :=
  thumbWrite rd (s.thumbOutcome .sub (s.reg (lowReg rd)) (s.plain (imm8.zeroExtend 32))) s

/-- AND (R463). -/
def execTAnd (rs rd : BitVec 3) (s : State) : Result := thumbAlu .and rs rd s

/-- EOR (R464). -/
def execTEor (rs rd : BitVec 3) (s : State) : Result := thumbAlu .eor rs rd s

/-- LSL by a register (R465). -/
def execTLslReg (rs rd : BitVec 3) (s : State) : Result := thumbShiftReg 0#2 rs rd s

/-- LSR by a register (R466). -/
def execTLsrReg (rs rd : BitVec 3) (s : State) : Result := thumbShiftReg 1#2 rs rd s

/-- ASR by a register (R467). -/
def execTAsrReg (rs rd : BitVec 3) (s : State) : Result := thumbShiftReg 2#2 rs rd s

/-- ADC (R468). -/
def execTAdc (rs rd : BitVec 3) (s : State) : Result := thumbAlu .adc rs rd s

/-- SBC (R469). -/
def execTSbc (rs rd : BitVec 3) (s : State) : Result := thumbAlu .sbc rs rd s

/-- ROR by a register (R470). -/
def execTRorReg (rs rd : BitVec 3) (s : State) : Result := thumbShiftReg 3#2 rs rd s

/-- TST (R471). -/
def execTTst (rs rd : BitVec 3) (s : State) : Result := thumbAluCompare .tst rs rd s

/-- NEG: zero minus `x[Rs]` (R472). -/
def execTNeg (rs rd : BitVec 3) (s : State) : Result :=
  thumbWrite rd (s.thumbOutcome .rsb (s.reg (lowReg rs)) (s.plain 0#32)) s

/-- CMP of low registers (R473). -/
def execTCmpReg (rs rd : BitVec 3) (s : State) : Result := thumbAluCompare .cmp rs rd s

/-- CMN (R474). -/
def execTCmn (rs rd : BitVec 3) (s : State) : Result := thumbAluCompare .cmn rs rd s

/-- ORR (R475). -/
def execTOrr (rs rd : BitVec 3) (s : State) : Result := thumbAlu .orr rs rd s

/-- MUL (R476): C is a free bit; Rd equal to Rs is UNPREDICTABLE. -/
def execTMul (rs rd : BitVec 3) (s : State) : Result :=
  if rd = rs then .refused .registerClash
  else
    let r := s.reg (lowReg rd) * s.reg (lowReg rs)
    finish ((s.multiplyFlags r).setReg (lowReg rd) r)

/-- BIC (R477). -/
def execTBic (rs rd : BitVec 3) (s : State) : Result := thumbAlu .bic rs rd s

/-- MVN (R478). -/
def execTMvn (rs rd : BitVec 3) (s : State) : Result := thumbAlu .mvn rs rd s

/-! Format 5. -/

/-- The destination of a format 5 operation: R15 takes the value with bit 0 dropped (R479, R481). -/
def highWrite (d : BitVec 4) (v : Word) (s : State) : Result :=
  if d = 15#4 then .next { s with pc := v &&& 0xFFFFFFFE#32 } else finish (s.setReg d v)

/-- ADD with a high register (R479). -/
def highAdd (d r : BitVec 4) (s : State) : Result :=
  if d = 15#4 ∧ r = 15#4 then .refused .thumbHigh else highWrite d (s.reg d + s.reg r) s

/-- CMP with a high register (R480). -/
def highCompare (d r : BitVec 4) (s : State) : Result :=
  if d = 15#4 then .refused .thumbHigh
  else thumbCompare (s.thumbOutcome .cmp (s.reg d) (s.plain (s.reg r))) s

/-- ADD, H1 = 1 (R479). -/
def execTAddHi (h2 : BitVec 1) (rs rd : BitVec 3) (s : State) : Result :=
  highAdd (highReg 1#1 rd) (highReg h2 rs) s

/-- ADD, H1 = 0 and H2 = 1 (R479). -/
def execTAddLoHi (rs rd : BitVec 3) (s : State) : Result := highAdd (highReg 0#1 rd) (highReg 1#1 rs) s

/-- ADD with H1 = H2 = 0: UNPREDICTABLE (R236). -/
def execTAddLow (_rs _rd : BitVec 3) (_s : State) : Result := .refused .thumbHigh

/-- CMP, H1 = 1 (R480). -/
def execTCmpHi (h2 : BitVec 1) (rs rd : BitVec 3) (s : State) : Result :=
  highCompare (highReg 1#1 rd) (highReg h2 rs) s

/-- CMP, H1 = 0 and H2 = 1 (R480). -/
def execTCmpLoHi (rs rd : BitVec 3) (s : State) : Result := highCompare (highReg 0#1 rd) (highReg 1#1 rs) s

/-- CMP with H1 = H2 = 0: UNPREDICTABLE (R236). -/
def execTCmpLow (_rs _rd : BitVec 3) (_s : State) : Result := .refused .thumbHigh

/-- MOV, H1 = 1 (R481). -/
def execTMovHi (h2 : BitVec 1) (rs rd : BitVec 3) (s : State) : Result :=
  highWrite (highReg 1#1 rd) (s.reg (highReg h2 rs)) s

/-- MOV, H1 = 0 and H2 = 1 (R481). -/
def execTMovLoHi (rs rd : BitVec 3) (s : State) : Result :=
  highWrite (highReg 0#1 rd) (s.reg (highReg 1#1 rs)) s

/-- MOV with H1 = H2 = 0: UNPREDICTABLE (R236). -/
def execTMovLow (_rs _rd : BitVec 3) (_s : State) : Result := .refused .thumbHigh

/-- BX (R482); bits 2:0 should be zero (R236). -/
def execTBx (h2 : BitVec 1) (rs sbz : BitVec 3) (s : State) : Result :=
  if sbz ≠ 0#3 then .refused .thumbHigh else exchangeTo (s.reg (highReg h2 rs)) s

/-- BX with H1 = 1: UNPREDICTABLE (R236). -/
def execTBxHigh (_h2 : BitVec 1) (_rs _sbz : BitVec 3) (_s : State) : Result := .refused .thumbHigh

/-! Loads and stores. -/

/-- A Thumb load from `a` into a low register: no writeback (R487 to R503). -/
def thumbLoad (k : LoadKind) (rd : BitVec 3) (a : Word) (s : State) : Result :=
  loadInto k s.privileged 0#4 (lowReg rd) { address := a, writeback := none } s

/-- A Thumb store of a low register to `a`: no writeback (R488 to R502). -/
def thumbStore (sz : Size) (rd : BitVec 3) (a : Word) (s : State) : Result :=
  storeFrom sz s.privileged 0#4 (lowReg rd) { address := a, writeback := none } s

/-- The address of formats 7 and 8 (R488, R492). -/
def State.regAddr (s : State) (ro rb : BitVec 3) : Word := s.reg (lowReg rb) + s.reg (lowReg ro)

/-- The address of formats 9 and 10: a base and an immediate in units of `scale` bytes (R222). -/
def State.immAddr (s : State) (rb : BitVec 3) (imm5 : BitVec 5) (scale : Word) : Word :=
  s.reg (lowReg rb) + imm5.zeroExtend 32 * scale

/-- The address of format 11 (R222). -/
def State.spAddr (s : State) (imm8 : BitVec 8) : Word := s.reg 13#4 + imm8.zeroExtend 32 * 4#32

/-- LDR from a PC-relative address (R487). -/
def execTLdrPc (rd : BitVec 3) (imm8 : BitVec 8) (s : State) : Result :=
  thumbLoad .word rd (s.pcWord + imm8.zeroExtend 32 * 4#32) s

/-- STR, register offset (R488). -/
def execTStrReg (ro rb rd : BitVec 3) (s : State) : Result := thumbStore .word rd (s.regAddr ro rb) s

/-- STRB, register offset (R489). -/
def execTStrbReg (ro rb rd : BitVec 3) (s : State) : Result := thumbStore .byte rd (s.regAddr ro rb) s

/-- LDR, register offset (R490). -/
def execTLdrReg (ro rb rd : BitVec 3) (s : State) : Result := thumbLoad .word rd (s.regAddr ro rb) s

/-- LDRB, register offset (R491). -/
def execTLdrbReg (ro rb rd : BitVec 3) (s : State) : Result := thumbLoad .byte rd (s.regAddr ro rb) s

/-- STRH, register offset (R492). -/
def execTStrhReg (ro rb rd : BitVec 3) (s : State) : Result := thumbStore .half rd (s.regAddr ro rb) s

/-- LDRH, register offset (R493). -/
def execTLdrhReg (ro rb rd : BitVec 3) (s : State) : Result := thumbLoad .half rd (s.regAddr ro rb) s

/-- LDSB (R494). -/
def execTLdsbReg (ro rb rd : BitVec 3) (s : State) : Result := thumbLoad .signedByte rd (s.regAddr ro rb) s

/-- LDSH (R495). -/
def execTLdshReg (ro rb rd : BitVec 3) (s : State) : Result := thumbLoad .signedHalf rd (s.regAddr ro rb) s

/-- STR, immediate offset (R496). -/
def execTStrImm (imm5 : BitVec 5) (rb rd : BitVec 3) (s : State) : Result :=
  thumbStore .word rd (s.immAddr rb imm5 4#32) s

/-- LDR, immediate offset (R497). -/
def execTLdrImm (imm5 : BitVec 5) (rb rd : BitVec 3) (s : State) : Result :=
  thumbLoad .word rd (s.immAddr rb imm5 4#32) s

/-- STRB, immediate offset (R498). -/
def execTStrbImm (imm5 : BitVec 5) (rb rd : BitVec 3) (s : State) : Result :=
  thumbStore .byte rd (s.immAddr rb imm5 1#32) s

/-- LDRB, immediate offset (R499). -/
def execTLdrbImm (imm5 : BitVec 5) (rb rd : BitVec 3) (s : State) : Result :=
  thumbLoad .byte rd (s.immAddr rb imm5 1#32) s

/-- STRH, immediate offset (R500). -/
def execTStrhImm (imm5 : BitVec 5) (rb rd : BitVec 3) (s : State) : Result :=
  thumbStore .half rd (s.immAddr rb imm5 2#32) s

/-- LDRH, immediate offset (R501). -/
def execTLdrhImm (imm5 : BitVec 5) (rb rd : BitVec 3) (s : State) : Result :=
  thumbLoad .half rd (s.immAddr rb imm5 2#32) s

/-- STR, SP-relative (R502). -/
def execTStrSp (rd : BitVec 3) (imm8 : BitVec 8) (s : State) : Result := thumbStore .word rd (s.spAddr imm8) s

/-- LDR, SP-relative (R503). -/
def execTLdrSp (rd : BitVec 3) (imm8 : BitVec 8) (s : State) : Result := thumbLoad .word rd (s.spAddr imm8) s

/-! Addresses and the stack pointer. -/

/-- ADD Rd, PC, #imm (R483). -/
def execTAddPc (rd : BitVec 3) (imm8 : BitVec 8) (s : State) : Result :=
  finish (s.setReg (lowReg rd) (s.pcWord + imm8.zeroExtend 32 * 4#32))

/-- ADD Rd, SP, #imm (R484). -/
def execTAddSp (rd : BitVec 3) (imm8 : BitVec 8) (s : State) : Result :=
  finish (s.setReg (lowReg rd) (s.reg 13#4 + imm8.zeroExtend 32 * 4#32))

/-- ADD SP, #imm (R485). -/
def execTAddSpImm (imm7 : BitVec 7) (s : State) : Result :=
  finish (s.setReg 13#4 (s.reg 13#4 + imm7.zeroExtend 32 * 4#32))

/-- SUB SP, #imm (R486). -/
def execTSubSpImm (imm7 : BitVec 7) (s : State) : Result :=
  finish (s.setReg 13#4 (s.reg 13#4 - imm7.zeroExtend 32 * 4#32))

/-! Block transfers. -/

/-- The list of PUSH: the low registers, and R14 if R = 1 (R504). -/
def pushList (r : BitVec 1) (rlist : BitVec 8) : BitVec 16 := 0#1 ++ r ++ 0#6 ++ rlist

/-- The list of POP: the low registers, and R15 if R = 1 (R505). -/
def popList (r : BitVec 1) (rlist : BitVec 8) : BitVec 16 := r ++ 0#7 ++ rlist

/-- The list of STMIA and LDMIA (R506, R507). -/
def lowList (rlist : BitVec 8) : BitVec 16 := 0#8 ++ rlist

/-- PUSH (R504). -/
def execTPush (r : BitVec 1) (rlist : BitVec 8) (s : State) : Result :=
  unlessRefused (blockRefusal 13#4 (pushList r rlist)) <|
  afterAccess (storeMany ((regsOf (pushList r rlist)).map s.reg) (s.reg 13#4 - listBytes (pushList r rlist)) false s)
    fun _ s' => finish (s'.setReg 13#4 (s.reg 13#4 - listBytes (pushList r rlist)))

/-- The PC after POP: bit 0 of the loaded value is ignored, T never changes (R505). -/
def poppedPc (h : Held) (s : State) : Result :=
  match h.pc with
  | some v => .next { s with pc := v &&& 0xFFFFFFFE#32 }
  | none => finish s

/-- POP (R505). -/
def execTPop (r : BitVec 1) (rlist : BitVec 8) (s : State) : Result :=
  unlessRefused (blockRefusal 13#4 (popList r rlist)) <|
  afterAccess (loadMany s.mode (· == 13#4) (regsOf (popList r rlist)) (s.reg 13#4) { pc := none, base := none } s)
    fun h s' => poppedPc h (s'.setReg 13#4 (s.reg 13#4 + listBytes (popList r rlist)))

/-- STMIA (R506): a base in the list that is not its lowest register is UNPREDICTABLE (U21; log 13). -/
def execTStmia (rb : BitVec 3) (rlist : BitVec 8) (s : State) : Result :=
  unlessRefused (blockRefusal (lowReg rb) (lowList rlist)) <|
  unlessRefused (storedBaseRefusal 1#1 (lowReg rb) (lowList rlist)) <|
  afterAccess (storeMany (s.stmWords (lowList rlist)) (s.reg (lowReg rb)) false s) fun _ s' =>
    finish (s'.setReg (lowReg rb) (s.reg (lowReg rb) + listBytes (lowList rlist)))

/-- LDMIA (R507): a base in the list ends with the loaded value. -/
def execTLdmia (rb : BitVec 3) (rlist : BitVec 8) (s : State) : Result :=
  unlessRefused (blockRefusal (lowReg rb) (lowList rlist)) <|
  afterAccess (loadMany s.mode (· == lowReg rb) (regsOf (lowList rlist)) (s.reg (lowReg rb))
      { pc := none, base := none } s)
    fun h s' =>
      finish (s'.setReg (lowReg rb) (h.base.getD (s.reg (lowReg rb) + listBytes (lowList rlist))))

/-! Branches, SWI and the undefined halfwords. -/

/-- The target of a Thumb branch: 4 ahead, plus the signed immediate in halfwords (R222). -/
def State.thumbTarget (s : State) (offset : Int) : Int := s.pc.toNat + 4 + 2 * offset

/-- A conditional branch (R508). -/
def thumbCondBranch (cond : BitVec 4) (soffset8 : BitVec 8) (s : State) : Result :=
  if s.condPassed cond then branchTo (s.thumbTarget soffset8.toInt) s else finish s

/-- BEQ (R508). -/
def execTBeq (soffset8 : BitVec 8) (s : State) : Result := thumbCondBranch 0#4 soffset8 s

/-- BNE (R508). -/
def execTBne (soffset8 : BitVec 8) (s : State) : Result := thumbCondBranch 1#4 soffset8 s

/-- BCS (R508). -/
def execTBcs (soffset8 : BitVec 8) (s : State) : Result := thumbCondBranch 2#4 soffset8 s

/-- BCC (R508). -/
def execTBcc (soffset8 : BitVec 8) (s : State) : Result := thumbCondBranch 3#4 soffset8 s

/-- BMI (R508). -/
def execTBmi (soffset8 : BitVec 8) (s : State) : Result := thumbCondBranch 4#4 soffset8 s

/-- BPL (R508). -/
def execTBpl (soffset8 : BitVec 8) (s : State) : Result := thumbCondBranch 5#4 soffset8 s

/-- BVS (R508). -/
def execTBvs (soffset8 : BitVec 8) (s : State) : Result := thumbCondBranch 6#4 soffset8 s

/-- BVC (R508). -/
def execTBvc (soffset8 : BitVec 8) (s : State) : Result := thumbCondBranch 7#4 soffset8 s

/-- BHI (R508). -/
def execTBhi (soffset8 : BitVec 8) (s : State) : Result := thumbCondBranch 8#4 soffset8 s

/-- BLS (R508). -/
def execTBls (soffset8 : BitVec 8) (s : State) : Result := thumbCondBranch 9#4 soffset8 s

/-- BGE (R508). -/
def execTBge (soffset8 : BitVec 8) (s : State) : Result := thumbCondBranch 10#4 soffset8 s

/-- BLT (R508). -/
def execTBlt (soffset8 : BitVec 8) (s : State) : Result := thumbCondBranch 11#4 soffset8 s

/-- BGT (R508). -/
def execTBgt (soffset8 : BitVec 8) (s : State) : Result := thumbCondBranch 12#4 soffset8 s

/-- BLE (R508). -/
def execTBle (soffset8 : BitVec 8) (s : State) : Result := thumbCondBranch 13#4 soffset8 s

/-- SWI (R509). -/
def execTSwi (_imm8 : BitVec 8) (s : State) : Result := raise .swi s

/-- B (R510). -/
def execTB (offset11 : BitVec 11) (s : State) : Result := branchTo (s.thumbTarget offset11.toInt) s

/-- BL, first half (R511). -/
def execTBlFirst (offset11 : BitVec 11) (s : State) : Result :=
  finish (s.setReg 14#4 (s.pc + 4#32 + (offset11.signExtend 32 <<< 12)))

/-- BL, second half (R512). -/
def execTBlSecond (offset11 : BitVec 11) (s : State) : Result :=
  let t := s.reg 14#4 + (offset11.zeroExtend 32 <<< 1)
  .next { s.setReg 14#4 ((s.pc + 2#32) ||| 1#32) with pc := t &&& 0xFFFFFFFE#32 }

/-- Undefined (R513): `1011 0001`, R236 (c). -/
def execTUndB1 (_rest : BitVec 8) (s : State) : Result := raise .undefined s

/-- Undefined (R513): `1011 001x`, R236 (c). -/
def execTUndB2 (_rest : BitVec 9) (s : State) : Result := raise .undefined s

/-- Undefined (R513): `1011 011x`, R236 (c). -/
def execTUndB6 (_rest : BitVec 9) (s : State) : Result := raise .undefined s

/-- Undefined (R513): `1011 10xx`, R236 (c). -/
def execTUndB8 (_rest : BitVec 10) (s : State) : Result := raise .undefined s

/-- Undefined (R513): `1011 111x`, R236 (c). -/
def execTUndBE (_rest : BitVec 9) (s : State) : Result := raise .undefined s

/-- Undefined (R513): `1101 1110`, R236 (a). -/
def execTUndCond (_rest : BitVec 8) (s : State) : Result := raise .undefined s

/-- Undefined (R513): `11101`, R236 (b). -/
def execTUndE8 (_rest : BitVec 11) (s : State) : Result := raise .undefined s

end Sys2Proof.Machine
end

