-- ==== Sys2Proof/Machine/Dispatch.lean ====
section
/-!
DEFINITION. The dispatch of instructions to their meanings: one arm per constructor of Instr, each one direct
call.
-/

namespace Sys2Proof.Machine

/-- The meaning of an instruction in a state (R200, R202). -/
def exec (i : Instr) (s : State) : Host.Outcome State Fault Refusal :=
  match i with
  | .condNever rest => Sys2Proof.Machine.execCondNever rest s
  | .and cond setFlags rn rd op2 => Sys2Proof.Machine.execAnd cond setFlags rn rd op2 s
  | .eor cond setFlags rn rd op2 => Sys2Proof.Machine.execEor cond setFlags rn rd op2 s
  | .sub cond setFlags rn rd op2 => Sys2Proof.Machine.execSub cond setFlags rn rd op2 s
  | .rsb cond setFlags rn rd op2 => Sys2Proof.Machine.execRsb cond setFlags rn rd op2 s
  | .add cond setFlags rn rd op2 => Sys2Proof.Machine.execAdd cond setFlags rn rd op2 s
  | .adc cond setFlags rn rd op2 => Sys2Proof.Machine.execAdc cond setFlags rn rd op2 s
  | .sbc cond setFlags rn rd op2 => Sys2Proof.Machine.execSbc cond setFlags rn rd op2 s
  | .rsc cond setFlags rn rd op2 => Sys2Proof.Machine.execRsc cond setFlags rn rd op2 s
  | .tst cond rn rd op2 => Sys2Proof.Machine.execTst cond rn rd op2 s
  | .teq cond rn rd op2 => Sys2Proof.Machine.execTeq cond rn rd op2 s
  | .cmp cond rn rd op2 => Sys2Proof.Machine.execCmp cond rn rd op2 s
  | .cmn cond rn rd op2 => Sys2Proof.Machine.execCmn cond rn rd op2 s
  | .orr cond setFlags rn rd op2 => Sys2Proof.Machine.execOrr cond setFlags rn rd op2 s
  | .mov cond setFlags rn rd op2 => Sys2Proof.Machine.execMov cond setFlags rn rd op2 s
  | .bic cond setFlags rn rd op2 => Sys2Proof.Machine.execBic cond setFlags rn rd op2 s
  | .mvn cond setFlags rn rd op2 => Sys2Proof.Machine.execMvn cond setFlags rn rd op2 s
  | .mrs cond r sbo rd sbzHi sbzLo => Sys2Proof.Machine.execMrs cond r sbo rd sbzHi sbzLo s
  | .msrReg cond r fieldMask sbo sbz rm => Sys2Proof.Machine.execMsrReg cond r fieldMask sbo sbz rm s
  | .msrImm cond r fieldMask sbo rot imm8 => Sys2Proof.Machine.execMsrImm cond r fieldMask sbo rot imm8 s
  | .bx cond sboA sboB sboC rm => Sys2Proof.Machine.execBx cond sboA sboB sboC rm s
  | .undControlImm cond x22 rest => Sys2Proof.Machine.execUndControlImm cond x22 rest s
  | .undControlOne cond x22 rest low => Sys2Proof.Machine.execUndControlOne cond x22 rest low s
  | .undControlOneR cond rest low => Sys2Proof.Machine.execUndControlOneR cond rest low s
  | .undControlHigh cond x22to21 rest x5 x4 low => Sys2Proof.Machine.execUndControlHigh cond x22to21 rest x5 x4 low s
  | .undControlLow cond x22to21 rest x4 low => Sys2Proof.Machine.execUndControlLow cond x22to21 rest x4 low s
  | .undControlEven cond x22to21 rest x6to5 low => Sys2Proof.Machine.execUndControlEven cond x22to21 rest x6to5 low s
  | .mul cond setFlags rd sbz rs rm => Sys2Proof.Machine.execMul cond setFlags rd sbz rs rm s
  | .mla cond setFlags rd rn rs rm => Sys2Proof.Machine.execMla cond setFlags rd rn rs rm s
  | .umull cond setFlags rdHi rdLo rs rm => Sys2Proof.Machine.execUmull cond setFlags rdHi rdLo rs rm s
  | .umlal cond setFlags rdHi rdLo rs rm => Sys2Proof.Machine.execUmlal cond setFlags rdHi rdLo rs rm s
  | .smull cond setFlags rdHi rdLo rs rm => Sys2Proof.Machine.execSmull cond setFlags rdHi rdLo rs rm s
  | .smlal cond setFlags rdHi rdLo rs rm => Sys2Proof.Machine.execSmlal cond setFlags rdHi rdLo rs rm s
  | .undMultiply cond x21to20 rest low => Sys2Proof.Machine.execUndMultiply cond x21to20 rest low s
  | .swp cond rn rd sbz rm => Sys2Proof.Machine.execSwp cond rn rd sbz rm s
  | .swpb cond rn rd sbz rm => Sys2Proof.Machine.execSwpb cond rn rd sbz rm s
  | .undSwapHigh cond x22to20 rest low => Sys2Proof.Machine.execUndSwapHigh cond x22to20 rest low s
  | .undSwapOdd cond x22to21 rest low => Sys2Proof.Machine.execUndSwapOdd cond x22to21 rest low s
  | .undSwapEven cond x22 rest low => Sys2Proof.Machine.execUndSwapEven cond x22 rest low s
  | .strh cond p u w rn rd off => Sys2Proof.Machine.execStrh cond p u w rn rd off s
  | .ldrh cond p u w rn rd off => Sys2Proof.Machine.execLdrh cond p u w rn rd off s
  | .ldrsb cond p u w rn rd off => Sys2Proof.Machine.execLdrsb cond p u w rn rd off s
  | .ldrsh cond p u w rn rd off => Sys2Proof.Machine.execLdrsh cond p u w rn rd off s
  | .undSignedStore cond x24to21 rest x5 low => Sys2Proof.Machine.execUndSignedStore cond x24to21 rest x5 low s
  | .ldr cond u w rn rd off => Sys2Proof.Machine.execLdr cond u w rn rd off s
  | .ldrPost cond u rn rd off => Sys2Proof.Machine.execLdrPost cond u rn rd off s
  | .ldrt cond u rn rd off => Sys2Proof.Machine.execLdrt cond u rn rd off s
  | .str cond u w rn rd off => Sys2Proof.Machine.execStr cond u w rn rd off s
  | .strPost cond u rn rd off => Sys2Proof.Machine.execStrPost cond u rn rd off s
  | .strt cond u rn rd off => Sys2Proof.Machine.execStrt cond u rn rd off s
  | .ldrb cond u w rn rd off => Sys2Proof.Machine.execLdrb cond u w rn rd off s
  | .ldrbPost cond u rn rd off => Sys2Proof.Machine.execLdrbPost cond u rn rd off s
  | .ldrbt cond u rn rd off => Sys2Proof.Machine.execLdrbt cond u rn rd off s
  | .strb cond u w rn rd off => Sys2Proof.Machine.execStrb cond u w rn rd off s
  | .strbPost cond u rn rd off => Sys2Proof.Machine.execStrbPost cond u rn rd off s
  | .strbt cond u rn rd off => Sys2Proof.Machine.execStrbt cond u rn rd off s
  | .undSpace cond rest low => Sys2Proof.Machine.execUndSpace cond rest low s
  | .ldm cond p u w rn regList => Sys2Proof.Machine.execLdm cond p u w rn regList s
  | .ldmUser cond p u w rn regList => Sys2Proof.Machine.execLdmUser cond p u w rn regList s
  | .ldmRestore cond p u w rn regList => Sys2Proof.Machine.execLdmRestore cond p u w rn regList s
  | .stm cond p u w rn regList => Sys2Proof.Machine.execStm cond p u w rn regList s
  | .stmUser cond p u w rn regList => Sys2Proof.Machine.execStmUser cond p u w rn regList s
  | .b cond imm24 => Sys2Proof.Machine.execB cond imm24 s
  | .bl cond imm24 => Sys2Proof.Machine.execBl cond imm24 s
  | .ldcPre cond u n w rn crd cpNum imm8 => Sys2Proof.Machine.execLdcPre cond u n w rn crd cpNum imm8 s
  | .ldcUp cond n w rn crd cpNum imm8 => Sys2Proof.Machine.execLdcUp cond n w rn crd cpNum imm8 s
  | .ldcDown cond n rn crd cpNum imm8 => Sys2Proof.Machine.execLdcDown cond n rn crd cpNum imm8 s
  | .stcPre cond u n w rn crd cpNum imm8 => Sys2Proof.Machine.execStcPre cond u n w rn crd cpNum imm8 s
  | .stcUp cond n w rn crd cpNum imm8 => Sys2Proof.Machine.execStcUp cond n w rn crd cpNum imm8 s
  | .stcDown cond n rn crd cpNum imm8 => Sys2Proof.Machine.execStcDown cond n rn crd cpNum imm8 s
  | .undCoproc cond n l rest => Sys2Proof.Machine.execUndCoproc cond n l rest s
  | .cdp cond opcode1 crn crd cpNum opcode2 crm => Sys2Proof.Machine.execCdp cond opcode1 crn crd cpNum opcode2 crm s
  | .mcr cond opcode1 crn rd cpNum opcode2 crm => Sys2Proof.Machine.execMcr cond opcode1 crn rd cpNum opcode2 crm s
  | .mrc cond opcode1 crn rd cpNum opcode2 crm => Sys2Proof.Machine.execMrc cond opcode1 crn rd cpNum opcode2 crm s
  | .swi cond imm24 => Sys2Proof.Machine.execSwi cond imm24 s
  | .mrcP15c0c0o0 cond rd => Sys2Proof.Machine.execMrcP15c0c0o0 cond rd s
  | .mrcP15c0c0o2 cond rd => Sys2Proof.Machine.execMrcP15c0c0o2 cond rd s
  | .mrcP15c0c0o3 cond rd => Sys2Proof.Machine.execMrcP15c0c0o3 cond rd s
  | .mrcP15c0c0o4 cond rd => Sys2Proof.Machine.execMrcP15c0c0o4 cond rd s
  | .mrcP15c0c0o5 cond rd => Sys2Proof.Machine.execMrcP15c0c0o5 cond rd s
  | .mrcP15c0c0o6 cond rd => Sys2Proof.Machine.execMrcP15c0c0o6 cond rd s
  | .mrcP15c0c0o7 cond rd => Sys2Proof.Machine.execMrcP15c0c0o7 cond rd s
  | .mrcP15c0c0o1 cond rd => Sys2Proof.Machine.execMrcP15c0c0o1 cond rd s
  | .mrcP15c1c0o0 cond rd => Sys2Proof.Machine.execMrcP15c1c0o0 cond rd s
  | .mrcP15c2c0o0 cond rd => Sys2Proof.Machine.execMrcP15c2c0o0 cond rd s
  | .mrcP15c2c0o1 cond rd => Sys2Proof.Machine.execMrcP15c2c0o1 cond rd s
  | .mrcP15c3c0o0 cond rd => Sys2Proof.Machine.execMrcP15c3c0o0 cond rd s
  | .mrcP15c5c0o0 cond rd => Sys2Proof.Machine.execMrcP15c5c0o0 cond rd s
  | .mrcP15c5c0o1 cond rd => Sys2Proof.Machine.execMrcP15c5c0o1 cond rd s
  | .mrcP15c6c0o0 cond rd => Sys2Proof.Machine.execMrcP15c6c0o0 cond rd s
  | .mrcP15c6c0o1 cond rd => Sys2Proof.Machine.execMrcP15c6c0o1 cond rd s
  | .mrcP15c6c1o0 cond rd => Sys2Proof.Machine.execMrcP15c6c1o0 cond rd s
  | .mrcP15c6c1o1 cond rd => Sys2Proof.Machine.execMrcP15c6c1o1 cond rd s
  | .mrcP15c6c2o0 cond rd => Sys2Proof.Machine.execMrcP15c6c2o0 cond rd s
  | .mrcP15c6c2o1 cond rd => Sys2Proof.Machine.execMrcP15c6c2o1 cond rd s
  | .mrcP15c6c3o0 cond rd => Sys2Proof.Machine.execMrcP15c6c3o0 cond rd s
  | .mrcP15c6c3o1 cond rd => Sys2Proof.Machine.execMrcP15c6c3o1 cond rd s
  | .mrcP15c6c4o0 cond rd => Sys2Proof.Machine.execMrcP15c6c4o0 cond rd s
  | .mrcP15c6c4o1 cond rd => Sys2Proof.Machine.execMrcP15c6c4o1 cond rd s
  | .mrcP15c6c5o0 cond rd => Sys2Proof.Machine.execMrcP15c6c5o0 cond rd s
  | .mrcP15c6c5o1 cond rd => Sys2Proof.Machine.execMrcP15c6c5o1 cond rd s
  | .mrcP15c6c6o0 cond rd => Sys2Proof.Machine.execMrcP15c6c6o0 cond rd s
  | .mrcP15c6c6o1 cond rd => Sys2Proof.Machine.execMrcP15c6c6o1 cond rd s
  | .mrcP15c6c7o0 cond rd => Sys2Proof.Machine.execMrcP15c6c7o0 cond rd s
  | .mrcP15c6c7o1 cond rd => Sys2Proof.Machine.execMrcP15c6c7o1 cond rd s
  | .mrcP15c9c0o0 cond rd => Sys2Proof.Machine.execMrcP15c9c0o0 cond rd s
  | .mrcP15c9c0o1 cond rd => Sys2Proof.Machine.execMrcP15c9c0o1 cond rd s
  | .mrcP15c15c0o0 cond rd => Sys2Proof.Machine.execMrcP15c15c0o0 cond rd s
  | .mcrP15c1c0o0 cond rd => Sys2Proof.Machine.execMcrP15c1c0o0 cond rd s
  | .mcrP15c2c0o0 cond rd => Sys2Proof.Machine.execMcrP15c2c0o0 cond rd s
  | .mcrP15c2c0o1 cond rd => Sys2Proof.Machine.execMcrP15c2c0o1 cond rd s
  | .mcrP15c3c0o0 cond rd => Sys2Proof.Machine.execMcrP15c3c0o0 cond rd s
  | .mcrP15c5c0o0 cond rd => Sys2Proof.Machine.execMcrP15c5c0o0 cond rd s
  | .mcrP15c5c0o1 cond rd => Sys2Proof.Machine.execMcrP15c5c0o1 cond rd s
  | .mcrP15c6c0o0 cond rd => Sys2Proof.Machine.execMcrP15c6c0o0 cond rd s
  | .mcrP15c6c0o1 cond rd => Sys2Proof.Machine.execMcrP15c6c0o1 cond rd s
  | .mcrP15c6c1o0 cond rd => Sys2Proof.Machine.execMcrP15c6c1o0 cond rd s
  | .mcrP15c6c1o1 cond rd => Sys2Proof.Machine.execMcrP15c6c1o1 cond rd s
  | .mcrP15c6c2o0 cond rd => Sys2Proof.Machine.execMcrP15c6c2o0 cond rd s
  | .mcrP15c6c2o1 cond rd => Sys2Proof.Machine.execMcrP15c6c2o1 cond rd s
  | .mcrP15c6c3o0 cond rd => Sys2Proof.Machine.execMcrP15c6c3o0 cond rd s
  | .mcrP15c6c3o1 cond rd => Sys2Proof.Machine.execMcrP15c6c3o1 cond rd s
  | .mcrP15c6c4o0 cond rd => Sys2Proof.Machine.execMcrP15c6c4o0 cond rd s
  | .mcrP15c6c4o1 cond rd => Sys2Proof.Machine.execMcrP15c6c4o1 cond rd s
  | .mcrP15c6c5o0 cond rd => Sys2Proof.Machine.execMcrP15c6c5o0 cond rd s
  | .mcrP15c6c5o1 cond rd => Sys2Proof.Machine.execMcrP15c6c5o1 cond rd s
  | .mcrP15c6c6o0 cond rd => Sys2Proof.Machine.execMcrP15c6c6o0 cond rd s
  | .mcrP15c6c6o1 cond rd => Sys2Proof.Machine.execMcrP15c6c6o1 cond rd s
  | .mcrP15c6c7o0 cond rd => Sys2Proof.Machine.execMcrP15c6c7o0 cond rd s
  | .mcrP15c6c7o1 cond rd => Sys2Proof.Machine.execMcrP15c6c7o1 cond rd s
  | .mcrP15c9c0o0 cond rd => Sys2Proof.Machine.execMcrP15c9c0o0 cond rd s
  | .mcrP15c9c0o1 cond rd => Sys2Proof.Machine.execMcrP15c9c0o1 cond rd s
  | .mcrP15c15c0o0 cond rd => Sys2Proof.Machine.execMcrP15c15c0o0 cond rd s
  | .mcrP15c7c5o0 cond rd => Sys2Proof.Machine.execMcrP15c7c5o0 cond rd s
  | .mcrP15c7c5o2 cond rd => Sys2Proof.Machine.execMcrP15c7c5o2 cond rd s
  | .mcrP15c7c6o0 cond rd => Sys2Proof.Machine.execMcrP15c7c6o0 cond rd s
  | .mcrP15c7c6o2 cond rd => Sys2Proof.Machine.execMcrP15c7c6o2 cond rd s
  | .mcrP15c7c10o2 cond rd => Sys2Proof.Machine.execMcrP15c7c10o2 cond rd s
  | .mcrP15c7c13o1 cond rd => Sys2Proof.Machine.execMcrP15c7c13o1 cond rd s
  | .mcrP15c7c14o2 cond rd => Sys2Proof.Machine.execMcrP15c7c14o2 cond rd s
  | .mcrP15c7c0o4 cond rd => Sys2Proof.Machine.execMcrP15c7c0o4 cond rd s
  | .mcrP15c15c8o2 cond rd => Sys2Proof.Machine.execMcrP15c15c8o2 cond rd s
  | .mcrP15c7c10o4 cond rd => Sys2Proof.Machine.execMcrP15c7c10o4 cond rd s
  | .mcrP15c7c8o2 cond rd => Sys2Proof.Machine.execMcrP15c7c8o2 cond rd s
  | .mcrP15c7c5o1 cond rd => Sys2Proof.Machine.execMcrP15c7c5o1 cond rd s
  | .mrcP14c0c0o0 cond rd => Sys2Proof.Machine.execMrcP14c0c0o0 cond rd s
  | .mcrP14c1c0o0 cond rd => Sys2Proof.Machine.execMcrP14c1c0o0 cond rd s
  | .mrcP14c1c0o0 cond rd => Sys2Proof.Machine.execMrcP14c1c0o0 cond rd s
  | .tLslImm imm5 rs rd => Sys2Proof.Machine.execTLslImm imm5 rs rd s
  | .tLsrImm imm5 rs rd => Sys2Proof.Machine.execTLsrImm imm5 rs rd s
  | .tAsrImm imm5 rs rd => Sys2Proof.Machine.execTAsrImm imm5 rs rd s
  | .tAddReg rn rs rd => Sys2Proof.Machine.execTAddReg rn rs rd s
  | .tSubReg rn rs rd => Sys2Proof.Machine.execTSubReg rn rs rd s
  | .tAddImm3 imm3 rs rd => Sys2Proof.Machine.execTAddImm3 imm3 rs rd s
  | .tSubImm3 imm3 rs rd => Sys2Proof.Machine.execTSubImm3 imm3 rs rd s
  | .tMovImm rd imm8 => Sys2Proof.Machine.execTMovImm rd imm8 s
  | .tCmpImm rd imm8 => Sys2Proof.Machine.execTCmpImm rd imm8 s
  | .tAddImm8 rd imm8 => Sys2Proof.Machine.execTAddImm8 rd imm8 s
  | .tSubImm8 rd imm8 => Sys2Proof.Machine.execTSubImm8 rd imm8 s
  | .tAnd rs rd => Sys2Proof.Machine.execTAnd rs rd s
  | .tEor rs rd => Sys2Proof.Machine.execTEor rs rd s
  | .tLslReg rs rd => Sys2Proof.Machine.execTLslReg rs rd s
  | .tLsrReg rs rd => Sys2Proof.Machine.execTLsrReg rs rd s
  | .tAsrReg rs rd => Sys2Proof.Machine.execTAsrReg rs rd s
  | .tAdc rs rd => Sys2Proof.Machine.execTAdc rs rd s
  | .tSbc rs rd => Sys2Proof.Machine.execTSbc rs rd s
  | .tRorReg rs rd => Sys2Proof.Machine.execTRorReg rs rd s
  | .tTst rs rd => Sys2Proof.Machine.execTTst rs rd s
  | .tNeg rs rd => Sys2Proof.Machine.execTNeg rs rd s
  | .tCmpReg rs rd => Sys2Proof.Machine.execTCmpReg rs rd s
  | .tCmn rs rd => Sys2Proof.Machine.execTCmn rs rd s
  | .tOrr rs rd => Sys2Proof.Machine.execTOrr rs rd s
  | .tMul rs rd => Sys2Proof.Machine.execTMul rs rd s
  | .tBic rs rd => Sys2Proof.Machine.execTBic rs rd s
  | .tMvn rs rd => Sys2Proof.Machine.execTMvn rs rd s
  | .tAddHi h2 rs rd => Sys2Proof.Machine.execTAddHi h2 rs rd s
  | .tAddLoHi rs rd => Sys2Proof.Machine.execTAddLoHi rs rd s
  | .tAddLow rs rd => Sys2Proof.Machine.execTAddLow rs rd s
  | .tCmpHi h2 rs rd => Sys2Proof.Machine.execTCmpHi h2 rs rd s
  | .tCmpLoHi rs rd => Sys2Proof.Machine.execTCmpLoHi rs rd s
  | .tCmpLow rs rd => Sys2Proof.Machine.execTCmpLow rs rd s
  | .tMovHi h2 rs rd => Sys2Proof.Machine.execTMovHi h2 rs rd s
  | .tMovLoHi rs rd => Sys2Proof.Machine.execTMovLoHi rs rd s
  | .tMovLow rs rd => Sys2Proof.Machine.execTMovLow rs rd s
  | .tBx h2 rs sbz => Sys2Proof.Machine.execTBx h2 rs sbz s
  | .tBxHigh h2 rs sbz => Sys2Proof.Machine.execTBxHigh h2 rs sbz s
  | .tLdrPc rd imm8 => Sys2Proof.Machine.execTLdrPc rd imm8 s
  | .tStrReg ro rb rd => Sys2Proof.Machine.execTStrReg ro rb rd s
  | .tStrbReg ro rb rd => Sys2Proof.Machine.execTStrbReg ro rb rd s
  | .tLdrReg ro rb rd => Sys2Proof.Machine.execTLdrReg ro rb rd s
  | .tLdrbReg ro rb rd => Sys2Proof.Machine.execTLdrbReg ro rb rd s
  | .tStrhReg ro rb rd => Sys2Proof.Machine.execTStrhReg ro rb rd s
  | .tLdrhReg ro rb rd => Sys2Proof.Machine.execTLdrhReg ro rb rd s
  | .tLdsbReg ro rb rd => Sys2Proof.Machine.execTLdsbReg ro rb rd s
  | .tLdshReg ro rb rd => Sys2Proof.Machine.execTLdshReg ro rb rd s
  | .tStrImm imm5 rb rd => Sys2Proof.Machine.execTStrImm imm5 rb rd s
  | .tLdrImm imm5 rb rd => Sys2Proof.Machine.execTLdrImm imm5 rb rd s
  | .tStrbImm imm5 rb rd => Sys2Proof.Machine.execTStrbImm imm5 rb rd s
  | .tLdrbImm imm5 rb rd => Sys2Proof.Machine.execTLdrbImm imm5 rb rd s
  | .tStrhImm imm5 rb rd => Sys2Proof.Machine.execTStrhImm imm5 rb rd s
  | .tLdrhImm imm5 rb rd => Sys2Proof.Machine.execTLdrhImm imm5 rb rd s
  | .tStrSp rd imm8 => Sys2Proof.Machine.execTStrSp rd imm8 s
  | .tLdrSp rd imm8 => Sys2Proof.Machine.execTLdrSp rd imm8 s
  | .tAddPc rd imm8 => Sys2Proof.Machine.execTAddPc rd imm8 s
  | .tAddSp rd imm8 => Sys2Proof.Machine.execTAddSp rd imm8 s
  | .tAddSpImm imm7 => Sys2Proof.Machine.execTAddSpImm imm7 s
  | .tSubSpImm imm7 => Sys2Proof.Machine.execTSubSpImm imm7 s
  | .tPush r rlist => Sys2Proof.Machine.execTPush r rlist s
  | .tPop r rlist => Sys2Proof.Machine.execTPop r rlist s
  | .tUndB1 rest => Sys2Proof.Machine.execTUndB1 rest s
  | .tUndB2 rest => Sys2Proof.Machine.execTUndB2 rest s
  | .tUndB6 rest => Sys2Proof.Machine.execTUndB6 rest s
  | .tUndB8 rest => Sys2Proof.Machine.execTUndB8 rest s
  | .tUndBE rest => Sys2Proof.Machine.execTUndBE rest s
  | .tStmia rb rlist => Sys2Proof.Machine.execTStmia rb rlist s
  | .tLdmia rb rlist => Sys2Proof.Machine.execTLdmia rb rlist s
  | .tBeq soffset8 => Sys2Proof.Machine.execTBeq soffset8 s
  | .tBne soffset8 => Sys2Proof.Machine.execTBne soffset8 s
  | .tBcs soffset8 => Sys2Proof.Machine.execTBcs soffset8 s
  | .tBcc soffset8 => Sys2Proof.Machine.execTBcc soffset8 s
  | .tBmi soffset8 => Sys2Proof.Machine.execTBmi soffset8 s
  | .tBpl soffset8 => Sys2Proof.Machine.execTBpl soffset8 s
  | .tBvs soffset8 => Sys2Proof.Machine.execTBvs soffset8 s
  | .tBvc soffset8 => Sys2Proof.Machine.execTBvc soffset8 s
  | .tBhi soffset8 => Sys2Proof.Machine.execTBhi soffset8 s
  | .tBls soffset8 => Sys2Proof.Machine.execTBls soffset8 s
  | .tBge soffset8 => Sys2Proof.Machine.execTBge soffset8 s
  | .tBlt soffset8 => Sys2Proof.Machine.execTBlt soffset8 s
  | .tBgt soffset8 => Sys2Proof.Machine.execTBgt soffset8 s
  | .tBle soffset8 => Sys2Proof.Machine.execTBle soffset8 s
  | .tUndCond rest => Sys2Proof.Machine.execTUndCond rest s
  | .tSwi imm8 => Sys2Proof.Machine.execTSwi imm8 s
  | .tB offset11 => Sys2Proof.Machine.execTB offset11 s
  | .tUndE8 rest => Sys2Proof.Machine.execTUndE8 rest s
  | .tBlFirst offset11 => Sys2Proof.Machine.execTBlFirst offset11 s
  | .tBlSecond offset11 => Sys2Proof.Machine.execTBlSecond offset11 s

end Sys2Proof.Machine
end

