-- ==== Sys2Proof/Machine/DebugCore.lean ====
section
/-!
DEFINITION. The core in debug state (R586, R596, R601 to R607): instructions from scan chain 1 at debug
speed, system speed accesses, the exit from debug state; and what each outside input does.  The pipeline
between the scan cells and the Execute stage is one instruction deep (log 22).
-/

namespace Sys2Proof.Machine

/-- The part an instruction may play in debug state (R586). -/
inductive DebugClass where
  /-- Data processing, multiplies, MRS, MSR and the branches: at debug speed. -/
  | compute
  /-- Loads, stores and swaps: at debug speed or at system speed. -/
  | memory
  /-- Refused: coprocessor instructions and SWI, "their behaviour in debug state is not defined" (R586, S22), and the
  undefined instructions, which are not in R586's list of the only ones that can be inserted either. -/
  | barred
  deriving DecidableEq, Repr

/-- The part each instruction may play (R586). -/
def debugClass : Instr → DebugClass
  | .and .. | .eor .. | .sub .. | .rsb .. | .add .. | .adc .. | .sbc .. | .rsc .. | .tst .. | .teq ..
  | .cmp .. | .cmn .. | .orr .. | .mov .. | .bic .. | .mvn .. | .mrs .. | .msrReg .. | .msrImm .. | .bx ..
  | .mul .. | .mla .. | .umull .. | .umlal .. | .smull .. | .smlal .. | .b .. | .bl .. | .tLslImm ..
  | .tLsrImm .. | .tAsrImm .. | .tAddReg .. | .tSubReg .. | .tAddImm3 .. | .tSubImm3 .. | .tMovImm ..
  | .tCmpImm .. | .tAddImm8 .. | .tSubImm8 .. | .tAnd .. | .tEor .. | .tLslReg .. | .tLsrReg ..
  | .tAsrReg .. | .tAdc .. | .tSbc .. | .tRorReg .. | .tTst .. | .tNeg .. | .tCmpReg .. | .tCmn ..
  | .tOrr .. | .tMul .. | .tBic .. | .tMvn .. | .tAddHi .. | .tAddLoHi .. | .tAddLow .. | .tCmpHi ..
  | .tCmpLoHi .. | .tCmpLow .. | .tMovHi .. | .tMovLoHi .. | .tMovLow .. | .tBx .. | .tBxHigh ..
  | .tAddPc .. | .tAddSp .. | .tAddSpImm .. | .tSubSpImm .. | .tBeq .. | .tBne .. | .tBcs .. | .tBcc ..
  | .tBmi .. | .tBpl .. | .tBvs .. | .tBvc .. | .tBhi .. | .tBls .. | .tBge .. | .tBlt .. | .tBgt ..
  | .tBle .. | .tB .. | .tBlFirst .. | .tBlSecond .. => .compute
  | .swp .. | .swpb .. | .strh .. | .ldrh .. | .ldrsb .. | .ldrsh .. | .ldr .. | .ldrPost .. | .ldrt ..
  | .str .. | .strPost .. | .strt .. | .ldrb .. | .ldrbPost .. | .ldrbt .. | .strb .. | .strbPost ..
  | .strbt .. | .ldm .. | .ldmUser .. | .ldmRestore .. | .stm .. | .stmUser .. | .tLdrPc .. | .tStrReg ..
  | .tStrbReg .. | .tLdrReg .. | .tLdrbReg .. | .tStrhReg .. | .tLdrhReg .. | .tLdsbReg .. | .tLdshReg ..
  | .tStrImm .. | .tLdrImm .. | .tStrbImm .. | .tLdrbImm .. | .tStrhImm .. | .tLdrhImm .. | .tStrSp ..
  | .tLdrSp .. | .tPush .. | .tPop .. | .tStmia .. | .tLdmia .. => .memory
  | .condNever .. | .undControlImm .. | .undControlOne .. | .undControlOneR .. | .undControlHigh ..
  | .undControlLow .. | .undControlEven .. | .undMultiply .. | .undSwapHigh .. | .undSwapOdd ..
  | .undSwapEven .. | .undSignedStore .. | .undSpace .. | .ldcPre .. | .ldcUp .. | .ldcDown .. | .stcPre ..
  | .stcUp .. | .stcDown .. | .undCoproc .. | .cdp .. | .mcr .. | .mrc .. | .swi .. | .mrcP15c0c0o0 ..
  | .mrcP15c0c0o2 .. | .mrcP15c0c0o3 .. | .mrcP15c0c0o4 .. | .mrcP15c0c0o5 .. | .mrcP15c0c0o6 ..
  | .mrcP15c0c0o7 .. | .mrcP15c0c0o1 .. | .mrcP15c1c0o0 .. | .mrcP15c2c0o0 .. | .mrcP15c2c0o1 ..
  | .mrcP15c3c0o0 .. | .mrcP15c5c0o0 .. | .mrcP15c5c0o1 .. | .mrcP15c6c0o0 .. | .mrcP15c6c0o1 ..
  | .mrcP15c6c1o0 .. | .mrcP15c6c1o1 .. | .mrcP15c6c2o0 .. | .mrcP15c6c2o1 .. | .mrcP15c6c3o0 ..
  | .mrcP15c6c3o1 .. | .mrcP15c6c4o0 .. | .mrcP15c6c4o1 .. | .mrcP15c6c5o0 .. | .mrcP15c6c5o1 ..
  | .mrcP15c6c6o0 .. | .mrcP15c6c6o1 .. | .mrcP15c6c7o0 .. | .mrcP15c6c7o1 .. | .mrcP15c9c0o0 ..
  | .mrcP15c9c0o1 .. | .mrcP15c15c0o0 .. | .mcrP15c1c0o0 .. | .mcrP15c2c0o0 .. | .mcrP15c2c0o1 ..
  | .mcrP15c3c0o0 .. | .mcrP15c5c0o0 .. | .mcrP15c5c0o1 .. | .mcrP15c6c0o0 .. | .mcrP15c6c0o1 ..
  | .mcrP15c6c1o0 .. | .mcrP15c6c1o1 .. | .mcrP15c6c2o0 .. | .mcrP15c6c2o1 .. | .mcrP15c6c3o0 ..
  | .mcrP15c6c3o1 .. | .mcrP15c6c4o0 .. | .mcrP15c6c4o1 .. | .mcrP15c6c5o0 .. | .mcrP15c6c5o1 ..
  | .mcrP15c6c6o0 .. | .mcrP15c6c6o1 .. | .mcrP15c6c7o0 .. | .mcrP15c6c7o1 .. | .mcrP15c9c0o0 ..
  | .mcrP15c9c0o1 .. | .mcrP15c15c0o0 .. | .mcrP15c7c5o0 .. | .mcrP15c7c5o2 .. | .mcrP15c7c6o0 ..
  | .mcrP15c7c6o2 .. | .mcrP15c7c10o2 .. | .mcrP15c7c13o1 .. | .mcrP15c7c14o2 .. | .mcrP15c7c0o4 ..
  | .mcrP15c15c8o2 .. | .mcrP15c7c10o4 .. | .mcrP15c7c8o2 .. | .mcrP15c7c5o1 .. | .mrcP14c0c0o0 ..
  | .mcrP14c1c0o0 .. | .mrcP14c1c0o0 .. | .tUndB1 .. | .tUndB2 .. | .tUndB6 .. | .tUndB8 .. | .tUndBE ..
  | .tUndCond .. | .tSwi .. | .tUndE8 .. => .barred

/-- The instruction of a fetched or scanned item, by the instruction set of the state (R37, R200). -/
def decodeFetched (thumb : Bool) (w : Word) : Instr :=
  if thumb then decode (.thumb (w.extractLsb' 0 16)) else decode (.arm w)

/-- The item the core takes from the instruction data cells as it is clocked in (R596, R602), and the state after
that.  In Thumb state the core reads one half of the bus; which one, where they differ, R602 does not say: a free bit
decides (log 38), and the half stands twice in the item. -/
def State.clockIn (s : State) : Word × State :=
  let low := s.tap.instr.extractLsb' 0 16
  let high := s.tap.instr.extractLsb' 16 16
  if s.thumb && low != high then
    let half := if s.draw.1.getLsbD 0 then high else low
    (half ++ half, s.draw.2)
  else (s.tap.instr, s)

/-- How many words a load at debug speed takes from the scan cells (R596). -/
def wordsWanted (i : Instr) (s : State) : Nat :=
  match exec i { s with dbg := { s.dbg with dataIn := List.replicate 16 0#32 } } with
  | .next t => 16 - t.dbg.dataIn.length
  | .fault _ => 0
  | .refused _ => 0

/-- The first word of a store at debug speed appears on the DD cells, with DDEN HIGH (R596, R602).  What DDEN
captures after a clock that exports no word the spec does not say: it keeps the bit that was scanned in (DESIGN
CHOICE, log 58). -/
def exportWord (s : State) : State :=
  match s.dbg.dataOut with
  | [] => s
  | v :: rest =>
    { s with tap := { s.tap with dd := v, ddEn := true }, dbg := { s.dbg with dataOut := rest } }

/-- An instruction that has taken the machine from `s` to `t` has branched (R602): the pc is not that of the next
instruction, or the instruction set has changed (log 22). -/
def branched (s t : State) : Bool := t.pc != s.pc + s.ilen || t.thumb != s.thumb

/-- The pipeline behind an instruction at debug speed: the next instruction has been clocked in; a branch flushes
it and the one after it, the two NOPs of R602. -/
def clockedIn (taken : Bool) (next : Word) (d : DebugCore) : DebugCore :=
  { d with dataIn := [], pending := if taken then none else some next, flush := taken }

/-- An instruction at debug speed with the data words `ins`; `next` is clocked in behind it (R596, R602,
R607). -/
def debugRun (i : Instr) (ins : List Word) (next : Word) (s : State) : Result :=
  if debugClass i = .barred then .refused .debugInstruction
  else
    match exec i { s with dbg := { s.dbg with dataIn := ins } } with
    | .next t => .next (exportWord { t with dbg := clockedIn (branched s t) next t.dbg })
    | other => other

/-- One clock of the core in debug state, with the instruction and data of the cells of scan chain 1 (R596,
R604, R605): a block store goes on exporting; a load goes on collecting its words; an instruction with
SYSSPEED HIGH arms the restart and takes SYSCOMP LOW until the access has completed (when it falls the spec does
not say, R604; DESIGN CHOICE, log 63); one that a branch has flushed is discarded; else the pending instruction
executes. -/
def debugClock (s : State) : Result :=
  if s.dbg.dataOut ≠ [] then .next (exportWord s)
  else if s.tap.sysSpeed then
    .next { s with dbg := { s.dbg with armed := true, flush := false }, ice := { s.ice with sysComp := false } }
  else if s.dbg.flush then .next { s with dbg := { s.dbg with flush := false } }
  else
    match s.dbg.pending with
    | none => .next { s.clockIn.2 with dbg := { s.dbg with pending := some s.clockIn.1 } }
    | some w =>
      let i := decodeFetched s.thumb w
      let ins := s.dbg.dataIn ++ [s.tap.dd]
      if ins.length < wordsWanted i s then .next { s with dbg := { s.dbg with dataIn := ins } }
      else debugRun i ins s.clockIn.1 (s.clockIn.2.showExec w)

/-- Back in debug state after a system speed access (R604, R607 (f)): the pc five addresses on in all,
SYSSPEED and SYSCOMP HIGH. -/
def systemDone (ahead : Word) (s : State) : State :=
  { s with
    pc := s.pc + 4#32 * ahead
    tap := { s.tap with sysSpeed := true }
    ice := { s.ice with sysComp := true }
    dbg := { DebugCore.idle with active := true } }

/-- A system speed access (R604): the load or store goes through the protection unit, the caches and the
write buffer; an abort enters Abort mode. -/
def systemAccess (i : Instr) (s : State) : Result :=
  match exec i { s with dbg := { s.dbg with system := true } } with
  | .next t => .next (systemDone s.ilen t)
  | other => other

/-- The core has left debug state (R605); `DBGACK` masks three more fetches (R606). -/
def DebugCore.left : DebugCore := { DebugCore.idle with ackFetches := 3 }

/-- The last instruction of a debug sequence executes and the core leaves debug state (R605). -/
def leaveDebug (i : Instr) (s : State) : Result :=
  match exec i s with
  | .next t => .next { t with dbg := DebugCore.left }
  | other => other

/-- RUN-TEST/IDLE with RESTART, after an instruction with SYSSPEED HIGH has been clocked in (R604, R605): a
load or store runs at system speed, any other instruction is the last of the debug sequence. -/
def debugRestart (s : State) : Result :=
  match s.dbg.pending with
  | none => .next { s with dbg := DebugCore.left }
  | some w =>
    let i := decodeFetched s.thumb w
    match debugClass i with
    | .compute => leaveDebug i (s.showExec w)
    | .memory => systemAccess i (s.showExec w)
    | .barred => .refused .debugInstruction

/-- The machine before the core is clocked: no instruction is in the Execute stage (R653). -/
def State.beforeClock (s : State) : State := { s with instrExec := false }

/-- One pass through RUN-TEST/IDLE (R596, R604, R605): with INTEST and scan chain 1 it clocks the core in
debug state, with RESTART it restarts the core; else nothing.  Reset holds the core (R540, R660). -/
def runTestIdle (s : State) : Result :=
  if !s.dbg.active || !s.pins.bnRES || s.resetHeld then .next s
  else
    match tapInstr s.tap.ir with
    | .intest => if s.tap.chain = 1#5 then debugClock s.beforeClock else .next s
    | .restart => if s.dbg.armed then debugRestart s.beforeClock else .next s
    | _ => .next s

/-- The TAP does nothing while `nTRST` is LOW (R590). -/
def whileTap (f : State → Result) (s : State) : Result := if s.pins.nTRST then f s else .next s

/-- What an outside input does (R73, R100, R590, R660). -/
def applyInput (i : Input) (s : State) : Result :=
  match i with
  | .pins p =>
    let t := { s with pins := p, resetHeld := s.resetHeld || !p.bnRES }
    .next (if p.nTRST then t else testReset t)
  | .busWrite cell v => .next { s with mem := memSet s.mem cell.toNat v }
  | .busErrors es => .next { s with busErrors := es }
  | .cpAnswers as => .next { s with cpAnswers := as }
  | .scanIr v => whileTap (scanIr v) s
  | .scanDr v => whileTap (scanDr v) s
  | .runTestIdle => whileTap runTestIdle s

/-- The write buffer's own drain between two inputs (R154): nothing leaves it while the clocks are frozen (R550)
or reset holds the core (R663; log 25). -/
def State.betweenInputs (s : State) : State :=
  if (s.waiting && !s.wakes) || s.resetHeld || !s.pins.bnRES then s else backgroundDrain s

/-- The inputs between two instructions, in order; the write buffer goes on by itself before each (R154). -/
def applyInputs : List Input → State → Result
  | [], s => .next s
  | i :: rest, s =>
    match applyInput i s.betweenInputs with
    | .next t => applyInputs rest t
    | other => other

end Sys2Proof.Machine
end

