-- ==== Sys2Proof/Machine/Run.lean ====
section
/-!
DEFINITION. What happens between instructions and around one: reset (R540, R660 to R665), the wait state
(R550, R551), debug requests and interrupts (R534 to R536, R584), the write buffer's own drain (R154),
breakpoints, watchpoints and single step (R582 to R584, R618), and the running of one instruction.
-/

namespace Sys2Proof.Machine

/-! Reset. -/

/-- A line after reset: invalid; TAG, data and the DCache's dirty bit are unspecified (R80, R663). -/
def Line.afterReset (dirty : Bool) (n : Nat) : Line :=
  { valid := false
    dirty := dirty && (Config.freeWord n).getLsbD 0
    tag := (Config.freeWord n).extractLsb' 6 26
    data := #v[Config.freeWord (n + 1), Config.freeWord (n + 2), Config.freeWord (n + 3), Config.freeWord (n + 4)] }

/-- A cache after reset: every line invalid, the counter unspecified (R72, R80, R663). -/
def Cache.afterReset (dirty : Bool) (n : Nat) : Cache :=
  { segs := Vector.ofFn fun g => Vector.ofFn fun idx => Line.afterReset dirty (n + 5 * (64 * g.val + idx.val))
    victim := (Config.freeWord (n + 1280)).extractLsb' 0 6 }

/-- Eight region registers after reset: disabled, base and size unspecified (R50, R80). -/
def regionsAfterReset (n : Nat) : Vector Region 8 :=
  Vector.ofFn fun i => { Region.ofWord (Config.freeWord (n + i.val)) with enable := false }

/-- CP15 after reset (R662): register 5 and the base and size of register 6 are unspecified. -/
def Cp15.afterReset (vinithi : Bool) (n : Nat) : Cp15 :=
  { Cp15.reset vinithi with
    apD := (Config.freeWord n).extractLsb' 0 16
    apI := (Config.freeWord n).extractLsb' 16 16
    regionsD := regionsAfterReset (n + 1)
    regionsI := regionsAfterReset (n + 9) }

/-- The machine as reset leaves it, before the entry to the vector (R660 to R665): the unspecified state is
free; the TAP, the EmbeddedICE registers, the external coprocessors and external memory are not reset, and
buffered writes are discarded. -/
def resetState (s : State) : State :=
  let n := s.draws
  { s with
    regs := Vector.ofFn fun i => Config.freeWord (n + i.val)
    cpsr := statusClean (Config.freeWord (n + 30))
    spsrFiq := statusClean (Config.freeWord (n + 31))
    spsrIrq := statusClean (Config.freeWord (n + 32))
    spsrSvc := statusClean (Config.freeWord (n + 33))
    spsrAbt := statusClean (Config.freeWord (n + 34))
    spsrUnd := statusClean (Config.freeWord (n + 35))
    cp15 := Cp15.afterReset s.pins.vinithi (n + 36)
    dcc := { readData := Config.freeWord (n + 60), writeData := Config.freeWord (n + 61), w := false, r := false }
    icache := Cache.afterReset false (n + 100)
    dcache := Cache.afterReset true (n + 1500)
    wbuf := []
    waiting := false
    busy := none
    resetHeld := false
    instrExec := false
    dbg := DebugCore.idle
    draws := n + 3000 }

/-- Reset: the state it leaves and the entry to the Reset vector, with its vector catch (R540, R665).  R14_svc
and SPSR_svc are unspecified: each is a free word of its own, tied to nothing else (R80, R530). -/
def resetEntry (s : State) : State :=
  let t := takeException .reset (resetState s)
  { t with spsrSvc := statusClean (Config.freeWord (t.draws + 1)), draws := t.draws + 2 }

/-! Around an instruction. -/

/-- The five low control bits of a fetch (R614): InTRANS, 0, x, ITBIT, x; the bits marked x are free. -/
def fetchCtrl (s : State) : BitVec 5 :=
  BitVec.ofBool s.privileged ++ 0#1 ++ (Config.freeWord s.draws).extractLsb' 2 1 ++ BitVec.ofBool s.thumb ++
    (Config.freeWord s.draws).extractLsb' 0 1

/-- The fetched instruction is breakpointed (R582, R619): `IEBKPT`, or a watchpoint unit that compares
instructions.  In Thumb state the data compared is the halfword with an upper half of zeros, where the spec says only
that the upper half of the data mask should be set (R619; DESIGN CHOICE, log 37). -/
def breakpointed (w : Word) (s : State) : Bool :=
  s.watching && (s.pins.iebkpt || iceMatch s .instr s.pc w (fetchCtrl s))

/-- The CHAINOUT latch after a fetch (R613). -/
def watchFetch (w : Word) (s : State) : State :=
  if s.watching then
    { s with ice := { s.ice with chainOut := chainNext s .instr s.pc w (fetchCtrl s) }, draws := s.draws + 1 }
  else s

/-- After an instruction has completed (R583, R618): the instruction after a watchpointed access has now
completed and debug state is entered; a hit arms that; a single step enters debug state.  A coprocessor
instruction that is waiting has not completed, and INSTREXEC does not show it as executed (R386,
R653).  A single-stepped instruction that is also watchpointed enters
debug state at once, with SYSSPEED HIGH (DESIGN CHOICE, log 59). -/
def afterInstruction (s : State) : State :=
  if s.busy.isSome then { s with instrExec := false }
  else if !s.watching then s
  else
    match s.dbg.watch with
    | .armed => enterDebug true false s
    | .hit =>
      if s.ice.ctrl.getLsbD 3 then enterDebug true false s
      else { s with dbg := { s.dbg with watch := .armed } }
    | .idle => if s.ice.ctrl.getLsbD 3 then enterDebug false false s else s

/-- A decoded instruction runs, with what surrounds it. -/
def runDecoded (i : Instr) (s : State) : Result :=
  match exec i { s with busy := none } with
  | .next t => .next (afterInstruction t)
  | other => other

/-- A fetched item that is not aborted: the breakpoint comes before the instruction (R559 (b), R582), and a
watchpoint that is armed is reported with it (R585, R607 (d)). -/
def runFetched (w : Word) (s : State) : Result :=
  if breakpointed w s then
    .next (enterDebug (s.dbg.watch != .idle) (s.dbg.watch != .idle) (watchFetch w s))
  else runDecoded (decodeFetched s.thumb w) ((watchFetch w s).showExec w)

/-- The machine before a fetch: one fetch fewer is masked by `DBGACK` (R606), and no instruction is in the Execute
stage (R653). -/
def State.beforeFetch (s : State) : State :=
  { s with dbg := { s.dbg with ackFetches := s.dbg.ackFetches - 1 }, instrExec := false }

/-- One instruction: fetch, Prefetch Abort before a breakpoint (R528, R559 (a)), execution.  A coprocessor
instruction that was answered WAIT is not fetched again: the Execute stage holds it (R386). -/
def runInstruction (s : State) : Result :=
  match s.busy with
  | some w => runDecoded (decode (.arm w)) (s.showExec w)
  | none =>
    match fetch s.beforeFetch with
    | .fault f => .fault f
    | .abort t => .next (afterInstruction (takeException .prefetchAbort t))
    | .done w t => runFetched w t

/-- An interrupt is taken at the boundary: the coprocessor instruction that waited is abandoned (R388,
R536). -/
def interrupt (e : Exc) (s : State) : Result :=
  .next (takeException e { s with busy := none, instrExec := false })

/-- A debug request between two instructions (R584).  The instruction after a watchpointed access always
completes first (R583).  A coprocessor instruction in its WAIT cycles is abandoned, as for an interrupt (R388
speaks of IRQ and FIQ only; DESIGN CHOICE, log 60). -/
def requested (s : State) : Result :=
  if s.dbg.watch = .armed then runInstruction s
  else .next (enterDebug (s.dbg.watch != .idle) false { s with busy := none, instrExec := false })

/-- An instruction boundary (R536, R559): debug request, FIQ, IRQ, then the next instruction. -/
def boundary (s : State) : Result :=
  if s.watching && s.debugRequest then requested s
  else if s.interruptsEnabled && !s.pins.nFIQ && !s.flagF then interrupt .fiq s
  else if s.interruptsEnabled && !s.pins.nIRQ && !s.flagI then interrupt .irq s
  else runInstruction s

/-- What the machine does in a step once the inputs have been applied: reset; debug state, in which only the
write buffer goes on by itself (R154, R581); the wait state; or, when some entries have left the write buffer
(R154), an instruction boundary. -/
def advance (s : State) : Result :=
  if !s.pins.bnRES then .next { s with resetHeld := true, instrExec := false }
  else if s.resetHeld then .next (resetEntry s)
  else if s.dbg.active then .next (backgroundDrain s)
  else if s.waiting && !s.wakes then .next s
  else boundary (backgroundDrain { s with waiting := false })

/-- A step: the inputs of this step, then the machine.  INSTREXEC tells of this step only (R653). -/
def stepOnce (s : State) : Result :=
  match s.inputs with
  | [] => advance { s with instrExec := false }
  | now :: later =>
    match applyInputs now { s with inputs := later, instrExec := false } with
    | .next t => advance t
    | other => other

/-- External memory with an instruction of `nbits` bits stored at the pc, in the lanes a fetch reads (R104,
R105, R106). -/
def storeFetchWord (s : State) (nbits w : Nat) : Memory :=
  if nbits = 16 then
    memWrite s.mem s.pc (laneMask s.cp15.b .half s.pc) (lanesPut s.cp15.b .half s.pc (BitVec.ofNat 32 w))
  else memWrite s.mem s.pc 15#4 (BitVec.ofNat 32 w)

/-- The machine with the instruction of `nbits` bits `w` where the next step fetches it: the T bit selects
its instruction set, the write buffer has drained, no ICache line stands in the way, and no coprocessor
instruction is held. -/
def placeFetchWord (s : State) (nbits w : Nat) : State :=
  let t := drainWriteBuffer s
  { t with
    cpsr := t.cpsr.extractLsb' 6 26 ++ BitVec.ofBool (nbits == 16) ++ t.cpsr.extractLsb' 0 5
    busy := none
    mem := storeFetchWord t nbits w
    icache := if t.cp15.i then t.icache.mapLines Line.invalid else t.icache }

end Sys2Proof.Machine
end

