-- ==== Sys2Proof/Machine/Step.lean ====
section
/-!
DEFINITION. The step of the machine.
-/

namespace Sys2Proof.Machine

/-- One step: the outside inputs of the step, then reset, debug state, the wait state, an exception or one
instruction (R536). -/
def step (s : State) : Host.Outcome State Fault Refusal := stepOnce s

/-- `s` with the instruction of `nbits` bits `w` stored where `step` fetches its next instruction (log 20). -/
def State.withFetchWord (s : State) (nbits w : Nat) : State := placeFetchWord s nbits w

end Sys2Proof.Machine
end

