-- ==== Sys2Proof/Safety.lean ====
section
/-!
DEFINITION. What counts as a safe state and a safe run, and the words in which the claims about the machine
are stated.
-/

namespace Sys2Proof.Machine

/-! Safe states. -/

/-- The pc is aligned to the instruction set of the state: words in ARM state, halfwords in Thumb state
(R33, R37). -/
def State.pcAligned (s : State) : Bool :=
  if s.thumb then s.pc.extractLsb' 0 1 == 0#1 else s.pc.extractLsb' 0 2 == 0#2

/-- Bits 27:8 of the CPSR and of every SPSR are zero (R34; D29). -/
def State.statusFormed (s : State) : Bool :=
  statusClean s.cpsr == s.cpsr && statusClean s.spsrFiq == s.spsrFiq && statusClean s.spsrIrq == s.spsrIrq &&
    statusClean s.spsrSvc == s.spsrSvc && statusClean s.spsrAbt == s.spsrAbt &&
    statusClean s.spsrUnd == s.spsrUnd

/-- The write buffer holds at most four addresses and eight words (R150). -/
def State.bufferFits (s : State) : Bool := decide (s.wbuf.length ≤ 4) && decide (wbSlots s.wbuf ≤ 8)

/-- The invariant of the machine: memory in canonical form, an aligned pc, one of the seven modes, clean
status registers, and a write buffer within its size (R33, R34, R35, R150). -/
def State.inv (s : State) : Bool :=
  s.mem.wf && s.pcAligned && modeLegal s.mode && s.statusFormed && s.bufferFits

/-! Safe runs. -/

/-- `n` steps, up to the first fault or refusal. -/
def runFor : Nat → State → Result
  | 0, s => .next s
  | n + 1, s =>
    match step s with
    | .next t => runFor n t
    | other => other

/-- The machine takes `n` steps from `s` without a fault or a refusal. -/
def SafeFor (n : Nat) (s : State) : Prop := ∃ t, runFor n s = .next t

/-- A run that never stops. -/
def SafeRun (s : State) : Prop := ∀ n, SafeFor n s

/-! The words of the claims. -/

/-- The instruction after this one lies in the address space (R33; D26). -/
def State.room (s : State) : Bool := s.dbg.active || decide (s.pc.toNat + s.ilen.toNat < 2 ^ 32)

/-- The state with the pc moved on to the next instruction (R33). -/
def State.stepped (s : State) : State := { s with pc := s.pc + s.ilen }

/-- An instruction with this condition code executes (R203, R204). -/
def State.passes (s : State) (cond : BitVec 4) : Bool := cond != 15#4 && s.condPassed cond

/-- The core runs a program and no debugger takes part (R580, R581). -/
def State.undebugged (s : State) : Bool := !s.dbg.active && !s.pins.dbgen

/-- The protection unit and the caches are off, the write buffer is empty and no transfer is answered with
an error: every access is one external transfer (R100, R116, R149). -/
def State.direct (s : State) : Bool :=
  s.undebugged && !s.cp15.p && !s.cp15.i && !s.cp15.c && decide (s.wbuf = []) && decide (s.busErrors = [])

/-- Nothing comes before the next instruction: no input is due, no reset, no wait, no debug state, no
interrupt that would be taken (R536, R540, R550). -/
def State.quiet (s : State) : Bool :=
  decide (s.inputs = []) && s.pins.bnRES && !s.resetHeld && !s.waiting && s.undebugged &&
    (s.pins.nFIQ || s.flagF) && (s.pins.nIRQ || s.flagI)

/-- `gone` have left the write buffer, in this order, and `rest` have stayed in it (R153, R154): some order of its
entries, and the oldest first under `WB_FIFO`. -/
def State.leaves (s : State) (gone rest : List WbEntry) : Prop :=
  (gone ++ rest).Perm s.wbuf ∧ rest.Sublist s.wbuf ∧ (s.wbFifo = true → gone ++ rest = s.wbuf)

/-- `t` is `s` with some entries gone from the write buffer into external memory, and nothing else changed but the
counter of free values (R153, R154; log 25). -/
def State.drainsTo (s t : State) : Prop :=
  ∃ (gone rest : List WbEntry) (n : Nat),
    s.leaves gone rest ∧ t = { s with wbuf := rest, mem := gone.foldl wbWrite s.mem, draws := s.draws + n }

/-- A data access of the current mode at `a` passes its check, nonbufferable, and no error answers it (R144, R149). -/
def State.letsOut (s : State) (a : Word) (write : Bool) : Prop :=
  ∃ cd, checkAccess s.cp15 .data a write s.privileged = .pass cd false ∧
    extAbort s.busErrors (if write then .write else .read) a = false

/-- A data access of the current mode at `a` is refused by its check, or passes it, nonbufferable, and is answered with
an error (R115, R149). -/
def State.turnsAway (s : State) (a : Word) (write : Bool) : Prop :=
  checkAccess s.cp15 .data a write s.privileged = .abort ∨
    ∃ cd, checkAccess s.cp15 .data a write s.privileged = .pass cd false ∧
      extAbort s.busErrors (if write then .write else .read) a = true

/-- The lines that a lockdown register lets a linefill overwrite (R137, R138): with the Load bit the one it names, else
those from its index up. -/
def Lockdown.names (l : Lockdown) (idx : Fin 64) : Prop :=
  if l.load then idx.val = l.index.toNat else l.index.toNat ≤ idx.val

/-- The item that a load of this size at `a` reads from external memory (R104, R105, R107). -/
def State.memItem (s : State) (sz : Size) (a : Word) : Word :=
  lanesGet s.cp15.b sz (transferAddr sz a) (memWord s.mem a)

/-- External memory after a store of this size at `a` (R104, R105, R107). -/
def State.memStored (s : State) (sz : Size) (a v : Word) : Memory :=
  memWrite s.mem (transferAddr sz a) (laneMask s.cp15.b sz (transferAddr sz a))
    (lanesPut s.cp15.b sz (transferAddr sz a) v)

/-- The state an exception leaves, with no debugger taking part (R530, R531): `link` in R14 and the old CPSR
in the SPSR of `mode`, that mode with T = 0, I = 1 and F as given, the pc at the vector. -/
def State.entered (s : State) (mode : BitVec 5) (link offset : Word) (f : BitVec 1) : State :=
  { (s.bankSet mode 14#4 link).setSpsrOf mode s.cpsr with
    cpsr := s.cpsr.extractLsb' 8 24 ++ 1#1 ++ f ++ 0#1 ++ mode
    pc := (if s.cp15.v then 0xFFFF0000#32 else 0x00000000#32) + offset }

/-- The result of a flag-setting form goes to the flags and to a register, and the pc moves on. -/
def State.wrote (s : State) (setFlags : BitVec 1) (rd : BitVec 4) (r : Word) (c v : Bool) : State :=
  { (if setFlags = 1#1 then s.setFlags (r.getLsbD 31) (r == 0#32) c v else s).setReg rd r with
    pc := s.pc + s.ilen }

/-- Only the flags change, and the pc moves on. -/
def State.compared (s : State) (r : Word) (c v : Bool) : State :=
  { s.setFlags (r.getLsbD 31) (r == 0#32) c v with pc := s.pc + s.ilen }

/-- Signed overflow: the exact result is no 32-bit signed number (R18). -/
def overflows (r : Int) : Bool := decide (r < -2 ^ 31) || decide (2 ^ 31 ≤ r)

/-- The number of registers in a list below register `i` (R350). -/
def listedBelow (list : BitVec 16) (i : Nat) : Nat := (List.range i).countP fun j => list.getLsbD j

/-- The address of register `i` of a block transfer whose first address is `start` (R216, R350). -/
def slotAddr (start : Word) (list : BitVec 16) (i : Nat) : Word := start + BitVec.ofNat 32 (4 * listedBelow list i)

/-- The first address of a block transfer, by the four rows of R216. -/
def blockFirst (p u : BitVec 1) (base : Word) (list : BitVec 16) : Word :=
  if u = 1#1 then (if p = 1#1 then base + 4#32 else base)
  else if p = 1#1 then base - BitVec.ofNat 32 (4 * listedBelow list 16)
  else base - BitVec.ofNat 32 (4 * listedBelow list 16) + 4#32

/-- The base register after a block transfer with writeback (R216). -/
def blockAfter (u : BitVec 1) (base : Word) (list : BitVec 16) : Word :=
  if u = 1#1 then base + BitVec.ofNat 32 (4 * listedBelow list 16)
  else base - BitVec.ofNat 32 (4 * listedBelow list 16)

/-- The reads of CP15 with the register each one names (the rows of R400). -/
def cp15Reads (cond rd : BitVec 4) : List (Instr × SysReg) :=
    [(.mrcP15c0c0o0 cond rd, .idCode), (.mrcP15c0c0o2 cond rd, .idCode), (.mrcP15c0c0o3 cond rd, .idCode),
    (.mrcP15c0c0o4 cond rd, .idCode), (.mrcP15c0c0o5 cond rd, .idCode), (.mrcP15c0c0o6 cond rd, .idCode),
    (.mrcP15c0c0o7 cond rd, .idCode), (.mrcP15c0c0o1 cond rd, .cacheType),
    (.mrcP15c1c0o0 cond rd, .control), (.mrcP15c2c0o0 cond rd, .cachable .data),
    (.mrcP15c2c0o1 cond rd, .cachable .instr), (.mrcP15c3c0o0 cond rd, .bufferable),
    (.mrcP15c5c0o0 cond rd, .permission .data), (.mrcP15c5c0o1 cond rd, .permission .instr),
    (.mrcP15c6c0o0 cond rd, .region .data 0), (.mrcP15c6c0o1 cond rd, .region .instr 0),
    (.mrcP15c6c1o0 cond rd, .region .data 1), (.mrcP15c6c1o1 cond rd, .region .instr 1),
    (.mrcP15c6c2o0 cond rd, .region .data 2), (.mrcP15c6c2o1 cond rd, .region .instr 2),
    (.mrcP15c6c3o0 cond rd, .region .data 3), (.mrcP15c6c3o1 cond rd, .region .instr 3),
    (.mrcP15c6c4o0 cond rd, .region .data 4), (.mrcP15c6c4o1 cond rd, .region .instr 4),
    (.mrcP15c6c5o0 cond rd, .region .data 5), (.mrcP15c6c5o1 cond rd, .region .instr 5),
    (.mrcP15c6c6o0 cond rd, .region .data 6), (.mrcP15c6c6o1 cond rd, .region .instr 6),
    (.mrcP15c6c7o0 cond rd, .region .data 7), (.mrcP15c6c7o1 cond rd, .region .instr 7),
    (.mrcP15c9c0o0 cond rd, .lockdown .data), (.mrcP15c9c0o1 cond rd, .lockdown .instr),
    (.mrcP15c15c0o0 cond rd, .test)]

/-- The writes of CP15 with the register each one names (the rows of R400). -/
def cp15Writes (cond rd : BitVec 4) : List (Instr × SysReg) :=
    [(.mcrP15c1c0o0 cond rd, .control), (.mcrP15c2c0o0 cond rd, .cachable .data),
    (.mcrP15c2c0o1 cond rd, .cachable .instr), (.mcrP15c3c0o0 cond rd, .bufferable),
    (.mcrP15c5c0o0 cond rd, .permission .data), (.mcrP15c5c0o1 cond rd, .permission .instr),
    (.mcrP15c6c0o0 cond rd, .region .data 0), (.mcrP15c6c0o1 cond rd, .region .instr 0),
    (.mcrP15c6c1o0 cond rd, .region .data 1), (.mcrP15c6c1o1 cond rd, .region .instr 1),
    (.mcrP15c6c2o0 cond rd, .region .data 2), (.mcrP15c6c2o1 cond rd, .region .instr 2),
    (.mcrP15c6c3o0 cond rd, .region .data 3), (.mcrP15c6c3o1 cond rd, .region .instr 3),
    (.mcrP15c6c4o0 cond rd, .region .data 4), (.mcrP15c6c4o1 cond rd, .region .instr 4),
    (.mcrP15c6c5o0 cond rd, .region .data 5), (.mcrP15c6c5o1 cond rd, .region .instr 5),
    (.mcrP15c6c6o0 cond rd, .region .data 6), (.mcrP15c6c6o1 cond rd, .region .instr 6),
    (.mcrP15c6c7o0 cond rd, .region .data 7), (.mcrP15c6c7o1 cond rd, .region .instr 7),
    (.mcrP15c9c0o0 cond rd, .lockdown .data), (.mcrP15c9c0o1 cond rd, .lockdown .instr),
    (.mcrP15c15c0o0 cond rd, .test)]

end Sys2Proof.Machine
end

