-- ==== Sys2Proof/Certificates/Slice0/Obligations.lean ====
section
/-!
DEFINITION. The claims about the machine, for the provers.  What a claim calls the result of an instruction is
a whole next state, so that it says what changes and that nothing else does.
-/

section

open Sys2Proof Sys2Proof.Machine

/-! ARM data processing, status registers and multiplies. -/

/-- R18: the sum, its carry and its overflow are those of the exact integers, and a subtraction carries when
it does not borrow. -/
def Obligations.AddWithCarryIsExact : Prop :=
  ∀ (a b : Word) (cin : Bool),
    (addWithCarry a b cin).value.toNat = (a.toNat + b.toNat + cin.toNat) % 2 ^ 32 ∧
    ((addWithCarry a b cin).c = true ↔ 2 ^ 32 ≤ a.toNat + b.toNat + cin.toNat) ∧
    ((addWithCarry a b cin).v = false ↔ (addWithCarry a b cin).value.toInt = a.toInt + b.toInt + cin.toNat) ∧
    (addWithCarry a (~~~b) true).value = a - b ∧
    ((addWithCarry a (~~~b) true).c = true ↔ b.toNat ≤ a.toNat)

/-- R210, R211, R212: every bit of a rotated immediate, and every row of the tables of immediate and
register shifts, on the numbers the words stand for. -/
def Obligations.ShifterTables : Prop :=
  (∀ (rot : BitVec 4) (imm8 : BitVec 8) (c : Bool),
     (∀ i, i < 32 → (rotImm rot imm8 c).value.getLsbD i = imm8.getLsbD ((i + 2 * rot.toNat) % 32)) ∧
     (rotImm rot imm8 c).carry = (if rot = 0#4 then c else (rotImm rot imm8 c).value.getLsbD 31)) ∧
  (∀ (n : BitVec 5) (m : Word) (c : Bool),
     (n = 0#5 →
       shiftByImm 0#2 n m c = ⟨m, c⟩ ∧
       shiftByImm 1#2 n m c = ⟨0#32, m.getLsbD 31⟩ ∧
       shiftByImm 2#2 n m c = ⟨if m.getLsbD 31 then 0xFFFFFFFF#32 else 0#32, m.getLsbD 31⟩ ∧
       shiftByImm 3#2 n m c = ⟨((BitVec.ofBool c).zeroExtend 32 <<< 31) ||| (m >>> 1), m.getLsbD 0⟩) ∧
     (n ≠ 0#5 →
       shiftByImm 0#2 n m c = ⟨BitVec.ofNat 32 (m.toNat * 2 ^ n.toNat), m.getLsbD (32 - n.toNat)⟩ ∧
       shiftByImm 1#2 n m c = ⟨BitVec.ofNat 32 (m.toNat / 2 ^ n.toNat), m.getLsbD (n.toNat - 1)⟩ ∧
       shiftByImm 2#2 n m c = ⟨BitVec.ofInt 32 (m.toInt / 2 ^ n.toNat), m.getLsbD (n.toNat - 1)⟩ ∧
       shiftByImm 3#2 n m c = ⟨(m >>> n.toNat) ||| (m <<< (32 - n.toNat)), m.getLsbD (n.toNat - 1)⟩)) ∧
  (∀ (n : BitVec 8) (m : Word) (c : Bool),
     (n = 0#8 → ∀ ty : BitVec 2, shiftByReg ty n m c = ⟨m, c⟩) ∧
     (n ≠ 0#8 →
       shiftByReg 0#2 n m c =
         ⟨BitVec.ofNat 32 (m.toNat * 2 ^ n.toNat), decide (n.toNat ≤ 32) && m.getLsbD (32 - n.toNat)⟩ ∧
       shiftByReg 1#2 n m c = ⟨BitVec.ofNat 32 (m.toNat / 2 ^ n.toNat), m.getLsbD (n.toNat - 1)⟩ ∧
       shiftByReg 2#2 n m c = ⟨BitVec.ofInt 32 (m.toInt / 2 ^ n.toNat), m.getLsbD (min (n.toNat - 1) 31)⟩ ∧
       (n.toNat % 32 = 0 → shiftByReg 3#2 n m c = ⟨m, m.getLsbD 31⟩) ∧
       (n.toNat % 32 ≠ 0 →
         shiftByReg 3#2 n m c =
           ⟨(m >>> (n.toNat % 32)) ||| (m <<< (32 - n.toNat % 32)), m.getLsbD (n.toNat % 32 - 1)⟩)))

/-- R203, R204, R33: the fifteen conditions on the flags; an instruction whose condition fails does nothing
but go on, which past the top of the address space is refused; and a word of `cond = 0b1111` is refused by
name, whatever instruction its other bits would be. The refusal at the top of the address space is the
model's log 14, from R33 and D26. -/
def Obligations.ConditionsAndTheirFailure : Prop :=
  ((∀ n z c v : Bool,
     condHolds 0#4 n z c v = z ∧ condHolds 1#4 n z c v = !z ∧ condHolds 2#4 n z c v = c ∧
     condHolds 3#4 n z c v = !c ∧ condHolds 4#4 n z c v = n ∧ condHolds 5#4 n z c v = !n ∧
     condHolds 6#4 n z c v = v ∧ condHolds 7#4 n z c v = !v ∧ condHolds 8#4 n z c v = (c && !z) ∧
     condHolds 9#4 n z c v = (!c || z) ∧ condHolds 10#4 n z c v = (n == v) ∧
     condHolds 11#4 n z c v = (n != v) ∧ condHolds 12#4 n z c v = (!z && (n == v)) ∧
     condHolds 13#4 n z c v = (z || (n != v)) ∧ condHolds 14#4 n z c v = true) ∧
   (∀ (i : Instr) (w : Word) (s : State),
     encode i = .arm w → fld w 28 4 ≠ 15#4 → s.condPassed (fld w 28 4) = false →
       (s.room = true → exec i s = .next s.stepped) ∧ (s.room = false → exec i s = .refused .addressWrap))) ∧
  (∀ (i : Instr) (w : Word) (s : State),
     encode i = .arm w → fld w 28 4 = 15#4 → exec i s = .refused .condNever)

/-- AND, EOR, ORR, BIC, MOV, MVN, TST and TEQ (R264, R265, R272, R273, R276 to R279, R282): the result goes
to Rd (the tests write none), and with S = 1 the flags are N and Z of it, the shifter carry, and the old V;
nothing else changes. R15 beside a register-specified shift is the model's log 12. -/
def Obligations.LogicalAndMoveOperations : Prop :=
  (∀ (cond : BitVec 4) (sf : BitVec 1) (rn rd : BitVec 4) (op2 : Operand2) (s : State),
     s.passes cond = true → rd ≠ 15#4 → s.room = true →
     let a := s.operand1 rn op2
     let b := (s.operand2 op2).value
     let c := (s.operand2 op2).carry
     exec (.and cond sf rn rd op2) s = .next (s.wrote sf rd (a &&& b) c s.flagV) ∧
     exec (.eor cond sf rn rd op2) s = .next (s.wrote sf rd (a ^^^ b) c s.flagV) ∧
     exec (.orr cond sf rn rd op2) s = .next (s.wrote sf rd (a ||| b) c s.flagV) ∧
     exec (.bic cond sf rn rd op2) s = .next (s.wrote sf rd (a &&& ~~~b) c s.flagV)) ∧
  (∀ (cond : BitVec 4) (sf : BitVec 1) (rd : BitVec 4) (op2 : Operand2) (s : State),
     s.passes cond = true → rd ≠ 15#4 → s.room = true →
     exec (.mov cond sf 0#4 rd op2) s =
       .next (s.wrote sf rd (s.operand2 op2).value (s.operand2 op2).carry s.flagV) ∧
     exec (.mvn cond sf 0#4 rd op2) s =
       .next (s.wrote sf rd (~~~(s.operand2 op2).value) (s.operand2 op2).carry s.flagV)) ∧
  (∀ (cond rn : BitVec 4) (op2 : Operand2) (s : State),
     s.passes cond = true → s.room = true →
     let a := s.operand1 rn op2
     let b := (s.operand2 op2).value
     let c := (s.operand2 op2).carry
     exec (.tst cond rn 0#4 op2) s = .next (s.compared (a &&& b) c s.flagV) ∧
     exec (.teq cond rn 0#4 op2) s = .next (s.compared (a ^^^ b) c s.flagV))

/-- ADD, ADC, SUB, SBC, RSB, RSC, CMP and CMN (R266 to R271, R274, R275, R282): sums and differences modulo
`2^32`, C and V from the exact ones; the compares write the flags only. R15 beside a register-specified
shift is the model's log 12. -/
def Obligations.ArithmeticOperations : Prop :=
  (∀ (cond : BitVec 4) (sf : BitVec 1) (rn rd : BitVec 4) (op2 : Operand2) (s : State),
     s.passes cond = true → rd ≠ 15#4 → s.room = true →
     let a := s.operand1 rn op2
     let b := (s.operand2 op2).value
     let c := s.flagC.toNat
     let d := (!s.flagC).toNat
     exec (.add cond sf rn rd op2) s =
       .next (s.wrote sf rd (a + b) (decide (2 ^ 32 ≤ a.toNat + b.toNat)) (overflows (a.toInt + b.toInt))) ∧
     exec (.adc cond sf rn rd op2) s =
       .next (s.wrote sf rd (a + b + BitVec.ofNat 32 c) (decide (2 ^ 32 ≤ a.toNat + b.toNat + c))
         (overflows (a.toInt + b.toInt + c))) ∧
     exec (.sub cond sf rn rd op2) s =
       .next (s.wrote sf rd (a - b) (decide (b.toNat ≤ a.toNat)) (overflows (a.toInt - b.toInt))) ∧
     exec (.sbc cond sf rn rd op2) s =
       .next (s.wrote sf rd (a - b - BitVec.ofNat 32 d) (decide (b.toNat + d ≤ a.toNat))
         (overflows (a.toInt - b.toInt - d))) ∧
     exec (.rsb cond sf rn rd op2) s =
       .next (s.wrote sf rd (b - a) (decide (a.toNat ≤ b.toNat)) (overflows (b.toInt - a.toInt))) ∧
     exec (.rsc cond sf rn rd op2) s =
       .next (s.wrote sf rd (b - a - BitVec.ofNat 32 d) (decide (a.toNat + d ≤ b.toNat))
         (overflows (b.toInt - a.toInt - d)))) ∧
  (∀ (cond rn : BitVec 4) (op2 : Operand2) (s : State),
     s.passes cond = true → s.room = true →
     let a := s.operand1 rn op2
     let b := (s.operand2 op2).value
     exec (.cmp cond rn 0#4 op2) s =
       .next (s.compared (a - b) (decide (b.toNat ≤ a.toNat)) (overflows (a.toInt - b.toInt))) ∧
     exec (.cmn cond rn 0#4 op2) s =
       .next (s.compared (a + b) (decide (2 ^ 32 ≤ a.toNat + b.toNat)) (overflows (a.toInt + b.toInt))))

/-- R283, R284, R537: with Rd = 15 the results of the twelve instructions that have one go to the pc. With S
= 0 nothing else changes, and a result that is not a multiple of 4 is refused. With S = 1 the form returns
from an exception: the whole CPSR comes from the SPSR of the current mode, and the pc is written as in the
restored state: in Thumb state without bit 0, in ARM state refused if it is not a multiple of 4 (U4);
without an SPSR, or with a saved mode that is none of the seven, it is refused. That the write is R284's and
not the mask of R537 is log 11; that the forms with R15 beside a register-specified shift run, Rd = 15 among
them, is log 12. -/
def Obligations.ResultsToThePc : Prop :=
  (∀ (cond rn : BitVec 4) (op2 : Operand2) (s : State),
     s.passes cond = true → s.thumb = false →
     let a := s.operand1 rn op2
     let b := (s.operand2 op2).value
     let c := BitVec.ofNat 32 s.flagC.toNat
     let d := BitVec.ofNat 32 (!s.flagC).toNat
     ∀ p ∈ ([(.and cond 0#1 rn 15#4 op2, a &&& b), (.eor cond 0#1 rn 15#4 op2, a ^^^ b),
         (.sub cond 0#1 rn 15#4 op2, a - b), (.rsb cond 0#1 rn 15#4 op2, b - a),
         (.add cond 0#1 rn 15#4 op2, a + b), (.adc cond 0#1 rn 15#4 op2, a + b + c),
         (.sbc cond 0#1 rn 15#4 op2, a - b - d), (.rsc cond 0#1 rn 15#4 op2, b - a - d),
         (.orr cond 0#1 rn 15#4 op2, a ||| b), (.mov cond 0#1 0#4 15#4 op2, b),
         (.bic cond 0#1 rn 15#4 op2, a &&& ~~~b), (.mvn cond 0#1 0#4 15#4 op2, ~~~b)] : List (Instr × Word)),
       (p.2.toNat % 4 = 0 → exec p.1 s = .next { s with pc := p.2 }) ∧
       (p.2.toNat % 4 ≠ 0 → exec p.1 s = .refused .pcUnaligned)) ∧
  (∀ (cond rn : BitVec 4) (op2 : Operand2) (s : State),
     s.passes cond = true →
     let a := s.operand1 rn op2
     let b := (s.operand2 op2).value
     let c := BitVec.ofNat 32 s.flagC.toNat
     let d := BitVec.ofNat 32 (!s.flagC).toNat
     let saved := s.spsrOf s.mode &&& 0xF00000FF#32
     ∀ p ∈ ([(.and cond 1#1 rn 15#4 op2, a &&& b), (.eor cond 1#1 rn 15#4 op2, a ^^^ b),
         (.sub cond 1#1 rn 15#4 op2, a - b), (.rsb cond 1#1 rn 15#4 op2, b - a),
         (.add cond 1#1 rn 15#4 op2, a + b), (.adc cond 1#1 rn 15#4 op2, a + b + c),
         (.sbc cond 1#1 rn 15#4 op2, a - b - d), (.rsc cond 1#1 rn 15#4 op2, b - a - d),
         (.orr cond 1#1 rn 15#4 op2, a ||| b), (.mov cond 1#1 0#4 15#4 op2, b),
         (.bic cond 1#1 rn 15#4 op2, a &&& ~~~b), (.mvn cond 1#1 0#4 15#4 op2, ~~~b)] : List (Instr × Word)),
       (s.mode = modeUsr ∨ s.mode = modeSys → exec p.1 s = .refused .noSpsr) ∧
       (modeHasSpsr s.mode = true → modeLegal (saved.extractLsb' 0 5) = false →
         exec p.1 s = .refused .badMode) ∧
       (modeHasSpsr s.mode = true → modeLegal (saved.extractLsb' 0 5) = true →
         (saved.getLsbD 5 = true → exec p.1 s = .next { s with cpsr := saved, pc := p.2 &&& 0xFFFFFFFE#32 }) ∧
         (saved.getLsbD 5 = false → p.2.toNat % 4 = 0 → exec p.1 s = .next { s with cpsr := saved, pc := p.2 }) ∧
         (saved.getLsbD 5 = false → p.2.toNat % 4 ≠ 0 → exec p.1 s = .refused .pcUnaligned)))

/-- MRS and MSR (R36, R280, R281, R521). MRS reads the CPSR with its reserved bits zero, or the SPSR of the
current mode. MSR to the CPSR: in User mode only bits 31:28 change, whatever the fields; in a privileged
mode, and in debug state in any mode (R581, R603), the flags with field f and the control byte with field c,
as long as the T bit stays and the mode is one of the seven. MSR to the SPSR of the current mode, by fields,
with bits 27:8 written as zero. In User and System mode, which have no SPSR, both forms of it are refused.
The cleared bits are the model's log 10. -/
def Obligations.StatusRegisterTransfers : Prop :=
  (∀ (cond rd : BitVec 4) (s : State),
     s.passes cond = true → rd ≠ 15#4 → s.room = true →
     exec (.mrs cond 0#1 15#4 rd 0#4 0#4) s =
       .next { s.setReg rd (s.cpsr &&& 0xF00000FF#32) with pc := s.pc + s.ilen } ∧
     (s.mode = modeFiq → exec (.mrs cond 1#1 15#4 rd 0#4 0#4) s =
       .next { s.setReg rd s.spsrFiq with pc := s.pc + s.ilen }) ∧
     (s.mode = modeIrq → exec (.mrs cond 1#1 15#4 rd 0#4 0#4) s =
       .next { s.setReg rd s.spsrIrq with pc := s.pc + s.ilen }) ∧
     (s.mode = modeSvc → exec (.mrs cond 1#1 15#4 rd 0#4 0#4) s =
       .next { s.setReg rd s.spsrSvc with pc := s.pc + s.ilen }) ∧
     (s.mode = modeAbt → exec (.mrs cond 1#1 15#4 rd 0#4 0#4) s =
       .next { s.setReg rd s.spsrAbt with pc := s.pc + s.ilen }) ∧
     (s.mode = modeUnd → exec (.mrs cond 1#1 15#4 rd 0#4 0#4) s =
       .next { s.setReg rd s.spsrUnd with pc := s.pc + s.ilen }) ∧
     (s.mode = modeUsr ∨ s.mode = modeSys → exec (.mrs cond 1#1 15#4 rd 0#4 0#4) s = .refused .noSpsr)) ∧
  (∀ (cond mask rm rot : BitVec 4) (imm8 : BitVec 8) (s : State),
     s.passes cond = true → rm ≠ 15#4 → s.room = true → s.cpsr &&& 0x0FFFFF00#32 = 0#32 →
     let free : Prop := s.mode ≠ modeUsr ∨ s.dbg.active = true
     ∀ p ∈ ([(.msrReg cond 0#1 mask 15#4 0#4 rm, s.reg rm),
         (.msrImm cond 0#1 mask 15#4 rot imm8, (rotImm rot imm8 s.flagC).value)] : List (Instr × Word)),
       let flags := if mask.getLsbD 3 then p.2.extractLsb' 28 4 else s.cpsr.extractLsb' 28 4
       let control := if mask.getLsbD 0 then p.2.extractLsb' 0 8 else s.cpsr.extractLsb' 0 8
       (¬ free →
         exec p.1 s =
           .next { s with cpsr := flags ++ 0#20 ++ s.cpsr.extractLsb' 0 8, pc := s.pc + s.ilen }) ∧
       (free → control.getLsbD 5 = s.thumb → modeLegal (control.extractLsb' 0 5) = true →
         exec p.1 s = .next { s with cpsr := flags ++ 0#20 ++ control, pc := s.pc + s.ilen }) ∧
       (free → control.getLsbD 5 ≠ s.thumb → exec p.1 s = .refused .msrThumb) ∧
       (free → control.getLsbD 5 = s.thumb → modeLegal (control.extractLsb' 0 5) = false →
         exec p.1 s = .refused .badMode)) ∧
  (∀ (cond mask rm rot : BitVec 4) (imm8 : BitVec 8) (s : State),
     s.passes cond = true → rm ≠ 15#4 → s.room = true →
     ∀ p ∈ ([(.msrReg cond 1#1 mask 15#4 0#4 rm, s.reg rm),
         (.msrImm cond 1#1 mask 15#4 rot imm8, (rotImm rot imm8 s.flagC).value)] : List (Instr × Word)),
       let new (old : Word) : Word :=
         (if mask.getLsbD 3 then p.2.extractLsb' 28 4 else old.extractLsb' 28 4) ++ 0#20 ++
           (if mask.getLsbD 0 then p.2.extractLsb' 0 8 else old.extractLsb' 0 8)
       (s.mode = modeFiq → exec p.1 s = .next { s with spsrFiq := new s.spsrFiq, pc := s.pc + s.ilen }) ∧
       (s.mode = modeIrq → exec p.1 s = .next { s with spsrIrq := new s.spsrIrq, pc := s.pc + s.ilen }) ∧
       (s.mode = modeSvc → exec p.1 s = .next { s with spsrSvc := new s.spsrSvc, pc := s.pc + s.ilen }) ∧
       (s.mode = modeAbt → exec p.1 s = .next { s with spsrAbt := new s.spsrAbt, pc := s.pc + s.ilen }) ∧
       (s.mode = modeUnd → exec p.1 s = .next { s with spsrUnd := new s.spsrUnd, pc := s.pc + s.ilen }) ∧
       (s.mode = modeUsr ∨ s.mode = modeSys → exec p.1 s = .refused .noSpsr))

/-- MUL and MLA (R300, R301): the low 32 bits of the product (and sum). UMULL, UMLAL, SMULL and SMLAL (R302
to R305): the exact product, plus the old RdHi and RdLo for the accumulating forms, modulo `2^64`. With S =
1 N and Z of the result, C some bit, and V as it was or, for the long forms, some bit (R306). The open bits
are free (log 19). -/
def Obligations.Multiplies : Prop :=
  (∀ (cond rd rn rs rm : BitVec 4) (s : State),
     s.passes cond = true → rd ≠ 15#4 → rs ≠ 15#4 → rm ≠ 15#4 → rd ≠ rm → s.room = true →
     let p : Word := BitVec.ofNat 32 ((s.reg rm).toNat * (s.reg rs).toNat)
     let q : Word := BitVec.ofNat 32 ((s.reg rm).toNat * (s.reg rs).toNat + (s.reg rn).toNat)
     exec (.mul cond 0#1 rd 0#4 rs rm) s = .next (s.wrote 0#1 rd p false false) ∧
     (∃ c : Bool, exec (.mul cond 1#1 rd 0#4 rs rm) s =
       .next { s.wrote 1#1 rd p c s.flagV with draws := s.draws + 1 }) ∧
     (rn ≠ 15#4 → exec (.mla cond 0#1 rd rn rs rm) s = .next (s.wrote 0#1 rd q false false)) ∧
     (rn ≠ 15#4 → ∃ c : Bool, exec (.mla cond 1#1 rd rn rs rm) s =
       .next { s.wrote 1#1 rd q c s.flagV with draws := s.draws + 1 })) ∧
  (∀ (cond rdHi rdLo rs rm : BitVec 4) (s : State),
     s.passes cond = true → rdHi ≠ 15#4 → rdLo ≠ 15#4 → rs ≠ 15#4 → rm ≠ 15#4 →
     rdHi ≠ rdLo → rdHi ≠ rm → rdLo ≠ rm → s.room = true →
     let acc : Nat := (s.reg rdHi).toNat * 2 ^ 32 + (s.reg rdLo).toNat
     let u : Nat := (s.reg rm).toNat * (s.reg rs).toNat
     let i : Int := (s.reg rm).toInt * (s.reg rs).toInt
     ∀ p ∈ ([(fun sf => .umull cond sf rdHi rdLo rs rm, BitVec.ofNat 64 u),
         (fun sf => .umlal cond sf rdHi rdLo rs rm, BitVec.ofNat 64 (u + acc)),
         (fun sf => .smull cond sf rdHi rdLo rs rm, BitVec.ofInt 64 i),
         (fun sf => .smlal cond sf rdHi rdLo rs rm, BitVec.ofInt 64 (i + acc))] :
           List ((BitVec 1 → Instr) × BitVec 64)),
       let hi : Word := p.2.extractLsb' 32 32
       let lo : Word := p.2.extractLsb' 0 32
       exec (p.1 0#1) s = .next { (s.setReg rdLo lo).setReg rdHi hi with pc := s.pc + s.ilen } ∧
       ∃ c v : Bool, exec (p.1 1#1) s =
         .next { (((s.setFlags (p.2.getLsbD 63) (p.2 == 0#64) c v).setReg rdLo lo).setReg rdHi hi) with
           pc := s.pc + s.ilen
           draws := s.draws + 1 })

/-! ARM branches, SWI and the undefined instructions. -/

/-- B and BL (R218, R365, R366): the address of the instruction plus 8 plus four times the signed immediate,
and R14 for BL; a target outside the address space is refused. BX (R367): bit 0 of the register becomes T
and the address without it the pc; bit 1 set with bit 0 clear is refused, as are R15 and should-be-one bits
that are not one. The refusals are those of log 14 and log 16. -/
def Obligations.BranchesAndExchange : Prop :=
  (∀ (cond : BitVec 4) (imm24 : BitVec 24) (s : State),
     s.passes cond = true →
     let target : Int := s.pc.toNat + 8 + 4 * imm24.toInt
     (0 ≤ target ∧ target < 2 ^ 32 →
       exec (.b cond imm24) s = .next { s with pc := BitVec.ofInt 32 target } ∧
       exec (.bl cond imm24) s = .next { s.setReg 14#4 (s.pc + 4#32) with pc := BitVec.ofInt 32 target }) ∧
     (target < 0 ∨ 2 ^ 32 ≤ target →
       exec (.b cond imm24) s = .refused .addressWrap ∧ exec (.bl cond imm24) s = .refused .addressWrap)) ∧
  (∀ (cond a b c rm : BitVec 4) (s : State),
     s.passes cond = true →
     let v := s.reg rm
     (a = 15#4 → b = 15#4 → c = 15#4 → rm ≠ 15#4 → v.toNat % 4 ≠ 2 →
       exec (.bx cond a b c rm) s =
         .next { s with
           cpsr := s.cpsr.extractLsb' 6 26 ++ v.extractLsb' 0 1 ++ s.cpsr.extractLsb' 0 5
           pc := BitVec.ofNat 32 (2 * (v.toNat / 2)) }) ∧
     (a = 15#4 → b = 15#4 → c = 15#4 → rm ≠ 15#4 → v.toNat % 4 = 2 →
       exec (.bx cond a b c rm) s = .refused .bxTarget) ∧
     (a ≠ 15#4 ∨ b ≠ 15#4 ∨ c ≠ 15#4 → exec (.bx cond a b c rm) s = .refused .shouldBe) ∧
     (a = 15#4 → b = 15#4 → c = 15#4 → rm = 15#4 → exec (.bx cond a b c rm) s = .refused .r15Operand))

/-- SWI in both instruction sets (R368, R509, R527) and the undefined instructions of both (R369, R513,
R526): the entry of R530 with the address of the next instruction in R14. -/
def Obligations.SoftwareAndUndefinedExceptions : Prop :=
  (∀ (cond : BitVec 4) (imm24 : BitVec 24) (imm8 : BitVec 8) (s : State),
     s.undebugged = true →
     (s.passes cond = true →
       exec (.swi cond imm24) s =
         .next (s.entered modeSvc (s.pc + s.ilen) 0x08#32 (s.cpsr.extractLsb' 6 1))) ∧
     exec (.tSwi imm8) s = .next (s.entered modeSvc (s.pc + s.ilen) 0x08#32 (s.cpsr.extractLsb' 6 1))) ∧
  (∀ (cond low : BitVec 4) (x1 y1 : BitVec 1) (x2 y2 : BitVec 2) (x3 : BitVec 3) (x4 : BitVec 4) (r12 : BitVec 12)
     (r20 : BitVec 20) (t8 : BitVec 8) (t9 : BitVec 9) (t10 : BitVec 10) (t11 : BitVec 11) (s : State),
     s.undebugged = true →
     let taken := s.entered modeUnd (s.pc + s.ilen) 0x04#32 (s.cpsr.extractLsb' 6 1)
     (s.passes cond = true →
       ∀ i ∈ ([.undControlImm cond x1 r20, .undControlOne cond x1 r12 low, .undControlOneR cond r12 low,
           .undControlHigh cond x2 r12 x1 y1 low, .undControlLow cond x2 r12 x1 low,
           .undControlEven cond x2 r12 y2 low, .undMultiply cond x2 r12 low, .undSwapHigh cond x3 r12 low,
           .undSwapOdd cond x2 r12 low, .undSwapEven cond x1 r12 low, .undSignedStore cond x4 r12 x1 low,
           .undSpace cond r20 low, .undCoproc cond x1 y1 r20] : List Instr),
         exec i s = .next taken) ∧
     ∀ i ∈ ([.tUndB1 t8, .tUndB2 t9, .tUndB6 t9, .tUndB8 t10, .tUndBE t9, .tUndCond t8, .tUndE8 t11] : List Instr),
       exec i s = .next taken)

/-! ARM loads, stores and swaps. -/

/-- LDR and LDRB with offset, pre-indexed and post-indexed addressing, LDRT and LDRBT (R214, R320, R321,
R323, R325, R327) where every access is one external transfer: the word at the address, rotated by its low
bits, or the byte; the base with writeback; a loaded R15 goes to the pc without its low bits. -/
def Obligations.LoadsOfWordsAndBytes : Prop :=
  (∀ (cond : BitVec 4) (u w : BitVec 1) (rn rd : BitVec 4) (off : Offset2) (s : State),
     s.passes cond = true → s.direct = true → s.room = true → offsetReg2 off ≠ some 15#4 →
     (w = 1#1 → rn ≠ 15#4 ∧ offsetReg2 off ≠ some rn ∧ rd ≠ rn) →
     let a := if u = 1#1 then s.reg rn + s.offset2 off else s.reg rn - s.offset2 off
     let t := if w = 1#1 then s.setReg rn a else s
     let v := (memWord s.mem a).rotateRight (8 * (a.toNat % 4))
     (rd ≠ 15#4 → exec (.ldr cond u w rn rd off) s = .next { t.setReg rd v with pc := s.pc + s.ilen }) ∧
     (rd = 15#4 → exec (.ldr cond u w rn rd off) s = .next { t with pc := v &&& 0xFFFFFFFC#32 }) ∧
     (rd ≠ 15#4 →
       exec (.ldrb cond u w rn rd off) s =
         .next { t.setReg rd (s.memItem .byte a) with pc := s.pc + s.ilen }) ∧
     (rd = 15#4 → exec (.ldrb cond u w rn rd off) s = .refused .r15Operand)) ∧
  (∀ (cond : BitVec 4) (u : BitVec 1) (rn rd : BitVec 4) (off : Offset2) (s : State),
     s.passes cond = true → s.direct = true → s.room = true → offsetReg2 off ≠ some 15#4 →
     rn ≠ 15#4 → offsetReg2 off ≠ some rn → rd ≠ rn →
     let a := s.reg rn
     let t := s.setReg rn (if u = 1#1 then a + s.offset2 off else a - s.offset2 off)
     let v := (memWord s.mem a).rotateRight (8 * (a.toNat % 4))
     (rd ≠ 15#4 →
       exec (.ldrPost cond u rn rd off) s = .next { t.setReg rd v with pc := s.pc + s.ilen } ∧
       exec (.ldrt cond u rn rd off) s = .next { t.setReg rd v with pc := s.pc + s.ilen } ∧
       exec (.ldrbPost cond u rn rd off) s =
         .next { t.setReg rd (s.memItem .byte a) with pc := s.pc + s.ilen } ∧
       exec (.ldrbt cond u rn rd off) s =
         .next { t.setReg rd (s.memItem .byte a) with pc := s.pc + s.ilen }) ∧
     (rd = 15#4 →
       exec (.ldrPost cond u rn rd off) s = .next { t with pc := v &&& 0xFFFFFFFC#32 } ∧
       exec (.ldrt cond u rn rd off) s = .refused .r15Operand ∧
       exec (.ldrbPost cond u rn rd off) s = .refused .r15Operand ∧
       exec (.ldrbt cond u rn rd off) s = .refused .r15Operand))

/-- STR, STRB and their post-indexed and T forms (R214, R320, R322, R324, R326, R328) where every access is
one external transfer: the lanes of the address take the register (R15 stores the address of the instruction
plus 12), the base is written where the form writes it, and no other register or byte changes. STRT of R15
is the model's log 15. -/
def Obligations.StoresOfWordsAndBytes : Prop :=
  ∀ (cond : BitVec 4) (u w : BitVec 1) (rn rd : BitVec 4) (off : Offset2) (s : State),
    s.passes cond = true → s.direct = true → s.room = true → offsetReg2 off ≠ some 15#4 →
    let v := if rd = 15#4 then s.pc + 12#32 else s.reg rd
    let target := if u = 1#1 then s.reg rn + s.offset2 off else s.reg rn - s.offset2 off
    let wb := { s.setReg rn target with pc := s.pc + s.ilen }
    ((w = 1#1 → rn ≠ 15#4 ∧ offsetReg2 off ≠ some rn ∧ rd ≠ rn) →
      let t := if w = 1#1 then wb else s.stepped
      exec (.str cond u w rn rd off) s = .next { t with mem := s.memStored .word target v } ∧
      (rd ≠ 15#4 → exec (.strb cond u w rn rd off) s = .next { t with mem := s.memStored .byte target v }) ∧
      (rd = 15#4 → exec (.strb cond u w rn rd off) s = .refused .r15Operand)) ∧
    (rn ≠ 15#4 → offsetReg2 off ≠ some rn → rd ≠ rn →
      exec (.strPost cond u rn rd off) s = .next { wb with mem := s.memStored .word (s.reg rn) v } ∧
      exec (.strt cond u rn rd off) s = .next { wb with mem := s.memStored .word (s.reg rn) v } ∧
      (rd ≠ 15#4 →
        exec (.strbPost cond u rn rd off) s = .next { wb with mem := s.memStored .byte (s.reg rn) v } ∧
        exec (.strbt cond u rn rd off) s = .next { wb with mem := s.memStored .byte (s.reg rn) v }) ∧
      (rd = 15#4 →
        exec (.strbPost cond u rn rd off) s = .refused .r15Operand ∧
        exec (.strbt cond u rn rd off) s = .refused .r15Operand))

/-- LDRH, LDRSB, LDRSH and STRH (R215, R329 to R333) where every access is one external transfer: zero- or
sign-extended items, and the halfword stored; an odd halfword address is refused. -/
def Obligations.HalfwordAndSignedTransfers : Prop :=
  ∀ (cond : BitVec 4) (p u w : BitVec 1) (rn rd : BitVec 4) (off : Offset3) (s : State),
    s.passes cond = true → s.direct = true → s.room = true → rd ≠ 15#4 → offsetReg3 off ≠ some 15#4 →
    (∀ sbz rm, off = .reg sbz rm → sbz = 0#4) → (p = 0#1 → w = 0#1) →
    (p = 0#1 ∨ w = 1#1 → rn ≠ 15#4 ∧ offsetReg3 off ≠ some rn ∧ rd ≠ rn) →
    let target := if u = 1#1 then s.reg rn + s.offset3 off else s.reg rn - s.offset3 off
    let a := if p = 1#1 then target else s.reg rn
    let t := if p = 0#1 ∨ w = 1#1 then s.setReg rn target else s
    exec (.ldrsb cond p u w rn rd off) s =
      .next { t.setReg rd (((s.memItem .byte a).extractLsb' 0 8).signExtend 32) with pc := s.pc + s.ilen } ∧
    (a.toNat % 2 = 0 →
      exec (.ldrh cond p u w rn rd off) s =
        .next { t.setReg rd (s.memItem .half a) with pc := s.pc + s.ilen } ∧
      exec (.ldrsh cond p u w rn rd off) s =
        .next { t.setReg rd (((s.memItem .half a).extractLsb' 0 16).signExtend 32) with pc := s.pc + s.ilen } ∧
      exec (.strh cond p u w rn rd off) s =
        .next { t with mem := s.memStored .half a (s.reg rd), pc := s.pc + s.ilen }) ∧
    (a.toNat % 2 = 1 →
      exec (.ldrh cond p u w rn rd off) s = .refused .oddHalfword ∧
      exec (.ldrsh cond p u w rn rd off) s = .refused .oddHalfword ∧
      exec (.strh cond p u w rn rd off) s = .refused .oddHalfword)

/-- SWP and SWPB (R334, R335) where every access is one external transfer: the old item goes to Rd and Rm to
its place, also with Rd = Rm. -/
def Obligations.SwapExchanges : Prop :=
  ∀ (cond rn rd rm : BitVec 4) (s : State),
    s.passes cond = true → s.direct = true → s.room = true →
    rn ≠ 15#4 → rd ≠ 15#4 → rm ≠ 15#4 → rn ≠ rd → rn ≠ rm →
    let a := s.reg rn
    exec (.swp cond rn rd 0#4 rm) s =
      .next { s.setReg rd ((memWord s.mem a).rotateRight (8 * (a.toNat % 4))) with
        mem := s.memStored .word a (s.reg rm)
        pc := s.pc + s.ilen } ∧
    exec (.swpb cond rn rd 0#4 rm) s =
      .next { s.setReg rd (s.memItem .byte a) with
        mem := s.memStored .byte a (s.reg rm)
        pc := s.pc + s.ilen }

/-- Forms of the ARM instructions that the spec calls UNPREDICTABLE (R36, R214, R215, R237, R280, R281,
R306, R320, R329, R334, R350, R352 to R355): a should-be field that is not as it should be; R15 where it may
not stand; registers that must differ, a base and its destination among them; the SPSR of a mode that has
none; and the forms of a block transfer. Where its condition passes, each form listed is refused by name
(log 16). Two UNPREDICTABLE forms run instead and are not listed: STRT of R15 (log 15) and R15 beside a
register-specified shift (log 12). -/
def Obligations.UnpredictableForms : Prop :=
  ∀ (cond rn rd ra rs rm x y z rot : BitVec 4) (sf r p u w : BitVec 1) (imm8 : BitVec 8) (op2 : Operand2)
    (off : Offset2) (n : BitVec 5) (ty : BitVec 2) (list : BitVec 16) (low : BitVec 15) (s : State),
    s.passes cond = true →
    let refused (e : Refusal) (l : List Instr) : Prop := ∀ i ∈ l, exec i s = .refused e
    (x ≠ 0#4 →
      refused .shouldBe
        [.mov cond sf x rd op2, .mvn cond sf x rd op2, .tst cond rn x op2, .teq cond rn x op2, .cmp cond rn x op2,
          .cmn cond rn x op2, .mul cond sf rd x rs rm, .swp cond rn rd x rm, .swpb cond rn rd x rm,
          .mrs cond r y rd x z, .mrs cond r y rd z x, .msrReg cond r y z x rm, .ldrh cond p u w rn rd (.reg x rm),
          .ldrsb cond p u w rn rd (.reg x rm), .ldrsh cond p u w rn rd (.reg x rm),
          .strh cond p u w rn rd (.reg x rm)]) ∧
    (x ≠ 15#4 →
      refused .shouldBe [.mrs cond r x rd y z, .msrReg cond r y x z rm, .msrImm cond r y x rot imm8]) ∧
    refused .r15Operand
      [.mrs cond r 15#4 15#4 0#4 0#4, .msrReg cond r y 15#4 0#4 15#4, .mul cond sf 15#4 0#4 rs rm,
        .mul cond sf rd 0#4 15#4 rm, .mul cond sf rd 0#4 rs 15#4, .mla cond sf 15#4 ra rs rm,
        .mla cond sf rd 15#4 rs rm, .mla cond sf rd ra 15#4 rm, .mla cond sf rd ra rs 15#4,
        .swp cond 15#4 rd 0#4 rm, .swp cond rn 15#4 0#4 rm, .swp cond rn rd 0#4 15#4, .swpb cond 15#4 rd 0#4 rm,
        .swpb cond rn 15#4 0#4 rm, .swpb cond rn rd 0#4 15#4] ∧
    (∀ long ∈ ([.umull cond sf, .umlal cond sf, .smull cond sf, .smlal cond sf] :
        List (BitVec 4 → BitVec 4 → BitVec 4 → BitVec 4 → Instr)),
      refused .r15Operand [long 15#4 ra rs rm, long rd 15#4 rs rm, long rd ra 15#4 rm, long rd ra rs 15#4] ∧
      (x ≠ 15#4 → y ≠ 15#4 → z ≠ 15#4 →
        refused .registerClash [long x x y z, long x y z x, long y x z x])) ∧
    (x ≠ 15#4 → y ≠ 15#4 → z ≠ 15#4 →
      refused .registerClash
        [.mul cond sf x 0#4 y x, .mla cond sf x y z x, .swp cond x x 0#4 y, .swpb cond x x 0#4 y,
          .swp cond x y 0#4 x, .swpb cond x y 0#4 x]) ∧
    refused .indexMode
      [.ldrh cond 0#1 u 1#1 rn rd (.imm x y), .ldrh cond 0#1 u 1#1 rn rd (.reg 0#4 rm),
        .ldrsb cond 0#1 u 1#1 rn rd (.imm x y), .ldrsb cond 0#1 u 1#1 rn rd (.reg 0#4 rm),
        .ldrsh cond 0#1 u 1#1 rn rd (.imm x y), .ldrsh cond 0#1 u 1#1 rn rd (.reg 0#4 rm),
        .strh cond 0#1 u 1#1 rn rd (.imm x y), .strh cond 0#1 u 1#1 rn rd (.reg 0#4 rm)] ∧
    (∀ q ∈ ([(.ldrh cond), (.ldrsb cond), (.ldrsh cond), (.strh cond)] :
        List (BitVec 1 → BitVec 1 → BitVec 1 → BitVec 4 → BitVec 4 → Offset3 → Instr)),
      refused .r15Operand
        [q 1#1 u w rn 15#4 (.imm x y), q 0#1 u 0#1 rn 15#4 (.imm x y), q 1#1 u w rn 15#4 (.reg 0#4 rm),
          q 0#1 u 0#1 rn 15#4 (.reg 0#4 rm), q 1#1 u w rn rd (.reg 0#4 15#4), q 0#1 u 0#1 rn rd (.reg 0#4 15#4),
          q 1#1 u 1#1 15#4 rd (.imm x y), q 0#1 u 0#1 15#4 rd (.imm x y), q 1#1 u 1#1 15#4 rd (.reg 0#4 rm),
          q 0#1 u 0#1 15#4 rd (.reg 0#4 rm)] ∧
      (rn ≠ 15#4 → rd ≠ 15#4 →
        refused .registerClash [q 1#1 u 1#1 rn rd (.reg 0#4 rn), q 0#1 u 0#1 rn rd (.reg 0#4 rn)]) ∧
      (rn ≠ 15#4 → rm ≠ 15#4 →
        refused .registerClash
          [q 1#1 u 1#1 rn rn (.imm x y), q 0#1 u 0#1 rn rn (.imm x y), q 1#1 u 1#1 rn rn (.reg 0#4 rm),
            q 0#1 u 0#1 rn rn (.reg 0#4 rm)])) ∧
    (∀ q ∈ ([(.ldr cond u, .ldrPost cond u, .ldrt cond u), (.ldrb cond u, .ldrbPost cond u, .ldrbt cond u),
        (.str cond u, .strPost cond u, .strt cond u), (.strb cond u, .strbPost cond u, .strbt cond u)] :
        List ((BitVec 1 → BitVec 4 → BitVec 4 → Offset2 → Instr) × (BitVec 4 → BitVec 4 → Offset2 → Instr) ×
          (BitVec 4 → BitVec 4 → Offset2 → Instr))),
      refused .r15Operand
        [q.1 w rn rd (.reg n ty 15#4), q.2.1 rn rd (.reg n ty 15#4), q.2.2 rn rd (.reg n ty 15#4),
          q.1 1#1 15#4 rd off, q.2.1 15#4 rd off, q.2.2 15#4 rd off] ∧
      (rn ≠ 15#4 → rd ≠ 15#4 →
        refused .registerClash
          [q.1 1#1 rn rd (.reg n ty rn), q.2.1 rn rd (.reg n ty rn), q.2.2 rn rd (.reg n ty rn)]) ∧
      (rn ≠ 15#4 → offsetReg2 off ≠ some 15#4 →
        refused .registerClash [q.1 1#1 rn rn off, q.2.1 rn rn off, q.2.2 rn rn off])) ∧
    refused .r15Operand
      [.ldrb cond u w rn 15#4 off, .ldrbPost cond u rn 15#4 off, .ldrt cond u rn 15#4 off, .ldrbt cond u rn 15#4 off,
        .strb cond u w rn 15#4 off, .strbPost cond u rn 15#4 off, .strbt cond u rn 15#4 off] ∧
    refused .blockForm
      [.ldm cond p u w rn 0#16, .ldm cond p u w 15#4 list, .ldmUser cond p u w rn 0#15, .ldmUser cond p u w 15#4 low,
        .ldmRestore cond p u w 15#4 low, .stm cond p u w rn 0#16, .stm cond p u w 15#4 list,
        .stmUser cond p u w rn 0#16, .stmUser cond p u w 15#4 list, .ldmUser cond p u 1#1 rn low,
        .stmUser cond p u 1#1 rn list] ∧
    (list.getLsbD rn.toNat = true → refused .blockForm [.ldm cond p u 1#1 rn list]) ∧
    (list.getLsbD rn.toNat = true → (∃ j, j < rn.toNat ∧ list.getLsbD j = true) →
      refused .blockForm [.stm cond p u 1#1 rn list]) ∧
    (low.getLsbD rn.toNat = true → refused .blockForm [.ldmRestore cond p u 1#1 rn low]) ∧
    (s.mode = modeUsr ∨ s.mode = modeSys →
      refused .blockForm [.ldmUser cond p u w rn low, .stmUser cond p u w rn list] ∧
      (rd ≠ 15#4 → refused .noSpsr [.mrs cond 1#1 15#4 rd 0#4 0#4]) ∧
      (rm ≠ 15#4 → refused .noSpsr [.msrReg cond 1#1 y 15#4 0#4 rm, .msrImm cond 1#1 y 15#4 rot imm8]) ∧
      (rn ≠ 15#4 → low.getLsbD rn.toNat = false → refused .noSpsr [.ldmRestore cond p u w rn low]))

/-- R104, R105: what `memItem` and `memStored` mean in the two byte orders. The item is the named bits of
the word, and a store changes those bits of that word and no byte elsewhere. -/
def Obligations.ByteLanesOfBothOrders : Prop :=
  ∀ (s : State) (a v : Word),
    s.mem.wf = true →
    let big := s.cp15.b
    let k := if big then 3 - a.toNat % 4 else a.toNat % 4
    let h := if big then 1 - a.toNat / 2 % 2 else a.toNat / 2 % 2
    s.memItem .word a = memWord s.mem a ∧
    s.memItem .half a = ((memWord s.mem a).extractLsb' (16 * h) 16).zeroExtend 32 ∧
    s.memItem .byte a = ((memWord s.mem a).extractLsb' (8 * k) 8).zeroExtend 32 ∧
    memWord (s.memStored .word a v) a = v ∧
    (∀ i, i < 32 →
      (memWord (s.memStored .half a v) a).getLsbD i =
        if i / 16 = h then v.getLsbD (i % 16) else (memWord s.mem a).getLsbD i) ∧
    (∀ i, i < 32 →
      (memWord (s.memStored .byte a v) a).getLsbD i =
        if i / 8 = k then v.getLsbD (i % 8) else (memWord s.mem a).getLsbD i) ∧
    (∀ sz b, wordAddr b ≠ wordAddr a → memWord (s.memStored sz a v) b = memWord s.mem b)

/-! ARM block transfers.  Register `i` of a list is transferred at `slotAddr start list i`. -/

/-- LDM (1), (2) and (3) (R216, R350 to R353, R537) where every access is one external transfer: every
listed register, of the mode or of the User bank, takes its word; with W = 1 the base is written back; LDM
(1) sends a listed R15 to the pc without its low bits; LDM (3) restores the CPSR from the SPSR of the mode
and masks the pc for the restored state; no other register changes. -/
def Obligations.LoadMultiple : Prop :=
  (∀ (cond : BitVec 4) (p u w : BitVec 1) (rn : BitVec 4) (list : BitVec 16) (s : State),
     s.passes cond = true → s.direct = true → s.room = true → list ≠ 0#16 → rn ≠ 15#4 →
     (w = 1#1 → list.getLsbD rn.toNat = false) →
     let start := blockFirst p u (s.reg rn) list
     let word := fun i : BitVec 4 => memWord s.mem (slotAddr start list i.toNat)
     ∃ regs : RegFile,
       exec (.ldm cond p u w rn list) s =
         .next { s with
           regs := regs
           pc := if list.getLsbD 15 then word 15#4 &&& 0xFFFFFFFC#32 else s.pc + s.ilen } ∧
       (∀ i : BitVec 4, i ≠ 15#4 → list.getLsbD i.toNat = true → regs[regIndex s.mode i] = word i) ∧
       (w = 1#1 → regs[regIndex s.mode rn] = blockAfter u (s.reg rn) list) ∧
       (∀ k : Fin 30, (∀ i : BitVec 4, i ≠ 15#4 → list.getLsbD i.toNat = true → regIndex s.mode i ≠ k) →
         (w = 1#1 → regIndex s.mode rn ≠ k) → regs[k] = s.regs[k])) ∧
  (∀ (cond : BitVec 4) (p u : BitVec 1) (rn : BitVec 4) (list : BitVec 15) (s : State),
     s.passes cond = true → s.direct = true → s.room = true → list ≠ 0#15 → rn ≠ 15#4 →
     s.mode ≠ modeUsr → s.mode ≠ modeSys →
     let start := blockFirst p u (s.reg rn) (0#1 ++ list)
     ∃ regs : RegFile,
       exec (.ldmUser cond p u 0#1 rn list) s = .next { s with regs := regs, pc := s.pc + s.ilen } ∧
       (∀ i : BitVec 4, i ≠ 15#4 → list.getLsbD i.toNat = true →
         regs[regIndex modeUsr i] = memWord s.mem (slotAddr start (0#1 ++ list) i.toNat)) ∧
       (∀ k : Fin 30, (∀ i : BitVec 4, i ≠ 15#4 → list.getLsbD i.toNat = true → regIndex modeUsr i ≠ k) →
         regs[k] = s.regs[k])) ∧
  (∀ (cond : BitVec 4) (p u w : BitVec 1) (rn : BitVec 4) (list : BitVec 15) (s : State),
     s.passes cond = true → s.direct = true → rn ≠ 15#4 → (w = 1#1 → list.getLsbD rn.toNat = false) →
     modeHasSpsr s.mode = true →
     let saved := s.spsrOf s.mode &&& 0xF00000FF#32
     modeLegal (saved.extractLsb' 0 5) = true →
     let start := blockFirst p u (s.reg rn) (1#1 ++ list)
     let word := fun i : Nat => memWord s.mem (slotAddr start (1#1 ++ list) i)
     ∃ regs : RegFile,
       exec (.ldmRestore cond p u w rn list) s =
         .next { s with
           regs := regs
           cpsr := saved
           pc := if saved.getLsbD 5 then word 15 &&& 0xFFFFFFFE#32 else word 15 &&& 0xFFFFFFFC#32 } ∧
       (∀ i : BitVec 4, i ≠ 15#4 → list.getLsbD i.toNat = true → regs[regIndex s.mode i] = word i.toNat) ∧
       (w = 1#1 → regs[regIndex s.mode rn] = blockAfter u (s.reg rn) (1#1 ++ list)) ∧
       (∀ k : Fin 30, (∀ i : BitVec 4, i ≠ 15#4 → list.getLsbD i.toNat = true → regIndex s.mode i ≠ k) →
         (w = 1#1 → regIndex s.mode rn ≠ k) → regs[k] = s.regs[k]))

/-- STM (1) and STM (2) (R216, R350, R354, R355) where every access is one external transfer: each listed
register is in the word of its slot, no other word of memory and no register but the base changes. With
writeback, a listed base must be the lowest listed register. -/
def Obligations.StoreMultiple : Prop :=
  ∀ (cond : BitVec 4) (p u w : BitVec 1) (rn : BitVec 4) (list : BitVec 16) (s : State),
    s.passes cond = true → s.direct = true → s.room = true → s.mem.wf = true → list ≠ 0#16 → rn ≠ 15#4 →
    let start := blockFirst p u (s.reg rn) list
    let outside := fun a : Word => ∀ i, i < 16 → list.getLsbD i = true → wordAddr (slotAddr start list i) ≠ wordAddr a
    ((w = 1#1 → list.getLsbD rn.toNat = true → ∀ j, j < rn.toNat → list.getLsbD j = false) → ∃ mem : Memory,
      exec (.stm cond p u w rn list) s =
        .next { (if w = 1#1 then s.setReg rn (blockAfter u (s.reg rn) list) else s) with
          mem := mem, pc := s.pc + s.ilen } ∧
      (∀ i : BitVec 4, list.getLsbD i.toNat = true →
        memWord mem (slotAddr start list i.toNat) = if i = 15#4 then s.pc + 12#32 else s.reg i) ∧
      (∀ a, outside a → memWord mem a = memWord s.mem a)) ∧
    (s.mode ≠ modeUsr → s.mode ≠ modeSys →
      ∃ mem : Memory,
        exec (.stmUser cond p u 0#1 rn list) s = .next { s with mem := mem, pc := s.pc + s.ilen } ∧
        (∀ i : BitVec 4, list.getLsbD i.toNat = true →
          memWord mem (slotAddr start list i.toNat) =
            if i = 15#4 then s.pc + 12#32 else s.bankGet modeUsr i) ∧
        (∀ a, outside a → memWord mem a = memWord s.mem a))

/-! Coprocessor instructions, CP15 and CP14. -/

/-- R380, R386 to R388: a coprocessor instruction that no coprocessor answers, or that is answered ABSENT,
is the Undefined Instruction exception; answered WAIT it changes nothing else and is held, to be offered
again in the next step. WAIT as a step of its own is the model's log 32. -/
def Obligations.CoprocessorAbsentOrWaiting : Prop :=
  ∀ (cond op4 crn rd cp crm : BitVec 4) (op1 op2 : BitVec 3) (u n w : BitVec 1) (imm8 : BitVec 8) (s : State)
    (rest : List CpAnswer),
    s.passes cond = true → s.undebugged = true →
    ∀ i ∈ ([.cdp cond op4 crn rd cp op2 crm, .ldcPre cond u n w crn rd cp imm8, .ldcUp cond n w crn rd cp imm8,
        .ldcDown cond n crn rd cp imm8, .stcPre cond u n w crn rd cp imm8, .stcUp cond n w crn rd cp imm8,
        .stcDown cond n crn rd cp imm8] ++
        (if cp = 14#4 ∨ cp = 15#4 then []
          else [.mcr cond op1 crn rd cp op2 crm, .mrc cond op1 crn rd cp op2 crm]) : List Instr),
      let undefined := s.entered modeUnd (s.pc + s.ilen) 0x04#32 (s.cpsr.extractLsb' 6 1)
      (cp = 14#4 ∨ cp = 15#4 ∨ s.attached.getLsbD cp.toNat = false → exec i s = .next undefined) ∧
      (s.attached.getLsbD cp.toNat = true → s.cpAnswers = .absent :: rest →
        exec i s = .next { undefined with cpAnswers := rest, draws := s.draws + 1 }) ∧
      (s.attached.getLsbD cp.toNat = true → s.cpAnswers = .wait :: rest →
        exec i s = .next { s with cpAnswers := rest, draws := s.draws + 1, busy := some (codeWord i) })

/-- CDP, and MCR, MRC, LDC and STC of an external coprocessor (R217, R381 to R386), once accepted: the
coprocessor's state changes by its own function, or Rd takes its value; with Rd = 15 an MRC writes the flags
and an MCR is refused. LDC and STC, where every access is one external transfer, pass the `n` words from the
word address on, one after the other; the base is written in the forms with writeback, which are refused for
R15. The functions of a coprocessor are constants of Config (log 32). -/
def Obligations.CoprocessorTransfers : Prop :=
  (∀ (cond op4 crn rd cp crm : BitVec 4) (op1 op2 : BitVec 3) (n : Nat) (s : State) (rest : List CpAnswer),
     s.passes cond = true → s.room = true → s.attached.getLsbD cp.toNat = true →
     s.cpAnswers = .accept n :: rest →
     let t := { s with cpAnswers := rest, draws := s.draws + 1, pc := s.pc + s.ilen }
     let put (v : Nat) : State := { t with cpState := s.cpState.setIfInBounds cp.toNat v }
     let cdp : Instr := .cdp cond op4 crn rd cp op2 crm
     let mcr : Instr := .mcr cond op1 crn rd cp op2 crm
     let mrc : Instr := .mrc cond op1 crn rd cp op2 crm
     let v := Config.cpMrc cp.toNat (codeWord mrc) (s.cpStateOf cp)
     exec cdp s = .next (put (Config.cpCdp cp.toNat (codeWord cdp) (s.cpStateOf cp))) ∧
     (rd ≠ 15#4 →
       exec mcr s = .next (put (Config.cpMcr cp.toNat (codeWord mcr) (s.reg rd) (s.cpStateOf cp))) ∧
       exec mrc s = .next (t.setReg rd v)) ∧
     (rd = 15#4 →
       exec mcr s = .refused .r15Operand ∧
       exec mrc s = .next (t.setFlags (v.getLsbD 31) (v.getLsbD 30) (v.getLsbD 29) (v.getLsbD 28)))) ∧
  (∀ (cond rn crd cp : BitVec 4) (u l w : BitVec 1) (imm8 : BitVec 8) (n : Nat) (s : State) (rest : List CpAnswer),
     s.passes cond = true → s.direct = true → s.room = true → s.mem.wf = true →
     s.attached.getLsbD cp.toNat = true → s.cpAnswers = .accept n :: rest → 1 ≤ n → n ≤ 16 →
     let base := s.reg rn
     let up := base + BitVec.ofNat 32 (4 * imm8.toNat)
     let down := base - BitVec.ofNat 32 (4 * imm8.toNat)
     let target := if u = 1#1 then up else down
     let after (wb : BitVec 1) (v : Word) : State :=
       { (if wb = 1#1 then s.setReg rn v else s) with
         cpAnswers := rest, draws := s.draws + 1, pc := s.pc + s.ilen }
     let word (start : Word) (k : Nat) : Word := (start &&& 0xFFFFFFFC#32) + BitVec.ofNat 32 (4 * k)
     (∀ p ∈ ([(.ldcPre cond u l w rn crd cp imm8, w, target, target), (.ldcUp cond l w rn crd cp imm8, w, base, up),
         (.ldcDown cond l rn crd cp imm8, 1#1, base, down)] : List (Instr × BitVec 1 × Word × Word)),
       (rn ≠ 15#4 ∨ p.2.1 = 0#1 →
         exec p.1 s =
           .next { after p.2.1 p.2.2.2 with
             cpState := s.cpState.setIfInBounds cp.toNat
               ((List.range n).foldl
                 (fun st k => Config.cpLoadWord cp.toNat (codeWord p.1) k (memWord s.mem (word p.2.2.1 k)) st)
                 (s.cpStateOf cp)) }) ∧
       (rn = 15#4 → p.2.1 = 1#1 → exec p.1 s = .refused .r15Operand)) ∧
     (∀ p ∈ ([(.stcPre cond u l w rn crd cp imm8, w, target, target), (.stcUp cond l w rn crd cp imm8, w, base, up),
         (.stcDown cond l rn crd cp imm8, 1#1, base, down)] : List (Instr × BitVec 1 × Word × Word)),
       (rn ≠ 15#4 ∨ p.2.1 = 0#1 →
         ∃ mem : Memory,
           exec p.1 s = .next { after p.2.1 p.2.2.2 with mem := mem } ∧
           (∀ k, k < n →
             memWord mem (word p.2.2.1 k) = Config.cpStoreWord cp.toNat (codeWord p.1) k (s.cpStateOf cp)) ∧
           (∀ a, (∀ k, k < n → word p.2.2.1 k ≠ wordAddr a) → memWord mem a = memWord s.mem a)) ∧
       (rn = 15#4 → p.2.1 = 1#1 → exec p.1 s = .refused .r15Operand)))

/-- The accesses to the registers of CP15 in a privileged mode (R385, R400 to R410, R421 to R423). A read
gives the bits whose value the spec states, some value in the others, with Rd = 15 to the flags, and changes
no register of CP15; the ID code is `0x4102940x` (R42) and the cache type `0x0F0F10F1` (R43). A write gives
the register the value of Rd if its should-be fields hold and the value is allowed, and nothing else
changes; else it is refused. The open bits and the refused values are log 30. -/
def Obligations.Cp15RegisterAccesses : Prop :=
  (∀ (cond rd : BitVec 4) (s : State),
     s.passes cond = true → s.mode ≠ modeUsr → s.room = true →
     ∀ p ∈ cp15Reads cond rd,
       ∃ (v : Word) (d : Nat),
         v &&& ~~~p.2.freeBits = s.cp15.stated p.2 ∧
         (p.2 = .idCode → v &&& 0xFFFFFFF0#32 = 0x41029400#32) ∧ (p.2 = .cacheType → v = 0x0F0F10F1#32) ∧
         (rd ≠ 15#4 → exec p.1 s = .next { s.setReg rd v with pc := s.pc + s.ilen, draws := s.draws + d }) ∧
         (rd = 15#4 → exec p.1 s =
           .next { s.setFlags (v.getLsbD 31) (v.getLsbD 30) (v.getLsbD 29) (v.getLsbD 28) with
             pc := s.pc + s.ilen, draws := s.draws + d })) ∧
  (∀ (cond rd : BitVec 4) (s : State),
     s.passes cond = true → s.mode ≠ modeUsr → s.room = true →
     ∀ p ∈ cp15Writes cond rd,
       (rd ≠ 15#4 → p.2.writeRefusal (s.reg rd) = none →
         exec p.1 s = .next { s with cp15 := s.cp15.write p.2 (s.reg rd), pc := s.pc + s.ilen }) ∧
       (∀ e, rd ≠ 15#4 → p.2.writeRefusal (s.reg rd) = some e → exec p.1 s = .refused e) ∧
       (rd = 15#4 → exec p.1 s = .refused .r15Operand))

/-- What a write leaves in CP15 (R44, R403 to R410, R421 to R423): the written register reads back the value
in all its stated bits, and every other register keeps its own. Which bits of each register those are, and
the values that a write of it refuses (R41 to R53): those that violate a should-be field, an enabled region
below 4KB or off its alignment, and for the control register clocking bits 31:30 = 10 and a cache without
the protection unit. BIGENDOUT shows the B bit (R103). The refused values are the model's log 30. -/
def Obligations.Cp15WriteReadsBack : Prop :=
  (∀ (c : Cp15) (r q : SysReg) (v : Word),
     r ≠ .idCode → r ≠ .cacheType →
     (c.write r v).stated r = v &&& ~~~r.freeBits ∧ (q ≠ r → (c.write r v).stated q = c.stated q)) ∧
  ((∀ r, SysReg.freeBits r =
     match r with
     | .idCode => 0x00000000#32
     | .cacheType => 0x00000000#32
     | .control => 0x3FFFCF7A#32
     | .cachable _ => 0xFFFFFF00#32
     | .bufferable => 0xFFFFFF00#32
     | .permission _ => 0xFFFF0000#32
     | .region _ _ => 0x00000FC0#32
     | .lockdown _ => 0x7FFFFFC0#32
     | .test => 0xFFFFFFF3#32) ∧
   (∀ (v : Word) (side : Side) (n : Fin 8),
     let zero (r : SysReg) (high low : Nat) : Prop :=
       ((∀ i, low ≤ i → i ≤ high → v.getLsbD i = false) → r.writeRefusal v = none) ∧
       ((∃ i, low ≤ i ∧ i ≤ high ∧ v.getLsbD i = true) → r.writeRefusal v = some .cp15ShouldBe)
     zero (.cachable side) 31 8 ∧ zero .bufferable 31 8 ∧ zero (.permission side) 31 16 ∧
     zero (.lockdown side) 30 6 ∧
     (SysReg.test.writeRefusal v = none ↔ ∀ i, i < 32 → i ≠ 2 → i ≠ 3 → v.getLsbD i = false) ∧
     SysReg.idCode.writeRefusal v = some .cp15Reserved ∧ SysReg.cacheType.writeRefusal v = some .cp15Reserved ∧
     (let size := 2 ^ ((v.extractLsb' 1 5).toNat + 1)
       let formed := v.getLsbD 0 = true → 4096 ≤ size ∧ (v.toNat / 4096 * 4096) % size = 0
       let r := SysReg.region side n
       (v.extractLsb' 6 6 = 0#6 → formed → r.writeRefusal v = none) ∧
       (v.extractLsb' 6 6 = 0#6 → ¬ formed → r.writeRefusal v = some .regionForm) ∧
       (v.extractLsb' 6 6 ≠ 0#6 → r.writeRefusal v = some .cp15ShouldBe)))) ∧
  (∀ (c : Cp15) (v : Word),
     (c.write .control v).p = v.getLsbD 0 ∧ (c.write .control v).c = v.getLsbD 2 ∧
     (c.write .control v).b = v.getLsbD 7 ∧ (c.write .control v).i = v.getLsbD 12 ∧
     (c.write .control v).v = v.getLsbD 13 ∧ (c.write .control v).nF = v.getLsbD 30 ∧
     (c.write .control v).iA = v.getLsbD 31 ∧
     (SysReg.control.writeRefusal v = none ↔
       v.extractLsb' 14 16 = 0#16 ∧ v.extractLsb' 8 4 = 0#4 ∧ v.getLsbD 1 = false ∧ v.extractLsb' 3 4 = 0b1111#4 ∧
       v.extractLsb' 30 2 ≠ 0b10#2 ∧ (v.getLsbD 12 = true ∨ v.getLsbD 2 = true → v.getLsbD 0 = true)) ∧
     (∀ s : State, s.cp15 = c.write .control v → s.bigEndOut = v.getLsbD 7))

/-- In User mode every MRC and MCR with coprocessor number 15 is the Undefined Instruction exception,
whatever its other fields (R400, R526); a privileged access that no row of R400 allows, a read of register 7
among them, is refused (R424, R425, log 29). -/
def Obligations.Cp15AccessesTurnedAway : Prop :=
  (∀ (i : Instr) (w : Word) (s : State),
     encode i = .arm w → fld w 24 4 = 0b1110#4 → bitAt w 4 = true → fld w 8 4 = 15#4 →
     s.passes (fld w 28 4) = true → s.mode = modeUsr → s.undebugged = true →
     exec i s = .next (s.entered modeUnd (s.pc + s.ilen) 0x04#32 (s.cpsr.extractLsb' 6 1))) ∧
  (∀ (cond crn rd crm : BitVec 4) (op1 op2 : BitVec 3) (s : State),
     s.passes cond = true → s.mode ≠ modeUsr → s.room = true →
     exec (.mcrP15c7c8o2 cond rd) s = .refused .cp15Reserved ∧
     exec (.mcrP15c7c5o1 cond rd) s = .refused .cp15Reserved ∧
     (mcrGeneric op1 crn 15#4 op2 crm = true → exec (.mcr cond op1 crn rd 15#4 op2 crm) s = .refused .cp15Reserved) ∧
     (mrcGeneric op1 crn 15#4 op2 crm = true → exec (.mrc cond op1 crn rd 15#4 op2 crm) s = .refused .cp15Reserved) ∧
     (crn = 7#4 → mrcGeneric op1 crn 15#4 op2 crm = true))

/-- R411 to R415, R417, R147: the flushes mark all the lines of a cache, or the one of the segment in bits
5:4 and the index in bits 31:26, invalid (and clean in the DCache); cleaning a valid dirty line puts its
four words, under the address of its tag and segment, into the write buffer as a new entry and leaves the
line clean, or with the flush invalid; nothing else changes; and bits of Rd that should be zero, and Rd =
R15, are refused. -/
def Obligations.CacheFlushesAndCleans : Prop :=
  (∀ (cond rd : BitVec 4) (s : State),
     s.passes cond = true → s.mode ≠ modeUsr → rd ≠ 15#4 → s.room = true →
     let v := s.reg rd
     let here (g : Fin 4) (idx : Fin 64) : Prop :=
       g.val = (v.extractLsb' 4 2).toNat ∧ idx.val = (v.extractLsb' 26 6).toNat
     (v = 0#32 →
       (∃ c : Cache, exec (.mcrP15c7c5o0 cond rd) s = .next { s with icache := c, pc := s.pc + s.ilen } ∧
         c.victim = s.icache.victim ∧ ∀ g idx, c.line g idx = { s.icache.line g idx with valid := false }) ∧
       (∃ c : Cache, exec (.mcrP15c7c6o0 cond rd) s = .next { s with dcache := c, pc := s.pc + s.ilen } ∧
         c.victim = s.dcache.victim ∧
         ∀ g idx, c.line g idx = { s.dcache.line g idx with valid := false, dirty := false })) ∧
     (v &&& 0x03FFFFCF#32 = 0#32 →
       (∃ c : Cache, exec (.mcrP15c7c5o2 cond rd) s = .next { s with icache := c, pc := s.pc + s.ilen } ∧
         c.victim = s.icache.victim ∧
         ∀ g idx, (here g idx → c.line g idx = { s.icache.line g idx with valid := false }) ∧
           (¬ here g idx → c.line g idx = s.icache.line g idx)) ∧
       (∃ c : Cache, exec (.mcrP15c7c6o2 cond rd) s = .next { s with dcache := c, pc := s.pc + s.ilen } ∧
         c.victim = s.dcache.victim ∧
         ∀ g idx, (here g idx → c.line g idx = { s.dcache.line g idx with valid := false, dirty := false }) ∧
           (¬ here g idx → c.line g idx = s.dcache.line g idx))) ∧
     (v ≠ 0#32 →
       exec (.mcrP15c7c5o0 cond rd) s = .refused .cp15ShouldBe ∧
       exec (.mcrP15c7c6o0 cond rd) s = .refused .cp15ShouldBe) ∧
     (v &&& 0x03FFFFCF#32 ≠ 0#32 →
       exec (.mcrP15c7c5o2 cond rd) s = .refused .cp15ShouldBe ∧
       exec (.mcrP15c7c6o2 cond rd) s = .refused .cp15ShouldBe ∧
       exec (.mcrP15c7c10o2 cond rd) s = .refused .cp15ShouldBe ∧
       exec (.mcrP15c7c14o2 cond rd) s = .refused .cp15ShouldBe) ∧
     (∀ i ∈ ([.mcrP15c7c5o0 cond 15#4, .mcrP15c7c5o2 cond 15#4, .mcrP15c7c6o0 cond 15#4, .mcrP15c7c6o2 cond 15#4,
         .mcrP15c7c10o2 cond 15#4, .mcrP15c7c14o2 cond 15#4] : List Instr), exec i s = .refused .r15Operand)) ∧
  (∀ (cond rd : BitVec 4) (s : State),
     s.passes cond = true → s.mode ≠ modeUsr → rd ≠ 15#4 → s.room = true →
     s.reg rd &&& 0x03FFFFCF#32 = 0#32 →
     let g : Fin 4 := ⟨((s.reg rd).extractLsb' 4 2).toNat, ((s.reg rd).extractLsb' 4 2).isLt⟩
     let idx : Fin 64 := ⟨((s.reg rd).extractLsb' 26 6).toNat, ((s.reg rd).extractLsb' 26 6).isLt⟩
     let l := s.dcache.line g idx
     let out : WbEntry :=
       { addr := l.tag ++ (s.reg rd).extractLsb' 4 2 ++ 0#4, lanes := 0b1111#4, data := l.data.toList }
     let t := { (if l.valid && l.dirty then wbNew out s else s) with pc := s.pc + s.ilen }
     (∃ c : Cache, exec (.mcrP15c7c10o2 cond rd) s = .next { t with dcache := c } ∧
       c.victim = s.dcache.victim ∧ (c.line g idx).dirty = (l.dirty && !l.valid) ∧
       (c.line g idx).valid = l.valid ∧ (c.line g idx).tag = l.tag ∧ (c.line g idx).data = l.data ∧
       ∀ g' idx', (g', idx') ≠ (g, idx) → c.line g' idx' = s.dcache.line g' idx') ∧
     (∃ c : Cache, exec (.mcrP15c7c14o2 cond rd) s = .next { t with dcache := c } ∧
       c.victim = s.dcache.victim ∧ c.line g idx = { l with valid := false, dirty := false } ∧
       ∀ g' idx', (g', idx') ≠ (g, idx) → c.line g' idx' = s.dcache.line g' idx'))

/-- R136, R416: prefetching a line of a cachable instruction region that is not in the ICache loads its four
words from external memory into the line of its segment that the lockdown register names with its Load bit
set, else some line from its index up (R137, R138); a failed check, a line already there or an address that
is not cachable changes nothing, and two lines that hold the address are a fault (R133); Rd = R15, and bits
3:0 of Rd that are not zero, are refused. The failed check is the spec's own decision D36 (log 45). -/
def Obligations.PrefetchLine : Prop :=
  ∀ (cond rd : BitVec 4) (s : State),
    s.passes cond = true → s.mode ≠ modeUsr → s.room = true →
    exec (.mcrP15c7c13o1 cond 15#4) s = .refused .r15Operand ∧
    (rd ≠ 15#4 → (s.reg rd).extractLsb' 0 4 ≠ 0#4 → exec (.mcrP15c7c13o1 cond rd) s = .refused .cp15ShouldBe) ∧
    (rd ≠ 15#4 → (s.reg rd).extractLsb' 0 4 = 0#4 →
      let a := s.reg rd
      (checkAccess s.cp15 .instr a false true = .pass true false → s.cp15.p = true → s.cp15.i = true →
        s.icache.lookup a = .miss →
        ∃ (c : Cache) (idx : Fin 64),
          exec (.mcrP15c7c13o1 cond rd) s =
            .next { s with icache := c, draws := s.draws + 1, pc := s.pc + s.ilen } ∧
          s.cp15.lockI.names idx ∧ c.victim.toNat = idx.val ∧ (c.line (segOf a) idx).valid = true ∧ (c.line (segOf a) idx).tag = a.extractLsb' 6 26 ∧
          (∀ k : Fin 4, (c.line (segOf a) idx).data[k] = memWord s.mem (a + BitVec.ofNat 32 (4 * k.val))) ∧
          (∀ g j, (g, j) ≠ (segOf a, idx) → c.line g j = s.icache.line g j)) ∧
      (checkAccess s.cp15 .instr a false true = .abort →
        exec (.mcrP15c7c13o1 cond rd) s = .next s.stepped) ∧
      (∀ (c b : Bool) (idx : Fin 64), checkAccess s.cp15 .instr a false true = .pass c b → s.cp15.i = true →
        s.icache.lookup a = .hit idx → exec (.mcrP15c7c13o1 cond rd) s = .next s.stepped) ∧
      (∀ c b : Bool, checkAccess s.cp15 .instr a false true = .pass c b →
        (s.cp15.i = false ∨ (c = false ∧ s.icache.lookup a = .miss) → exec (.mcrP15c7c13o1 cond rd) s = .next s.stepped) ∧
        (s.cp15.i = true → s.icache.lookup a = .double → exec (.mcrP15c7c13o1 cond rd) s = .fault .cacheDoubleHit)) ∧
      (∀ e, checkAccess s.cp15 .instr a false true = .fault e → exec (.mcrP15c7c13o1 cond rd) s = .fault e))

/-- R418 to R420, R153, R551: the two waits for interrupt start the wait state, unless a pin is LOW or a
debug request is there already; the drain writes every entry of the write buffer to external memory, in
order where the buffer is first in, first out, else in some order, and no other word changes; bits of Rd
that should be zero, and Rd = R15, are refused. The order of the buffer is a parameter (log 25). -/
def Obligations.WaitAndDrain : Prop :=
  ∀ (cond rd : BitVec 4) (s : State),
    s.passes cond = true → s.mode ≠ modeUsr → rd ≠ 15#4 → s.room = true → s.mem.wf = true →
    let awake : Prop :=
      s.pins.nFIQ = false ∨ s.pins.nIRQ = false ∨
        (s.pins.dbgen = true ∧ (s.pins.edbgrq = true ∨ s.ice.ctrl.getLsbD 1 = true))
    let touched (a : Word) : Prop :=
      ∃ e ∈ s.wbuf, ∃ k, k < e.data.length ∧ wordAddr e.addr + BitVec.ofNat 32 (4 * k) = wordAddr a
    (s.reg rd = 0#32 →
      (∀ i ∈ ([.mcrP15c7c0o4 cond rd, .mcrP15c15c8o2 cond rd] : List Instr),
        (¬ awake → exec i s = .next { s with waiting := true, pc := s.pc + s.ilen }) ∧
        (awake → exec i s = .next { s with waiting := false, pc := s.pc + s.ilen })) ∧
      (∃ (gone : List WbEntry) (d : Nat),
        exec (.mcrP15c7c10o4 cond rd) s =
          .next { s with
            wbuf := [], mem := gone.foldl wbWrite s.mem, draws := s.draws + d, pc := s.pc + s.ilen } ∧
        s.leaves gone [] ∧ (s.wbFifo = true → d = 0) ∧
        ∀ a, ¬ touched a → memWord (gone.foldl wbWrite s.mem) a = memWord s.mem a)) ∧
    (s.reg rd ≠ 0#32 →
      exec (.mcrP15c7c0o4 cond rd) s = .refused .cp15ShouldBe ∧
      exec (.mcrP15c15c8o2 cond rd) s = .refused .cp15ShouldBe ∧
      exec (.mcrP15c7c10o4 cond rd) s = .refused .cp15ShouldBe) ∧
    (∀ i ∈ ([.mcrP15c7c0o4 cond 15#4, .mcrP15c15c8o2 cond 15#4, .mcrP15c7c10o4 cond 15#4] : List Instr),
      exec i s = .refused .r15Operand)

/-- R60 to R62, R430 to R432: in every mode the comms control register reads as its version, W and R with
some value between; a write fills the write register and sets W; a read empties the read register and clears
R; COMMRX shows R and COMMTX shows NOT W. Any other MCR or MRC of CP14 is refused (R433). -/
def Obligations.DebugCommsFromTheProcessor : Prop :=
  ∀ (cond rd crn crm : BitVec 4) (op1 op2 : BitVec 3) (s : State),
    s.passes cond = true → s.room = true →
    s.commRx = s.dcc.r ∧ (s.commTx = true ↔ s.dcc.w = false) ∧
    (mcrGeneric op1 crn 14#4 op2 crm = true → exec (.mcr cond op1 crn rd 14#4 op2 crm) s = .refused .cp14Reserved) ∧
    (mrcGeneric op1 crn 14#4 op2 crm = true → exec (.mrc cond op1 crn rd 14#4 op2 crm) s = .refused .cp14Reserved) ∧
    (rd ≠ 15#4 →
      (∃ v : BitVec 26, exec (.mrcP14c0c0o0 cond rd) s =
        .next { s.setReg rd (0b0010#4 ++ v ++ BitVec.ofBool s.dcc.w ++ BitVec.ofBool s.dcc.r) with
          pc := s.pc + s.ilen, draws := s.draws + 1 }) ∧
      exec (.mcrP14c1c0o0 cond rd) s =
        .next { s with dcc := { s.dcc with writeData := s.reg rd, w := true }, pc := s.pc + s.ilen } ∧
      exec (.mrcP14c1c0o0 cond rd) s =
        .next { s.setReg rd s.dcc.readData with dcc := { s.dcc with r := false }, pc := s.pc + s.ilen }) ∧
    (rd = 15#4 →
      exec (.mrcP14c0c0o0 cond rd) s =
        .next { s.setFlags false false true false with pc := s.pc + s.ilen, draws := s.draws + 1 } ∧
      exec (.mcrP14c1c0o0 cond rd) s = .refused .r15Operand ∧
      exec (.mrcP14c1c0o0 cond rd) s =
        .next { s.setFlags (s.dcc.readData.getLsbD 31) (s.dcc.readData.getLsbD 30) (s.dcc.readData.getLsbD 29)
            (s.dcc.readData.getLsbD 28) with
          dcc := { s.dcc with r := false }, pc := s.pc + s.ilen })

/-! Thumb instructions. -/

/-- Thumb shifts (R452 to R454, R465 to R467, R470) by the tables of R211 and R212, logic, moves and MUL
(R459, R463, R464, R475 to R478): N and Z of the result, C from the shifter or as it was, V as it was; the C
of a multiply is some bit, and MUL with Rd = Rs is refused. Thumb compares and tests (R460, R471, R473,
R474, R480), with high registers too: the flags only; CMP with the pc as its first register is refused. -/
def Obligations.ThumbShiftsLogicAndCompares : Prop :=
  (∀ (imm5 : BitVec 5) (rs rd : BitVec 3) (s : State),
     s.room = true →
     let m := s.reg (lowReg rs)
     let d := s.reg (lowReg rd)
     let n := m.extractLsb' 0 8
     ∀ p ∈ ([(.tLslImm imm5 rs rd, shiftByImm 0#2 imm5 m s.flagC), (.tLsrImm imm5 rs rd, shiftByImm 1#2 imm5 m s.flagC),
         (.tAsrImm imm5 rs rd, shiftByImm 2#2 imm5 m s.flagC), (.tLslReg rs rd, shiftByReg 0#2 n d s.flagC),
         (.tLsrReg rs rd, shiftByReg 1#2 n d s.flagC), (.tAsrReg rs rd, shiftByReg 2#2 n d s.flagC),
         (.tRorReg rs rd, shiftByReg 3#2 n d s.flagC)] : List (Instr × Shifted)),
       exec p.1 s = .next (s.wrote 1#1 (lowReg rd) p.2.value p.2.carry s.flagV)) ∧
  (∀ (rs rd : BitVec 3) (imm8 : BitVec 8) (s : State),
     s.room = true →
     let d := s.reg (lowReg rd)
     let m := s.reg (lowReg rs)
     (∀ p ∈ ([(.tMovImm rd imm8, imm8.zeroExtend 32), (.tAnd rs rd, d &&& m), (.tEor rs rd, d ^^^ m),
         (.tOrr rs rd, d ||| m), (.tBic rs rd, d &&& ~~~m), (.tMvn rs rd, ~~~m)] : List (Instr × Word)),
       exec p.1 s = .next (s.wrote 1#1 (lowReg rd) p.2 s.flagC s.flagV)) ∧
     (rd ≠ rs → ∃ c : Bool, exec (.tMul rs rd) s =
       .next { s.wrote 1#1 (lowReg rd) (BitVec.ofNat 32 (d.toNat * m.toNat)) c s.flagV with draws := s.draws + 1 }) ∧
     (rd = rs → exec (.tMul rs rd) s = .refused .registerClash)) ∧
  (∀ (rs rd : BitVec 3) (h2 : BitVec 1) (imm8 : BitVec 8) (s : State),
     s.room = true →
     let d := s.reg (lowReg rd)
     let m := s.reg (lowReg rs)
     exec (.tTst rs rd) s = .next (s.compared (d &&& m) s.flagC s.flagV) ∧
     exec (.tCmn rs rd) s =
       .next (s.compared (d + m) (decide (2 ^ 32 ≤ d.toNat + m.toNat)) (overflows (d.toInt + m.toInt))) ∧
     (∀ p ∈ ([(.tCmpImm rd imm8, d, imm8.zeroExtend 32), (.tCmpReg rs rd, d, m),
         (.tCmpLoHi rs rd, d, s.reg (highReg 1#1 rs))] ++
         (if rd = 7#3 then [] else [(.tCmpHi h2 rs rd, s.reg (highReg 1#1 rd), s.reg (highReg h2 rs))]) :
           List (Instr × Word × Word)),
       exec p.1 s = .next (s.compared (p.2.1 - p.2.2) (decide (p.2.2.toNat ≤ p.2.1.toNat))
         (overflows (p.2.1.toInt - p.2.2.toInt)))) ∧
     exec (.tCmpHi h2 rs 7#3) s = .refused .thumbHigh)

/-- Thumb sums and differences with a destination (R455 to R458, R461, R462, R468, R469, R472): modulo
`2^32`, C and V from the exact result. Addresses and the stack pointer (R483 to R486): no flags. -/
def Obligations.ThumbArithmetic : Prop :=
  (∀ (rn rs rd imm3 : BitVec 3) (imm8 : BitVec 8) (s : State),
     s.room = true →
     let d := s.reg (lowReg rd)
     let m := s.reg (lowReg rs)
     let c := s.flagC.toNat
     let b := (!s.flagC).toNat
     (∀ p ∈ ([(.tAddReg rn rs rd, m, s.reg (lowReg rn), 0), (.tAddImm3 imm3 rs rd, m, imm3.zeroExtend 32, 0),
         (.tAddImm8 rd imm8, d, imm8.zeroExtend 32, 0), (.tAdc rs rd, d, m, c)] : List (Instr × Word × Word × Nat)),
       exec p.1 s = .next (s.wrote 1#1 (lowReg rd) (p.2.1 + p.2.2.1 + BitVec.ofNat 32 p.2.2.2)
         (decide (2 ^ 32 ≤ p.2.1.toNat + p.2.2.1.toNat + p.2.2.2))
         (overflows (p.2.1.toInt + p.2.2.1.toInt + p.2.2.2)))) ∧
     (∀ p ∈ ([(.tSubReg rn rs rd, m, s.reg (lowReg rn), 0), (.tSubImm3 imm3 rs rd, m, imm3.zeroExtend 32, 0),
         (.tSubImm8 rd imm8, d, imm8.zeroExtend 32, 0), (.tNeg rs rd, 0#32, m, 0), (.tSbc rs rd, d, m, b)] :
           List (Instr × Word × Word × Nat)),
       exec p.1 s = .next (s.wrote 1#1 (lowReg rd) (p.2.1 - p.2.2.1 - BitVec.ofNat 32 p.2.2.2)
         (decide (p.2.2.1.toNat + p.2.2.2 ≤ p.2.1.toNat))
         (overflows (p.2.1.toInt - p.2.2.1.toInt - p.2.2.2))))) ∧
  (∀ (rd : BitVec 3) (imm8 : BitVec 8) (imm7 : BitVec 7) (s : State),
     s.room = true →
     let put (i : BitVec 4) (v : Word) : State := { s.setReg i v with pc := s.pc + s.ilen }
     exec (.tAddPc rd imm8) s =
       .next (put (lowReg rd) (((s.pc + 4#32) &&& 0xFFFFFFFC#32) + BitVec.ofNat 32 (4 * imm8.toNat))) ∧
     exec (.tAddSp rd imm8) s = .next (put (lowReg rd) (s.reg 13#4 + BitVec.ofNat 32 (4 * imm8.toNat))) ∧
     exec (.tAddSpImm imm7) s = .next (put 13#4 (s.reg 13#4 + BitVec.ofNat 32 (4 * imm7.toNat))) ∧
     exec (.tSubSpImm imm7) s = .next (put 13#4 (s.reg 13#4 - BitVec.ofNat 32 (4 * imm7.toNat))))

/-- Thumb format 5 ADD, MOV and BX (R479, R481, R482): sums and moves with a high register leave the flags;
a result for the pc drops bit 0; BX sets T from bit 0; and the forms that R236 calls UNPREDICTABLE (both H
bits 0, BX with H1 = 1, the pc added to the pc) are refused. -/
def Obligations.ThumbHighRegisters : Prop :=
  (∀ (rs rd : BitVec 3) (h2 : BitVec 1) (s : State),
     s.room = true →
     let into (i : BitVec 4) (v : Word) : State :=
       if i = 15#4 then { s with pc := v &&& 0xFFFFFFFE#32 } else { s.setReg i v with pc := s.pc + s.ilen }
     let d := highReg 1#1 rd
     let m := highReg h2 rs
     let v := s.reg m
     (d ≠ 15#4 ∨ m ≠ 15#4 → exec (.tAddHi h2 rs rd) s = .next (into d (s.reg d + v))) ∧
     (d = 15#4 → m = 15#4 → exec (.tAddHi h2 rs rd) s = .refused .thumbHigh) ∧
     exec (.tAddLoHi rs rd) s = .next (into (lowReg rd) (s.reg (lowReg rd) + s.reg (highReg 1#1 rs))) ∧
     exec (.tMovHi h2 rs rd) s = .next (into d v) ∧
     exec (.tMovLoHi rs rd) s = .next (into (lowReg rd) (s.reg (highReg 1#1 rs))) ∧
     (v.toNat % 4 ≠ 2 →
       exec (.tBx h2 rs 0#3) s =
         .next { s with
           cpsr := s.cpsr.extractLsb' 6 26 ++ v.extractLsb' 0 1 ++ s.cpsr.extractLsb' 0 5
           pc := v &&& 0xFFFFFFFE#32 }) ∧
     (v.toNat % 4 = 2 → exec (.tBx h2 rs 0#3) s = .refused .bxTarget) ∧
     (∀ sbz, sbz ≠ 0#3 → exec (.tBx h2 rs sbz) s = .refused .thumbHigh)) ∧
  (∀ (rs rd sbz : BitVec 3) (h2 : BitVec 1) (s : State),
     exec (.tAddLow rs rd) s = .refused .thumbHigh ∧ exec (.tCmpLow rs rd) s = .refused .thumbHigh ∧
     exec (.tMovLow rs rd) s = .refused .thumbHigh ∧ exec (.tBxHigh h2 rs sbz) s = .refused .thumbHigh)

/-- Thumb single loads (R487, R490, R491, R493 to R495, R497, R499, R501, R503) and stores (R488, R489,
R492, R496, R498, R500, R502) where every access is one external transfer: loaded words rotate by the low
bits of their address and narrower items extend; a store gives the lanes of its address Rd and changes no
register; an odd halfword address is refused. -/
def Obligations.ThumbTransfers : Prop :=
  (∀ (ro rb rd : BitVec 3) (imm5 : BitVec 5) (imm8 : BitVec 8) (s : State),
     s.direct = true → s.room = true →
     let base := s.reg (lowReg rb)
     let sum := base + s.reg (lowReg ro)
     let put (v : Word) : State := { s.setReg (lowReg rd) v with pc := s.pc + s.ilen }
     (∀ p ∈ ([(.tLdrPc rd imm8, ((s.pc + 4#32) &&& 0xFFFFFFFC#32) + BitVec.ofNat 32 (4 * imm8.toNat)),
         (.tLdrReg ro rb rd, sum), (.tLdrImm imm5 rb rd, base + BitVec.ofNat 32 (4 * imm5.toNat)),
         (.tLdrSp rd imm8, s.reg 13#4 + BitVec.ofNat 32 (4 * imm8.toNat))] : List (Instr × Word)),
       exec p.1 s = .next (put ((memWord s.mem p.2).rotateRight (8 * (p.2.toNat % 4))))) ∧
     (∀ p ∈ ([(.tLdrbReg ro rb rd, sum), (.tLdrbImm imm5 rb rd, base + BitVec.ofNat 32 imm5.toNat)] :
         List (Instr × Word)),
       exec p.1 s = .next (put (s.memItem .byte p.2))) ∧
     exec (.tLdsbReg ro rb rd) s = .next (put (((s.memItem .byte sum).extractLsb' 0 8).signExtend 32)) ∧
     (∀ p ∈ ([(.tLdrhReg ro rb rd, sum), (.tLdrhImm imm5 rb rd, base + BitVec.ofNat 32 (2 * imm5.toNat))] :
         List (Instr × Word)),
       (p.2.toNat % 2 = 0 → exec p.1 s = .next (put (s.memItem .half p.2))) ∧
       (p.2.toNat % 2 = 1 → exec p.1 s = .refused .oddHalfword)) ∧
     (sum.toNat % 2 = 0 → exec (.tLdshReg ro rb rd) s =
       .next (put (((s.memItem .half sum).extractLsb' 0 16).signExtend 32))) ∧
     (sum.toNat % 2 = 1 → exec (.tLdshReg ro rb rd) s = .refused .oddHalfword)) ∧
  (∀ (ro rb rd : BitVec 3) (imm5 : BitVec 5) (imm8 : BitVec 8) (s : State),
     s.direct = true → s.room = true →
     let base := s.reg (lowReg rb)
     let sum := base + s.reg (lowReg ro)
     let v := s.reg (lowReg rd)
     (∀ p ∈ ([(.tStrReg ro rb rd, .word, sum), (.tStrImm imm5 rb rd, .word, base + BitVec.ofNat 32 (4 * imm5.toNat)),
         (.tStrSp rd imm8, .word, s.reg 13#4 + BitVec.ofNat 32 (4 * imm8.toNat)), (.tStrbReg ro rb rd, .byte, sum),
         (.tStrbImm imm5 rb rd, .byte, base + BitVec.ofNat 32 imm5.toNat)] : List (Instr × Size × Word)),
       exec p.1 s = .next { s with mem := s.memStored p.2.1 p.2.2 v, pc := s.pc + s.ilen }) ∧
     (∀ p ∈ ([(.tStrhReg ro rb rd, sum), (.tStrhImm imm5 rb rd, base + BitVec.ofNat 32 (2 * imm5.toNat))] :
         List (Instr × Word)),
       (p.2.toNat % 2 = 0 → exec p.1 s = .next { s with mem := s.memStored .half p.2 v, pc := s.pc + s.ilen }) ∧
       (p.2.toNat % 2 = 1 → exec p.1 s = .refused .oddHalfword)))

/-- POP and LDMIA (R505, R507), PUSH and STMIA (R504, R506) where every access is one external transfer: the
listed registers take or give the words from SP or Rb up, or below SP, and SP or Rb moves past them; a
loaded Rb keeps its word, a stored Rb that is not the lowest listed is refused; a popped pc drops bit 0; an
empty list is refused. -/
def Obligations.ThumbBlockTransfers : Prop :=
  (∀ (r : BitVec 1) (rb : BitVec 3) (rlist : BitVec 8) (s : State),
     s.direct = true → s.room = true →
     let popped := r ++ 0#7 ++ rlist
     let low := 0#8 ++ rlist
     let word (start : Word) (list : BitVec 16) (i : Nat) : Word := memWord s.mem (slotAddr start list i)
     (popped ≠ 0#16 → ∃ regs : RegFile,
       exec (.tPop r rlist) s =
         .next { s with
           regs := regs
           pc := if r = 1#1 then word (s.reg 13#4) popped 15 &&& 0xFFFFFFFE#32 else s.pc + s.ilen } ∧
       (∀ i : BitVec 4, i.toNat < 8 → rlist.getLsbD i.toNat = true →
         regs[regIndex s.mode i] = word (s.reg 13#4) popped i.toNat) ∧
       regs[regIndex s.mode 13#4] = s.reg 13#4 + BitVec.ofNat 32 (4 * listedBelow popped 16) ∧
       (∀ k : Fin 30, (∀ i : BitVec 4, i.toNat < 8 → rlist.getLsbD i.toNat = true → regIndex s.mode i ≠ k) →
         regIndex s.mode 13#4 ≠ k → regs[k] = s.regs[k])) ∧
     (rlist ≠ 0#8 → ∃ regs : RegFile,
       exec (.tLdmia rb rlist) s = .next { s with regs := regs, pc := s.pc + s.ilen } ∧
       (∀ i : BitVec 4, i.toNat < 8 → rlist.getLsbD i.toNat = true →
         regs[regIndex s.mode i] = word (s.reg (lowReg rb)) low i.toNat) ∧
       (rlist.getLsbD rb.toNat = false →
         regs[regIndex s.mode (lowReg rb)] = s.reg (lowReg rb) + BitVec.ofNat 32 (4 * listedBelow low 16)) ∧
       (∀ k : Fin 30, (∀ i : BitVec 4, i.toNat < 8 → rlist.getLsbD i.toNat = true → regIndex s.mode i ≠ k) →
         regIndex s.mode (lowReg rb) ≠ k → regs[k] = s.regs[k])) ∧
     (rlist = 0#8 → exec (.tLdmia rb rlist) s = .refused .blockForm ∧ exec (.tPop 0#1 rlist) s = .refused .blockForm)) ∧
  (∀ (r : BitVec 1) (rb : BitVec 3) (rlist : BitVec 8) (s : State),
     s.direct = true → s.room = true → s.mem.wf = true →
     let pushed := 0#1 ++ r ++ 0#6 ++ rlist
     let low := 0#8 ++ rlist
     let bottom := s.reg 13#4 - BitVec.ofNat 32 (4 * listedBelow pushed 16)
     let outside (start : Word) (list : BitVec 16) (a : Word) : Prop :=
       ∀ i, i < 16 → list.getLsbD i = true → wordAddr (slotAddr start list i) ≠ wordAddr a
     (pushed ≠ 0#16 → ∃ mem : Memory,
       exec (.tPush r rlist) s = .next { s.setReg 13#4 bottom with mem := mem, pc := s.pc + s.ilen } ∧
       (∀ i : BitVec 4, pushed.getLsbD i.toNat = true → memWord mem (slotAddr bottom pushed i.toNat) = s.reg i) ∧
       (∀ a, outside bottom pushed a → memWord mem a = memWord s.mem a)) ∧
     (rlist.getLsbD rb.toNat = true → (∃ j, j < rb.toNat ∧ rlist.getLsbD j = true) →
       exec (.tStmia rb rlist) s = .refused .blockForm) ∧
     (rlist ≠ 0#8 → (rlist.getLsbD rb.toNat = true → ∀ j, j < rb.toNat → rlist.getLsbD j = false) → ∃ mem : Memory,
       exec (.tStmia rb rlist) s =
         .next { s.setReg (lowReg rb) (s.reg (lowReg rb) + BitVec.ofNat 32 (4 * listedBelow low 16)) with
           mem := mem, pc := s.pc + s.ilen } ∧
       (∀ i : BitVec 4, low.getLsbD i.toNat = true →
         memWord mem (slotAddr (s.reg (lowReg rb)) low i.toNat) = s.reg i) ∧
       (∀ a, outside (s.reg (lowReg rb)) low a → memWord mem a = memWord s.mem a)) ∧
     (rlist = 0#8 → exec (.tStmia rb rlist) s = .refused .blockForm ∧ exec (.tPush 0#1 rlist) s = .refused .blockForm))

/-- Thumb branches (R222, R508, R510 to R512): a conditional branch whose condition fails only goes on;
targets are 4 ahead plus the signed offset in halfwords, and one outside the address space is refused; the
two halves of BL, modulo `2^32`, leave the return address with bit 0 set in R14. The refusals and the
wrapping halves are the model's log 14. -/
def Obligations.ThumbBranches : Prop :=
  ∀ (off8 : BitVec 8) (off11 : BitVec 11) (s : State),
    s.room = true →
    let near : Int := s.pc.toNat + 4 + 2 * off8.toInt
    let far : Int := s.pc.toNat + 4 + 2 * off11.toInt
    (∀ p ∈ ([(.tBeq off8, s.flagZ), (.tBne off8, !s.flagZ), (.tBcs off8, s.flagC), (.tBcc off8, !s.flagC),
        (.tBmi off8, s.flagN), (.tBpl off8, !s.flagN), (.tBvs off8, s.flagV), (.tBvc off8, !s.flagV),
        (.tBhi off8, s.flagC && !s.flagZ), (.tBls off8, !s.flagC || s.flagZ), (.tBge off8, s.flagN == s.flagV),
        (.tBlt off8, s.flagN != s.flagV), (.tBgt off8, !s.flagZ && (s.flagN == s.flagV)),
        (.tBle off8, s.flagZ || (s.flagN != s.flagV))] : List (Instr × Bool)),
      (p.2 = false → exec p.1 s = .next s.stepped) ∧
      (p.2 = true → 0 ≤ near → near < 2 ^ 32 → exec p.1 s = .next { s with pc := BitVec.ofInt 32 near }) ∧
      (p.2 = true → near < 0 ∨ 2 ^ 32 ≤ near → exec p.1 s = .refused .addressWrap)) ∧
    (0 ≤ far → far < 2 ^ 32 → exec (.tB off11) s = .next { s with pc := BitVec.ofInt 32 far }) ∧
    (far < 0 ∨ 2 ^ 32 ≤ far → exec (.tB off11) s = .refused .addressWrap) ∧
    exec (.tBlFirst off11) s =
      .next { s.setReg 14#4 (BitVec.ofInt 32 (s.pc.toNat + 4 + 4096 * off11.toInt)) with pc := s.pc + s.ilen } ∧
    exec (.tBlSecond off11) s =
      .next { s.setReg 14#4 ((s.pc + 2#32) ||| 1#32) with
        pc := (s.reg 14#4 + BitVec.ofNat 32 (2 * off11.toNat)) &&& 0xFFFFFFFE#32 }

/-! Registers, memory, exceptions and steps. -/

/-- R31: a register written in one mode is read in the same mode and in every mode that shares it: R0 to R7
in all modes, R8 to R12 in all but FIQ, R13 and R14 in User and System only; every other register keeps its
value. -/
def Obligations.RegisterBanks : Prop :=
  ∀ (s : State) (m m' : BitVec 5) (i j : BitVec 4) (v : Word),
    modeLegal m = true → modeLegal m' = true → i ≠ 15#4 → j ≠ 15#4 →
    let user (m : BitVec 5) : Prop := m = modeUsr ∨ m = modeSys
    let shared : Prop :=
      m = m' ∨ (user m ∧ user m') ∨ i.toNat < 8 ∨ (i.toNat < 13 ∧ m ≠ modeFiq ∧ m' ≠ modeFiq)
    (i = j → shared → (s.bankSet m i v).bankGet m' j = v) ∧
    (i ≠ j ∨ ¬ shared → (s.bankSet m i v).bankGet m' j = s.bankGet m' j)

/-- External memory in canonical form: a written byte is read back and no other byte changes, the form is
kept, and two memories that read alike are equal. The form is the model's own (log 2). -/
def Obligations.MemoryIsCanonical : Prop :=
  ∀ (m n : Memory) (a b : Nat) (v : Byte),
    m.wf = true → n.wf = true →
    (a < 2 ^ 32 → (memSet m a v).wf = true) ∧
    memGet (memSet m a v) a = v ∧
    (b ≠ a → memGet (memSet m a v) b = memGet m b) ∧
    ((∀ k, memGet m k = memGet n k) → m = n)

/-- Taking an exception (R524, R525, R530, R531): the link value in R14 and the old CPSR in the SPSR of the
exception's mode, that mode with T = 0, I = 1 and for FIQ and Reset F = 1, and the pc at the vector; nothing
else changes. With debug enabled and the vector caught, debug state follows at once (R607, R617). The pc in
debug state is the model's log 49. -/
def Obligations.ExceptionEntry : Prop :=
  ∀ s : State, s.dbg.active = false →
    let f := s.cpsr.extractLsb' 6 1
    (∀ p ∈ ([(.undefined, modeUnd, s.pc + s.ilen, 0x04#32, f, 1), (.swi, modeSvc, s.pc + s.ilen, 0x08#32, f, 2),
        (.prefetchAbort, modeAbt, s.pc + 4#32, 0x0C#32, f, 3), (.dataAbort, modeAbt, s.pc + 8#32, 0x10#32, f, 4),
        (.irq, modeIrq, s.pc + 4#32, 0x18#32, f, 6), (.fiq, modeFiq, s.pc + 4#32, 0x1C#32, 1#1, 7)] :
          List (Exc × BitVec 5 × Word × Word × BitVec 1 × Nat)),
      let t := s.entered p.2.1 p.2.2.1 p.2.2.2.1 p.2.2.2.2.1
      let caught := s.ice.vectorCatch.getLsbD p.2.2.2.2.2
      (s.pins.dbgen = false ∨ (s.dbg.watch = .idle ∧ caught = false) → takeException p.1 s = t) ∧
      (s.pins.dbgen = true → s.dbg.watch = .idle → caught = true →
        takeException p.1 s =
          { t with
            pc := t.pc + 12#32
            waiting := false
            tap := { s.tap with sysSpeed := false, wptAndBkpt := false }
            dbg := { DebugCore.idle with active := true } })) ∧
    (s.pins.dbgen = false → ∃ link : Word, takeException .reset s = s.entered modeSvc link 0x00#32 1#1)

/-- R534 to R536, R550, R551: between two instructions, and out of the wait state, a LOW nFIQ with F = 0 is
taken, else a LOW nIRQ with I = 0, and a coprocessor instruction that waits is abandoned (R388); a waiting
machine without a LOW pin stays as it is, and a masked pin only ends the wait. Entries of the write buffer
may leave before the entry (R154, log 25). The place of the inputs in a step is the model's log 33. -/
def Obligations.InterruptsBetweenInstructions : Prop :=
  ∀ s : State,
    s.inputs = [] → s.pins.bnRES = true → s.resetHeld = false → s.undebugged = true →
    let t := { backgroundDrain s with waiting := false, busy := none, instrExec := false }
    let fiq := s.pins.nFIQ = false ∧ s.flagF = false
    let irq := s.pins.nIRQ = false ∧ s.flagI = false
    (fiq → step s = .next (t.entered modeFiq (s.pc + 4#32) 0x1C#32 1#1)) ∧
    (¬ fiq → irq → step s = .next (t.entered modeIrq (s.pc + 4#32) 0x18#32 (s.cpsr.extractLsb' 6 1))) ∧
    (s.waiting = true → s.pins.nFIQ = true → s.pins.nIRQ = true → step s = .next { s with instrExec := false }) ∧
    (s.waiting = true → s.pins.nFIQ = false ∨ s.pins.nIRQ = false → step s = step { s with waiting := false })

/-- R540, R660 to R663: while BnRES is LOW nothing runs; the step after it has gone HIGH leaves Supervisor
mode in ARM state with both interrupts disabled at the reset vector, CP15 cleared but for V, which takes
VINITHI, all lines invalid and the write buffer empty. Memory and the TAP keep their state. The two steps of
a reset, and what it keeps, are the model's log 34. -/
def Obligations.ResetFromThePins : Prop :=
  ∀ s : State, s.inputs = [] →
    (s.pins.bnRES = false → step s = .next { s with resetHeld := true, instrExec := false }) ∧
    (s.pins.bnRES = true → s.resetHeld = true → s.pins.dbgen = false ∨ s.ice.vectorCatch.getLsbD 0 = false →
      ∃ t : State, step s = .next t ∧
        t.cpsr.extractLsb' 0 8 = 0b11010011#8 ∧ t.pc = (if s.pins.vinithi then 0xFFFF0000#32 else 0#32) ∧
        t.cp15.stated .control = (if s.pins.vinithi then 0x00002000#32 else 0#32) ∧
        (∀ r ∈ ([.cachable .data, .cachable .instr, .bufferable, .lockdown .data, .lockdown .instr, .test] :
          List SysReg), t.cp15.stated r = 0#32) ∧
        (∀ side (n : Fin 8), (t.cp15.regions side)[n].enable = false) ∧
        (∀ g idx, (t.icache.line g idx).valid = false ∧ (t.dcache.line g idx).valid = false) ∧
        t.wbuf = [] ∧ t.waiting = false ∧ t.dbg.active = false ∧ t.resetHeld = false ∧
        t.mem = s.mem ∧ t.tap = s.tap ∧ t.ice = s.ice)

/-- The values that the spec gives the state after reset with VINITHI LOW (R80), and the invariant. W and R
are the spec's own decision D15 (log 7), VINITHI its D3 (log 51). -/
def Obligations.StateAfterReset : Prop :=
  State.reset.inv = true ∧ State.reset.mode = modeSvc ∧ State.reset.flagI = true ∧ State.reset.flagF = true ∧
  State.reset.thumb = false ∧ State.reset.pc = 0#32 ∧ State.reset.cp15.stated .control = 0#32 ∧
  State.reset.cp15.cachableD = 0#8 ∧ State.reset.cp15.cachableI = 0#8 ∧ State.reset.cp15.bufferable = 0#8 ∧
  (∀ side (n : Fin 8), (State.reset.cp15.regions side)[n].enable = false) ∧
  State.reset.cp15.stated (.lockdown .data) = 0#32 ∧ State.reset.cp15.stated (.lockdown .instr) = 0#32 ∧
  State.reset.cp15.stated .test = 0#32 ∧ (∀ g idx, (State.reset.icache.line g idx).valid = false) ∧
  (∀ g idx, (State.reset.dcache.line g idx).valid = false) ∧ State.reset.wbuf = [] ∧
  State.reset.waiting = false ∧ State.reset.dbg.active = false ∧ State.reset.dcc.w = false ∧
  State.reset.dcc.r = false

/-- A step that nothing comes before runs the instruction at the pc: some entries may leave the write buffer
(R154), what the fetch returns, decoded for the state's instruction set, is executed, and only the debug
events of R583 and R618 may follow, and INSTREXEC LOW where a coprocessor answered WAIT (R653); an aborted
fetch takes Prefetch Abort (R528). A coprocessor instruction that was answered WAIT is not fetched again:
the word that is held runs (R386). With caches, protection unit and write buffer idle the fetch returns the
word at the pc, or its halfword (R106). The write buffer's own drain is the model's log 25, the count of
masked fetches its log 57. -/
def Obligations.StepRunsTheDecodedInstruction : Prop :=
  ∀ s : State, s.quiet = true →
    ∃ d : State, s.drainsTo d ∧ (s.wbuf = [] → d = s) ∧
      d.beforeFetch = { d with dbg := { d.dbg with ackFetches := d.dbg.ackFetches - 1 }, instrExec := false } ∧
      (s.busy = none → ∀ (w : Word) (t : State), fetch d.beforeFetch = .done w t →
        let r := exec (decodeFetched s.thumb w) { t with instrExec := s.condPassed (condField s.thumb w) }
        (∀ u, r = .next u → step s = .next (afterInstruction u)) ∧
        (∀ e, r = .fault e → step s = .fault e) ∧
        (∀ e, r = .refused e → step s = .refused e)) ∧
      (s.busy = none → ∀ t : State, fetch d.beforeFetch = .abort t →
        step s = .next (t.entered modeAbt (s.pc + 4#32) 0x0C#32 (s.cpsr.extractLsb' 6 1))) ∧
      (s.busy = none → ∀ e, fetch d.beforeFetch = .fault e → step s = .fault e) ∧
      (∀ w : Word, s.busy = some w →
        let r := exec (decode (.arm w)) { d with busy := none, instrExec := s.condPassed (condField s.thumb w) }
        (∀ u, r = .next u → step s = .next (afterInstruction u)) ∧
        (∀ e, r = .fault e → step s = .fault e) ∧
        (∀ e, r = .refused e → step s = .refused e)) ∧
      (∀ u : State, u.pins.dbgen = false →
        afterInstruction u = if u.busy.isSome then { u with instrExec := false } else u) ∧
      (s.direct = true →
        fetch d.beforeFetch = .done (if s.thumb then s.memItem .half s.pc else memWord s.mem s.pc) d.beforeFetch)

/-- A well-formed instruction stored at the pc is fetched, decoded and run: `withFetchWord` changes the T
bit and the bytes of the instruction only (the other halfword of the word at the pc keeps its bytes, as
every other word does), and a held coprocessor instruction goes; the next step is the instruction's. The
placing is the model's log 20. -/
def Obligations.StoredInstructionRuns : Prop :=
  ∀ (i : Instr) (s : State),
    i.wellFormed = true → s.quiet = true → s.direct = true → s.mem.wf = true →
    let nbits := match encode i with | .arm _ => 32 | .thumb _ => 16
    let w := match encode i with | .arm w => w.toNat | .thumb h => h.toNat
    s.pc.toNat % (nbits / 8) = 0 →
    let placed := s.withFetchWord nbits w
    let runs := placed.condPassed (condField (nbits == 16) (BitVec.ofNat 32 w))
    let r := exec i { placed.beforeFetch with instrExec := runs }
    decodeTableWord nbits w = some i ∧
    (∃ mem : Memory,
      placed =
        { s with
          cpsr := s.cpsr.extractLsb' 6 26 ++ BitVec.ofBool (nbits == 16) ++ s.cpsr.extractLsb' 0 5
          busy := none
          mem := mem } ∧
      (nbits = 16 → placed.memItem .half (s.pc ^^^ 2#32) = s.memItem .half (s.pc ^^^ 2#32)) ∧
      ∀ a, wordAddr a ≠ wordAddr s.pc → memWord mem a = memWord s.mem a) ∧
    (∀ u, r = .next u → step placed = .next (afterInstruction u)) ∧
    (∀ e, r = .fault e → step placed = .fault e) ∧
    (∀ e, r = .refused e → step placed = .refused e)

/-! Encodings. -/

/-- Words written out from the encoding tables of R201, R206 and R220 decode to the instructions they stand
for. -/
def Obligations.DecodedWords : Prop :=
  decode (.arm 0xE0821003#32) = .add 14#4 0#1 2#4 1#4 (.immShift 0#5 0#2 3#4) ∧
  decode (.arm 0xE3A000FF#32) = .mov 14#4 0#1 0#4 0#4 (.imm 0#4 0xFF#8) ∧
  decode (.arm 0xE0010392#32) = .mul 14#4 0#1 1#4 0#4 3#4 2#4 ∧
  decode (.arm 0xE5910004#32) = .ldr 14#4 1#1 0#1 1#4 0#4 (.imm 4#12) ∧
  decode (.arm 0xE8BD8001#32) = .ldm 14#4 0#1 1#1 1#1 13#4 0x8001#16 ∧
  decode (.arm 0xEAFFFFFE#32) = .b 14#4 0xFFFFFE#24 ∧
  decode (.arm 0xEE010F10#32) = .mcrP15c1c0o0 14#4 0#4 ∧
  decode (.arm 0xEF000000#32) = .swi 14#4 0#24 ∧
  decode (.thumb 0x1888#16) = .tAddReg 2#3 1#3 0#3 ∧
  decode (.thumb 0x4770#16) = .tBx 1#1 6#3 0#3 ∧
  decode (.thumb 0xB500#16) = .tPush 1#1 0#8 ∧
  decode (.thumb 0xDF01#16) = .tSwi 1#8

/-- Decoding undoes encoding: every well-formed instruction, with every operand, is read back from its word,
and from its bytes whatever follows them (R201, R206, R220). -/
def Obligations.DecodeUndoesEncode : Prop :=
  ∀ (i : Instr) (rest : List Byte),
    i.wellFormed = true →
    decode (encode i) = i ∧
    decodeBytes (match encode i with | .arm _ => false | .thumb _ => true) (encodeBytes i ++ rest) =
      .ok (i, rest)

/-- Encoding undoes decoding: every ARM word and every Thumb halfword decodes to a well-formed instruction
whose encoding it is, so that no bit is dropped and no two words stand for one instruction (R201, R206,
R220). -/
def Obligations.EncodeUndoesDecode : Prop :=
  ∀ c : Code, (decode c).wellFormed = true ∧ encode (decode c) = c

/-! Every instruction, every step. -/

/-- Every step keeps the invariant: memory in canonical form, an aligned pc, one of the seven modes, clean
status registers, and a write buffer within its size (R33 to R37, R150). -/
def Obligations.StepKeepsTheInvariant : Prop :=
  ∀ s t : State, s.inv = true → step s = .next t → t.inv = true

/-- What User mode cannot do (R281, R400, R521, R526): an instruction there leaves CP15, the ICache, the
wait state and the registers of all other modes as they were, and stays in User mode with the same I and F,
or takes one of three exceptions at its vector. -/
def Obligations.UserModeIsConfined : Prop :=
  ∀ (i : Instr) (s t : State),
    s.mode = modeUsr → s.undebugged = true → exec i s = .next t →
    t.cp15 = s.cp15 ∧ t.icache = s.icache ∧ t.waiting = s.waiting ∧
    ((t.mode = modeUsr ∧ t.cpsr.extractLsb' 6 2 = s.cpsr.extractLsb' 6 2 ∧ t.spsrFiq = s.spsrFiq ∧
        t.spsrIrq = s.spsrIrq ∧ t.spsrSvc = s.spsrSvc ∧ t.spsrAbt = s.spsrAbt ∧ t.spsrUnd = s.spsrUnd ∧
        ∀ k : Fin 30, 15 ≤ k.val → t.regs[k] = s.regs[k]) ∨
      ∃ e ∈ ([.undefined, .swi, .dataAbort] : List Exc),
        t.mode = e.mode ∧ t.pc = s.cp15.vectorBase + e.offset ∧
        t.cpsr.extractLsb' 5 3 = 1#1 ++ s.cpsr.extractLsb' 6 1 ++ 0#1 ∧ t.spsrOf e.mode = s.cpsr ∧
        (∀ m, m ≠ e.mode → t.spsrOf m = s.spsrOf m) ∧
        ∀ k : Fin 30, 15 ≤ k.val → k ≠ regIndex e.mode 14#4 → t.regs[k] = s.regs[k])

/-- No instruction moves the pins or reaches the debug unit: outside debug state and with DBGEN LOW, the
pins, the TAP, EmbeddedICE, the debug condition, the platform's answers and the inputs to come are as they
were (R73, R74, R580). -/
def Obligations.InstructionsKeepTheOutside : Prop :=
  ∀ (i : Instr) (s t : State),
    s.undebugged = true → exec i s = .next t →
    t.pins = s.pins ∧ t.tap = s.tap ∧ t.ice = s.ice ∧ t.dbg = s.dbg ∧ t.attached = s.attached ∧
    t.busErrors = s.busErrors ∧ t.inputs = s.inputs ∧ t.resetHeld = s.resetHeld ∧ t.wbFifo = s.wbFifo ∧
    t.wbRawCoherent = s.wbRawCoherent ∧ s.draws ≤ t.draws

/-! The memory system. -/

/-- R111 to R117: with the protection unit on, the attributes of an access are those of the highest enabled
region whose `2^(N+1)` bytes hold the address, no region is an abort, and the permission table decides; a
region below 4KB or off its alignment is a fault. With the unit off every access passes, noncachable and
nonbufferable. The fault is the model's log 28. -/
def Obligations.RegionsDecideAccesses : Prop :=
  ∀ (c : Cp15) (side : Side) (a : Word) (write privileged : Bool),
    let base (n : Fin 8) : Nat := 4096 * (c.regions side)[n].base.toNat
    let size (n : Fin 8) : Nat := 2 ^ ((c.regions side)[n].size.toNat + 1)
    let on (n : Fin 8) : Prop := (c.regions side)[n].enable = true
    let formed (n : Fin 8) : Prop := 4096 ≤ size n ∧ base n % size n = 0
    let holds (n : Fin 8) : Prop := on n ∧ base n ≤ a.toNat ∧ a.toNat < base n + size n
    let ap (n : Fin 8) : BitVec 2 := (c.ap side).extractLsb' (2 * n.val) 2
    let allowed (n : Fin 8) : Prop :=
      ap n = 3#2 ∨ (ap n = 2#2 ∧ (privileged = true ∨ write = false)) ∨ (ap n = 1#2 ∧ privileged = true)
    (c.p = false → checkAccess c side a write privileged = .pass false false) ∧
    (c.p = true → (∃ n, on n ∧ ¬ formed n) → checkAccess c side a write privileged = .fault .regionMalformed) ∧
    (c.p = true → (∀ n, on n → formed n) →
      ((∀ n, ¬ holds n) → checkAccess c side a write privileged = .abort) ∧
      (∀ n, holds n → (∀ m, n < m → ¬ holds m) →
        (allowed n → checkAccess c side a write privileged =
          .pass ((c.cachable side).getLsbD n.val) (decide (side = .data) && c.bufferable.getLsbD n.val)) ∧
        (¬ allowed n → checkAccess c side a write privileged = .abort)))

/-- R115, R336, R529, R541: a data access that its check refuses, or that the platform answers with an
error, takes Data Abort with the address of the instruction plus 8 in R14, and the instruction has written
no register and no memory; of a block transfer, the first access. Both halves of a swap can abort (R162,
R334). -/
def Obligations.RefusedDataAccessesAbort : Prop :=
  ∀ (cond : BitVec 4) (p u w : BitVec 1) (rn rd rm : BitVec 4) (off : Offset2) (off3 : Offset3)
    (list : BitVec 16) (rb ro rt : BitVec 3) (imm5 : BitVec 5) (imm8 : BitVec 8) (s : State),
    s.passes cond = true → s.undebugged = true → rd ≠ 15#4 → rn ≠ 15#4 → rm ≠ 15#4 → rd ≠ rn → rm ≠ rn →
    offsetReg2 off ≠ some 15#4 → offsetReg2 off ≠ some rn → offsetReg3 off3 ≠ some 15#4 →
    offsetReg3 off3 ≠ some rn → (∀ sbz r, off3 = .reg sbz r → sbz = 0#4) → (p = 0#1 → w = 0#1) → list ≠ 0#16 →
    (w = 1#1 → list.getLsbD rn.toNat = false) →
    let taken := s.entered modeAbt (s.pc + 8#32) 0x10#32 (s.cpsr.extractLsb' 6 1)
    let me := s.privileged
    let a := s.reg rn
    let b := if u = 1#1 then a + s.offset2 off else a - s.offset2 off
    let h := if p = 0#1 then a else if u = 1#1 then a + s.offset3 off3 else a - s.offset3 off3
    let base := s.reg (lowReg rb)
    let sum := base + s.reg (lowReg ro)
    let half := base + BitVec.ofNat 32 (2 * imm5.toNat)
    let start := wordAddr (blockFirst p u a list)
    (∀ q ∈ ([(.ldr cond u w rn rd off, wordAddr b, false, me), (.ldrb cond u w rn rd off, b, false, me),
        (.str cond u w rn rd off, wordAddr b, true, me), (.strb cond u w rn rd off, b, true, me),
        (.ldrPost cond u rn rd off, wordAddr a, false, me), (.ldrbPost cond u rn rd off, a, false, me),
        (.strPost cond u rn rd off, wordAddr a, true, me), (.strbPost cond u rn rd off, a, true, me),
        (.ldrt cond u rn rd off, wordAddr a, false, false), (.ldrbt cond u rn rd off, a, false, false),
        (.strt cond u rn rd off, wordAddr a, true, false), (.strbt cond u rn rd off, a, true, false),
        (.ldrsb cond p u w rn rd off3, h, false, me), (.swp cond rn rd 0#4 rm, wordAddr a, false, me),
        (.swpb cond rn rd 0#4 rm, a, false, me), (.ldm cond p u w rn list, start, false, me),
        (.stm cond p u w rn list, start, true, me), (.tLdrReg ro rb rt, wordAddr sum, false, me),
        (.tLdrPc rt imm8, wordAddr (((s.pc + 4#32) &&& 0xFFFFFFFC#32) + BitVec.ofNat 32 (4 * imm8.toNat)), false, me),
        (.tLdrImm imm5 rb rt, wordAddr (base + BitVec.ofNat 32 (4 * imm5.toNat)), false, me),
        (.tLdrSp rt imm8, wordAddr (s.reg 13#4 + BitVec.ofNat 32 (4 * imm8.toNat)), false, me),
        (.tLdrbReg ro rb rt, sum, false, me), (.tLdsbReg ro rb rt, sum, false, me),
        (.tLdrbImm imm5 rb rt, base + BitVec.ofNat 32 imm5.toNat, false, me),
        (.tStrReg ro rb rt, wordAddr sum, true, me), (.tStrbReg ro rb rt, sum, true, me),
        (.tStrImm imm5 rb rt, wordAddr (base + BitVec.ofNat 32 (4 * imm5.toNat)), true, me),
        (.tStrSp rt imm8, wordAddr (s.reg 13#4 + BitVec.ofNat 32 (4 * imm8.toNat)), true, me),
        (.tStrbImm imm5 rb rt, base + BitVec.ofNat 32 imm5.toNat, true, me)] ++
        (if h.toNat % 2 = 0 then
          [(.ldrh cond p u w rn rd off3, h, false, me), (.ldrsh cond p u w rn rd off3, h, false, me),
            (.strh cond p u w rn rd off3, h, true, me)] else []) ++
        (if sum.toNat % 2 = 0 then
          [(.tLdrhReg ro rb rt, sum, false, me), (.tLdshReg ro rb rt, sum, false, me), (.tStrhReg ro rb rt, sum, true, me)]
          else []) ++
        (if half.toNat % 2 = 0 then [(.tLdrhImm imm5 rb rt, half, false, me), (.tStrhImm imm5 rb rt, half, true, me)]
          else []) : List (Instr × Word × Bool × Bool)),
      (checkAccess s.cp15 .data q.2.1 q.2.2.1 q.2.2.2 = .abort → exec q.1 s = .next taken) ∧
      (s.cp15.p = false → s.cp15.c = false → s.wbuf = [] →
        extAbort s.busErrors (if q.2.2.1 then .write else .read) q.2.1 = true → exec q.1 s = .next taken)) ∧
    (∀ q ∈ ([(.swp cond rn rd 0#4 rm, wordAddr a), (.swpb cond rn rd 0#4 rm, a)] : List (Instr × Word)),
      (checkAccess s.cp15 .data q.2 true me = .abort → exec q.1 s = .next taken) ∧
      (s.cp15.p = false → s.cp15.c = false → s.wbuf = [] → extAbort s.busErrors .read q.2 = false →
        extAbort s.busErrors .write q.2 = true → exec q.1 s = .next taken))

/-- R356, R392, R514: where an access of a block transfer is refused or answered with an error, Data Abort
is taken with the words before it transferred and the later ones not, and with the base as it was: LDM, POP
and LDMIA keep the registers loaded before, STM, PUSH and STMIA the words stored before, LDC and STC the
words the coprocessor has taken or given. The DCache is off, the write buffer empty and the words
nonbufferable here. What an aborted transfer keeps is the spec's own decision D18 (log 53). -/
def Obligations.BlockTransferAborts : Prop :=
  ∀ (cond : BitVec 4) (p u w : BitVec 1) (rn : BitVec 4) (list : BitVec 16) (low : BitVec 15) (r : BitVec 1)
    (rb : BitVec 3) (rlist : BitVec 8) (i : BitVec 4) (s : State),
    s.passes cond = true → s.undebugged = true → s.cp15.c = false → s.wbuf = [] → s.mem.wf = true → rn ≠ 15#4 →
    let taken (t : State) : State := t.entered modeAbt (s.pc + 8#32) 0x10#32 (s.cpsr.extractLsb' 6 1)
    let first := fun l : BitVec 16 => blockFirst p u (s.reg rn) l
    let absent := fun (l : BitVec 16) => w = 1#1 → l.getLsbD rn.toNat = false
    let lowest := fun (l : BitVec 16) (b : BitVec 4) => l.getLsbD b.toNat = true → ∀ j, j < b.toNat → l.getLsbD j = false
    let other := s.mode ≠ modeUsr ∧ s.mode ≠ modeSys
    let popped := r ++ 0#7 ++ rlist
    let pushed := 0#1 ++ r ++ 0#6 ++ rlist
    let lows := 0#8 ++ rlist
    let below := fun (l : BitVec 16) (j : BitVec 4) => j.toNat < i.toNat ∧ l.getLsbD j.toNat = true
    let stops := fun (l : BitVec 16) (start : Word) (write : Bool) =>
      l.getLsbD i.toNat = true ∧ s.turnsAway (wordAddr (slotAddr start l i.toNat)) write ∧
        ∀ j, below l j → s.letsOut (wordAddr (slotAddr start l j.toNat)) write
    (∀ q ∈ ([(absent list, .ldm cond p u w rn list, list, first list, rn),
        (absent (1#1 ++ low) ∧ modeHasSpsr s.mode = true, .ldmRestore cond p u w rn low, 1#1 ++ low, first (1#1 ++ low), rn),
        (True, .tPop r rlist, popped, s.reg 13#4, 13#4),
        (True, .tLdmia rb rlist, lows, s.reg (lowReg rb), lowReg rb)] :
        List (Prop × Instr × BitVec 16 × Word × BitVec 4)),
      q.1 → stops q.2.2.1 q.2.2.2.1 false →
        ∃ regs : RegFile,
          exec q.2.1 s = .next (taken { s with regs := regs }) ∧
          (∀ j, below q.2.2.1 j → j ≠ q.2.2.2.2 →
            regs[regIndex s.mode j] = memWord s.mem (slotAddr q.2.2.2.1 q.2.2.1 j.toNat)) ∧
          (∀ k : Fin 30, (∀ j, below q.2.2.1 j → j ≠ q.2.2.2.2 → regIndex s.mode j ≠ k) → regs[k] = s.regs[k])) ∧
    (other → stops (0#1 ++ low) (first (0#1 ++ low)) false →
      ∃ regs : RegFile,
        exec (.ldmUser cond p u 0#1 rn low) s = .next (taken { s with regs := regs }) ∧
        (∀ j, below (0#1 ++ low) j → regIndex modeUsr j ≠ regIndex s.mode rn →
          regs[regIndex modeUsr j] = memWord s.mem (slotAddr (first (0#1 ++ low)) (0#1 ++ low) j.toNat)) ∧
        (∀ k : Fin 30, (∀ j, below (0#1 ++ low) j → regIndex modeUsr j ≠ regIndex s.mode rn → regIndex modeUsr j ≠ k) →
          regs[k] = s.regs[k])) ∧
    (∀ q ∈ ([(w = 1#1 → lowest list rn, .stm cond p u w rn list, list, first list,
          fun j => if j = 15#4 then s.pc + 12#32 else s.reg j),
        (other, .stmUser cond p u 0#1 rn list, list, first list,
          fun j => if j = 15#4 then s.pc + 12#32 else s.bankGet modeUsr j),
        (True, .tPush r rlist, pushed, s.reg 13#4 - BitVec.ofNat 32 (4 * listedBelow pushed 16), s.reg),
        (lowest lows (lowReg rb), .tStmia rb rlist, lows, s.reg (lowReg rb), s.reg)] :
        List (Prop × Instr × BitVec 16 × Word × (BitVec 4 → Word))),
      q.1 → stops q.2.2.1 q.2.2.2.1 true →
        ∃ mem : Memory,
          exec q.2.1 s = .next (taken { s with mem := mem }) ∧
          (∀ j, below q.2.2.1 j → memWord mem (slotAddr q.2.2.2.1 q.2.2.1 j.toNat) = q.2.2.2.2 j) ∧
          (∀ a, (∀ j, below q.2.2.1 j → wordAddr (slotAddr q.2.2.2.1 q.2.2.1 j.toNat) ≠ wordAddr a) →
            memWord mem a = memWord s.mem a)) ∧
    (∀ (crd cp : BitVec 4) (l : BitVec 1) (imm8 : BitVec 8) (n k : Nat) (rest : List CpAnswer),
      s.attached.getLsbD cp.toNat = true → s.cpAnswers = .accept n :: rest → k < n → n ≤ 16 →
      let base := s.reg rn
      let up := base + BitVec.ofNat 32 (4 * imm8.toNat)
      let down := base - BitVec.ofNat 32 (4 * imm8.toNat)
      let t := { s with cpAnswers := rest, draws := s.draws + 1 }
      let word := fun (start : Word) (m : Nat) => wordAddr start + BitVec.ofNat 32 (4 * m)
      let ends := fun (start : Word) (write : Bool) =>
        s.turnsAway (word start k) write ∧ ∀ m, m < k → s.letsOut (word start m) write
      (∀ q ∈ ([(.ldcPre cond u l w rn crd cp imm8, if u = 1#1 then up else down), (.ldcUp cond l w rn crd cp imm8, base),
          (.ldcDown cond l rn crd cp imm8, base)] : List (Instr × Word)),
        ends q.2 false →
          exec q.1 s =
            .next (taken { t with
              cpState := s.cpState.setIfInBounds cp.toNat
                ((List.range k).foldl
                  (fun st m => Config.cpLoadWord cp.toNat (codeWord q.1) m (memWord s.mem (word q.2 m)) st)
                  (s.cpStateOf cp)) })) ∧
      (∀ q ∈ ([(.stcPre cond u l w rn crd cp imm8, if u = 1#1 then up else down), (.stcUp cond l w rn crd cp imm8, base),
          (.stcDown cond l rn crd cp imm8, base)] : List (Instr × Word)),
        ends q.2 true →
          ∃ mem : Memory,
            exec q.1 s = .next (taken { t with mem := mem }) ∧
            (∀ m, m < k →
              memWord mem (word q.2 m) = Config.cpStoreWord cp.toNat (codeWord q.1) m (s.cpStateOf cp)) ∧
            (∀ a, (∀ m, m < k → word q.2 m ≠ wordAddr a) → memWord mem a = memWord s.mem a)))

/-- The paths of a data access (R126, R127, R133, R136 to R139, R145, R146, R149, R153, R160) past its
check, with the DCache on or off and whatever the write buffer holds. A hit answers a load and always takes
a store. A load miss fills a line of a cachable region, after the eviction of a dirty one, with the words
that external memory holds or will hold when the buffer has drained (`WB_RAW_COHERENT`), in the line that
the lockdown register names with its Load bit set, else in some line from its index up. Any other load goes
out behind the drained buffer. A store goes to its line only, or into the buffer, or straight out behind the
drained buffer; where that last one hits and is aborted there is no behaviour (S14). With C = 0 no line is
looked up and no region is cachable. What the buffer does is WriteBufferEntries. The coherence is a
parameter (log 25). -/
def Obligations.DataCachePaths : Prop :=
  ∀ (a v : Word) (sz : Size) (priv cd bd join : Bool) (s : State),
    s.undebugged = true → s.cp15.p = true → s.mem.wf = true →
    let g := segOf a
    let lanes := laneMask s.cp15.b sz a
    let x := lanesPut s.cp15.b sz a v
    let item (w : Word) : Word := lanesGet s.cp15.b sz a w
    let cached := cd && s.cp15.c
    let drained := drainWriteBuffer s
    let absent : Prop := s.cp15.c = false ∨ s.dcache.lookup a = .miss
    let put (t : State) : State := wbPut a lanes x join t
    (checkAccess s.cp15 .data a false priv = .pass cd bd →
      (∀ idx, s.cp15.c = true → s.dcache.lookup a = .hit idx →
        load a sz priv s = .done (item ((s.dcache.line g idx).data[wordOf a])) s) ∧
      (s.cp15.c = true → s.dcache.lookup a = .double → load a sz priv s = .fault .cacheDoubleHit) ∧
      (absent → cached = false →
        load a sz priv s =
          if extAbort s.busErrors .read a then .abort drained else .done (item (memWord drained.mem a)) drained) ∧
      (absent → cached = true →
        ∃ (c : Cache) (idx : Fin 64),
          let old := s.dcache.line g idx
          let out : WbEntry := { addr := lineAddr old.tag g, lanes := 15#4, data := old.data.toList }
          let s1 := { s with draws := s.draws + 1 }
          let t := if old.valid && old.dirty then wbNew out s1 else s1
          let seen := if s.wbRawCoherent then t.wbuf.foldl wbWrite t.mem else t.mem
          load a sz priv s = .done (item (memWord seen a)) { t with dcache := c } ∧
          s.cp15.lockD.names idx ∧ c.victim.toNat = idx.val ∧
          (c.line g idx).valid = true ∧ (c.line g idx).dirty = false ∧ (c.line g idx).tag = tagOf a ∧
          (∀ k : Fin 4, (c.line g idx).data[k] =
            memWord seen ((a &&& 0xFFFFFFF0#32) + BitVec.ofNat 32 (4 * k.val))) ∧
          ∀ g' j, (g', j) ≠ (g, idx) → c.line g' j = s.dcache.line g' j)) ∧
    (checkAccess s.cp15 .data a true priv = .pass cd bd →
      (∀ idx, s.cp15.c = true → s.dcache.lookup a = .hit idx →
        let l := s.dcache.line g idx
        let merged := l.data.set (wordOf a) (mergeLanes lanes (l.data[wordOf a]) x)
        let t := { s with dcache := s.dcache.setLine g idx { l with data := merged } }
        (cd = true → bd = true →
          store a sz v priv join s =
            .done () { s with dcache := s.dcache.setLine g idx { l with data := merged, dirty := true } }) ∧
        (cd ≠ bd → store a sz v priv join s = .done () (put t)) ∧
        (cd = false → bd = false →
          store a sz v priv join s =
            if extAbort s.busErrors .write a then .fault .abortedStoreHit
            else .done () { drained with dcache := t.dcache, mem := memWrite drained.mem a lanes x })) ∧
      (s.cp15.c = true → s.dcache.lookup a = .double → store a sz v priv join s = .fault .cacheDoubleHit) ∧
      (absent → cached = true ∨ bd = true → store a sz v priv join s = .done () (put s)) ∧
      (absent → cached = false → bd = false →
        store a sz v priv join s =
          if extAbort s.busErrors .write a then .abort drained
          else .done () { drained with mem := memWrite drained.mem a lanes x }))

/-- The write buffer (R150 to R154): a new entry waits until an address slot and its data slots are free,
for which no more entries leave than are needed, and goes behind the others; a single store is an entry of
its own; a word of an STM joins the entry of the word before it until its address is a multiple of 16;
between two instructions and between two inputs some entries may leave, the oldest first under `WB_FIFO`,
and nothing else changes; a drain writes out every entry; and an entry writes its words, the lanes of each,
and no other word. The order, and when entries leave by themselves, are log 25. -/
def Obligations.WriteBufferEntries : Prop :=
  ∀ (s : State) (e : WbEntry) (a v : Word) (lanes : BitVec 4),
    let fits := fun (es : List WbEntry) (n : Nat) => es.length < 4 ∧ wbSlots es + n ≤ 8
    let single : WbEntry := { addr := a, lanes := lanes, data := [v] }
    let joined := fun last : WbEntry => { last with data := last.data ++ [v] }
    (e.data.length ≤ 8 → ∃ (gone rest : List WbEntry) (d : Nat),
      wbNew e s = { s with wbuf := rest ++ [e], mem := gone.foldl wbWrite s.mem, draws := s.draws + d } ∧
      s.leaves gone rest ∧ (s.wbFifo = true → d = 0) ∧ fits rest e.data.length ∧
      ∀ before last, gone = before ++ [last] → ¬ fits (last :: rest) e.data.length) ∧
    wbPut a lanes v false s = wbNew single s ∧
    (∀ es last, s.wbuf = es ++ [last] → wbSlots s.wbuf < 8 →
      last.addr + BitVec.ofNat 32 (4 * last.data.length) = a →
      (a.extractLsb' 0 4 ≠ 0#4 → wbPut a lanes v true s = { s with wbuf := es ++ [joined last] }) ∧
      (a.extractLsb' 0 4 = 0#4 → wbPut a lanes v true s = wbNew single s)) ∧
    (∀ oldest es last, s.wbuf = oldest :: es ++ [last] → wbSlots s.wbuf = 8 → oldest.data ≠ [] → s.wbFifo = true →
      last.addr + BitVec.ofNat 32 (4 * last.data.length) = a → a.extractLsb' 0 4 ≠ 0#4 →
      wbPut a lanes v true s = { s with wbuf := es ++ [joined last], mem := wbWrite s.mem oldest }) ∧
    s.drainsTo (backgroundDrain s) ∧ (s.wbuf = [] → backgroundDrain s = s) ∧
    (s.betweenInputs = s ∨ s.betweenInputs = backgroundDrain s) ∧
    (s.waiting = false → s.resetHeld = false → s.pins.bnRES = true → s.betweenInputs = backgroundDrain s) ∧
    (∃ (gone : List WbEntry) (d : Nat),
      drainWriteBuffer s = { s with wbuf := [], mem := gone.foldl wbWrite s.mem, draws := s.draws + d } ∧
      s.leaves gone [] ∧ (s.wbFifo = true → d = 0)) ∧
    (s.mem.wf = true → e.data.length ≤ 8 →
      let word := fun k : Nat => wordAddr e.addr + BitVec.ofNat 32 (4 * k)
      (∀ k (h : k < e.data.length),
        memWord (wbWrite s.mem e) (word k) = mergeLanes e.lanes (memWord s.mem (word k)) e.data[k]) ∧
      ∀ b, (∀ k, k < e.data.length → word k ≠ wordAddr b) → memWord (wbWrite s.mem e) b = memWord s.mem b)

/-- The two accesses of a swap (R162, R334, R335) past both checks: in a cachable region the load and then
the store of such a region; in any other the buffer drains, then one external read and one unbuffered
external write, each of which can abort. A line left over there may answer the read, and then takes the
write as well; whether it does is open, and that an aborted write leaves the line as it was is the model's
log 56. A swap that either check refuses does neither. -/
def Obligations.SwapPaths : Prop :=
  ∀ (a v : Word) (sz : Size) (cd bd cw bw : Bool) (s : State),
    s.undebugged = true →
    let me := s.privileged
    let g := segOf a
    let lanes := laneMask s.cp15.b sz a
    let x := lanesPut s.cp15.b sz a v
    let item (w : Word) : Word := lanesGet s.cp15.b sz a w
    let drained := drainWriteBuffer s
    let bus (t : State) : Access Word :=
      if extAbort s.busErrors .read a then .abort t
      else if extAbort s.busErrors .write a then .abort t
      else .done (item (memWord t.mem a)) { t with mem := memWrite t.mem a lanes x }
    (checkAccess s.cp15 .data a false me = .pass cd bd → checkAccess s.cp15 .data a true me = .pass cw bw →
      (cd = true → s.cp15.c = true → s.cp15.p = true →
        (∀ old t u, load a sz me s = .done old t → store a sz v me false t = .done () u →
          swapAccess a sz v s = .done old u) ∧
        (∀ f, load a sz me s = .fault f → swapAccess a sz v s = .fault f)) ∧
      (cd = false ∨ s.cp15.c = false ∨ s.cp15.p = false →
        (s.cp15.c = false ∨ s.dcache.lookup a = .miss → swapAccess a sz v s = bus drained) ∧
        (s.cp15.c = true → s.dcache.lookup a = .double → swapAccess a sz v s = .fault .cacheDoubleHit) ∧
        (∀ idx, s.cp15.c = true → s.dcache.lookup a = .hit idx →
          let t := { drained with draws := drained.draws + 1 }
          let l := s.dcache.line g idx
          let merged := l.data.set (wordOf a) (mergeLanes lanes (l.data[wordOf a]) x)
          swapAccess a sz v s = bus t ∨
            swapAccess a sz v s =
              if extAbort s.busErrors .write a then .abort t
              else
                .done (item (l.data[wordOf a]))
                  { t with
                    dcache := s.dcache.setLine g idx { l with data := merged }
                    mem := memWrite t.mem a lanes x }))) ∧
    (checkAccess s.cp15 .data a false me = .abort → swapAccess a sz v s = .abort s) ∧
    (checkAccess s.cp15 .data a false me = .pass cd bd → checkAccess s.cp15 .data a true me = .abort →
      swapAccess a sz v s = .abort s)

/-- The paths of an instruction fetch past its check (R106, R134 to R137, R143, R149, R163): with the ICache
on a line that holds the address answers, whatever memory holds by now, since no store and no bus write
touches the ICache; a miss in a cachable region fills a line of its segment from external memory, not from
the write buffer, in the line that the lockdown register names with its Load bit set, else in some line from
its index up; any other fetch is one external read, whose error marks the instruction for Prefetch Abort. -/
def Obligations.InstructionFetchPaths : Prop :=
  ∀ (s : State) (c b : Bool),
    let a := s.pc
    let g := segOf a
    let item (w : Word) : Word := if s.thumb then lanesGet s.cp15.b .half a w else w
    let absent : Prop := s.cp15.i = false ∨ s.icache.lookup a = .miss
    (checkAccess s.cp15 .instr a false s.privileged = .abort → fetch s = .abort s) ∧
    (checkAccess s.cp15 .instr a false s.privileged = .pass c b →
      (∀ idx, s.cp15.i = true → s.icache.lookup a = .hit idx →
        fetch s = .done (item ((s.icache.line g idx).data[wordOf a])) s) ∧
      (s.cp15.i = true → s.icache.lookup a = .double → fetch s = .fault .cacheDoubleHit) ∧
      (absent → c = false ∨ s.cp15.i = false ∨ s.cp15.p = false →
        fetch s = if extAbort s.busErrors .fetch a then .abort s else .done (item (memWord s.mem a)) s) ∧
      (s.icache.lookup a = .miss → c = true → s.cp15.i = true → s.cp15.p = true →
        ∃ (lines : Cache) (idx : Fin 64),
          fetch s = .done (item (memWord s.mem a)) { s with icache := lines, draws := s.draws + 1 } ∧
          s.cp15.lockI.names idx ∧ lines.victim.toNat = idx.val ∧
          (lines.line g idx).valid = true ∧ (lines.line g idx).tag = tagOf a ∧
          (∀ k : Fin 4, (lines.line g idx).data[k] =
            memWord s.mem ((a &&& 0xFFFFFFF0#32) + BitVec.ofNat 32 (4 * k.val))) ∧
          ∀ g' j, (g', j) ≠ (g, idx) → lines.line g' j = s.icache.line g' j)) ∧
    (∀ (d v : Word) (sz : Size) (priv join : Bool) (t : State),
      store d sz v priv join s = .done () t → t.icache = s.icache) ∧
    (∀ (cell : Word) (v : Byte) (t : State), applyInput (.busWrite cell v) s = .next t → t.icache = s.icache)

/-! Debug. -/

/-- R581 to R584, R607: with DBGEN HIGH a debug request stops the machine between instructions (but for the
one after a watchpointed access), a breakpoint before the instruction it stands on, whose effect does not
happen; in debug state only entries of the write buffer move by themselves (R154). The pc in debug state is
the model's log 49; that a breakpointed instruction enters debug state whatever its condition is its log 36;
that a request abandons a coprocessor instruction that waits is its log 60; when entries leave the write
buffer is its log 25. -/
def Obligations.DebugStateEntry : Prop :=
  ∀ s : State,
    s.inputs = [] → s.pins.bnRES = true → s.resetHeld = false →
    ∃ d : State, s.drainsTo d ∧ (s.wbuf = [] → d = s) ∧
      let stopped (t : State) : Prop :=
        t.dbg.active = true ∧ t.pc = s.pc + (if s.thumb then 6#32 else 12#32) ∧ t.regs = s.regs ∧ t.cpsr = s.cpsr ∧
          t.waiting = false ∧ t.busy = none ∧ t.cp15 = s.cp15 ∧ t.dcc = s.dcc ∧ t.dcache = s.dcache ∧
          t.mem = d.mem ∧ t.wbuf = d.wbuf
      (s.dbg.active = true → step s = .next { d with instrExec := false }) ∧
      (s.dbg.active = false → s.pins.dbgen = true → s.pins.edbgrq = true ∨ s.ice.ctrl.getLsbD 1 = true →
        s.dbg.watch ≠ .armed → ∃ t, step s = .next t ∧ stopped t) ∧
      (s.dbg.active = false → s.pins.dbgen = true → s.debugRequest = false → s.waiting = false → s.busy = none →
        s.pins.nFIQ = true ∨ s.flagF = true → s.pins.nIRQ = true ∨ s.flagI = true →
        ∀ (w : Word) (t : State), fetch d.beforeFetch = .done w t → breakpointed w t = true →
          ∃ u, step s = .next u ∧ stopped u) ∧
      (∀ w : Word, s.watching = true → s.pins.iebkpt = true → breakpointed w s = true)

/-- R583, R585, R607, R618: after a watchpointed access the next instruction completes, whatever debug
request waits, and debug state follows it with SYSSPEED HIGH; a single step enters debug state after its
instruction; an exception with a watchpoint pending is entered first, and debug state follows at its vector.
Every access of plain memory is watched, a swap as a read of the old value and then as a write of the new
one, where a match of either is enough. The item that is compared is the model's log 37, single step with a
watchpoint its log 59, the pc in debug state its log 49, when entries leave the write buffer its log 25. -/
def Obligations.WatchpointsAndSingleStep : Prop :=
  (∀ s : State,
    s.inputs = [] → s.pins.bnRES = true → s.resetHeld = false → s.dbg.active = false → s.pins.dbgen = true →
    s.waiting = false → s.busy = none → s.pins.nFIQ = true ∨ s.flagF = true → s.pins.nIRQ = true ∨ s.flagI = true →
    s.debugRequest = false ∨ s.dbg.watch = .armed →
    ∃ d : State, s.drainsTo d ∧ (s.wbuf = [] → d = s) ∧
      ∀ (t u : State) (w : Word),
        fetch d.beforeFetch = .done w t → breakpointed w t = false →
        exec (decodeFetched t.thumb w) ((watchFetch w t).showExec w) = .next u →
        u.busy = none → u.watching = true →
        let stepping := u.ice.ctrl.getLsbD 3
        ∃ v, step s = .next v ∧ v.regs = u.regs ∧ v.cpsr = u.cpsr ∧ v.mem = u.mem ∧ v.dcache = u.dcache ∧
          v.pc = u.pc + (if v.dbg.active then (if u.thumb then 6#32 else 12#32) else 0#32) ∧
          (v.dbg.active = true ↔ u.dbg.watch = .armed ∨ stepping = true) ∧
          (v.dbg.active = true → v.tap.sysSpeed = decide (u.dbg.watch ≠ .idle)) ∧
          (u.dbg.watch = .hit → stepping = false → v.dbg.watch = .armed)) ∧
  (∀ (a x : Word) (sz : Size) (me : Bool) (s : State),
    s.watching = true → s.cp15.p = false → s.cp15.c = false → s.wbuf = [] → s.busErrors = [] → s.dbg.watch = .idle →
    let item := lanesGet s.cp15.b sz a (memWord s.mem a)
    let seen := fun (d : Word) (write priv : Bool) =>
      s.pins.dewpt = true ∨ iceMatch s .data a d (dataCtrl sz write priv) = true
    (∃ t, load a sz me s = .done item t ∧ (t.dbg.watch = .hit ↔ seen item false me)) ∧
    (∃ t, store a sz x me false s = .done () t ∧ (t.dbg.watch = .hit ↔ seen x true me)) ∧
    (∃ t, swapAccess a sz x s = .done item t ∧
      let read := dataCtrl sz false s.privileged
      let behind := { s with ice := { s.ice with chainOut := chainNext s .data a item read } }
      (t.dbg.watch = .hit ↔
        seen item false s.privileged ∨ iceMatch behind .data a x (dataCtrl sz true s.privileged) = true))) ∧
  (∀ (e : Exc) (s : State),
    s.watching = true → s.dbg.watch ≠ .idle →
    ∃ t, takeException e s = t ∧ t.dbg.active = true ∧ t.pc = s.cp15.vectorBase + e.offset + 12#32 ∧ t.mode = e.mode ∧
      t.spsrOf e.mode = s.cpsr ∧ t.bankGet e.mode 14#4 = s.linkOf e ∧ t.tap.sysSpeed = true ∧
      t.tap.wptAndBkpt = s.ice.vectorCatch.getLsbD e.catchBit)

/-- R612 to R614, R619, R590: a watchpoint unit matches an access of the interface that bit 3 of its control
value selects when every bit of address, data and control agrees with its value register or is masked, bit 3
of the control never compared; unit 0 has RANGEOUT and CHAINOUT of unit 1 as control bits 7 and 6; a match
asserts RANGEOUT, and with ENABLE the breakpoint; CHAINOUT keeps the data comparison of the last access
whose address and control matched, and is LOW while nTRST is. That unit 0 sees CHAINOUT as it was before the
access, that the RANGE and CHAIN inputs of unit 1 are constants, and the codes of DMAS, are the model's log
35; that only the control value of unit 1 clears CHAINOUT is its log 42. -/
def Obligations.ComparatorsMatch : Prop :=
  ∀ (s : State) (side : Side) (a d : Word) (c : BitVec 5),
    let agree (x v m : Word) : Prop := ∀ i, i < 32 → m.getLsbD i = true ∨ x.getLsbD i = v.getLsbD i
    let located (w : Watchpoint) (ctrl : Nat → Bool) : Prop :=
      (w.ctrlValue.getLsbD 3 = true ↔ side = .data) ∧ agree a w.addrValue w.addrMask ∧
        ∀ i, i < 8 → i ≠ 3 → w.ctrlMask.getLsbD i = true ∨ ctrl i = w.ctrlValue.getLsbD i
    let bits (range chain extern : Bool) : Nat → Bool := fun i =>
      if i = 7 then range else if i = 6 then chain else if i = 5 then extern else c.getLsbD i
    let ctrl1 := bits Config.range1Input Config.chain1Input s.pins.extern1
    let ctrl0 := bits (rangeOut1 s side a d c) s.ice.chainOut s.pins.extern0
    let data (w : Watchpoint) : Prop := agree d w.dataValue w.dataMask
    (rangeOut1 s side a d c = true ↔ located s.ice.wp1 ctrl1 ∧ data s.ice.wp1) ∧
    (rangeOut0 s side a d c = true ↔ located s.ice.wp0 ctrl0 ∧ data s.ice.wp0) ∧
    (iceMatch s side a d c = true ↔
      (s.ice.wp1.ctrlValue.getLsbD 8 = true ∧ rangeOut1 s side a d c = true) ∨
        (s.ice.wp0.ctrlValue.getLsbD 8 = true ∧ rangeOut0 s side a d c = true)) ∧
    (s.pins.nTRST = false → chainNext s side a d c = false) ∧
    (s.pins.nTRST = true → located s.ice.wp1 ctrl1 → (chainNext s side a d c = true ↔ data s.ice.wp1)) ∧
    (s.pins.nTRST = true → ¬ located s.ice.wp1 ctrl1 → chainNext s side a d c = s.ice.chainOut) ∧
    (∀ (sz : Size) (write priv : Bool),
      let k := dataCtrl sz write priv
      k.getLsbD 4 = priv ∧ k.getLsbD 0 = write ∧
        k.extractLsb' 1 2 = match sz with | .byte => 0b00#2 | .half => 0b01#2 | .word => 0b10#2) ∧
    (fetchCtrl s).getLsbD 4 = s.privileged ∧ (fetchCtrl s).getLsbD 1 = s.thumb ∧
    (∀ (unit1 : Bool) (v : Word),
      (∃ t, iceWrite (.ctrlValue unit1) v s = .next t ∧ (t.ice.unit unit1).ctrlValue = v.extractLsb' 0 9 ∧
        t.ice.unit (!unit1) = s.ice.unit (!unit1) ∧ t.ice.chainOut = (!unit1 && s.ice.chainOut)) ∧
      (∃ t, iceWrite (.ctrlMask unit1) v s = .next t ∧ (t.ice.unit unit1).ctrlMask.getLsbD 3 = false ∧
        (∀ i, i < 8 → i ≠ 3 → (t.ice.unit unit1).ctrlMask.getLsbD i = v.getLsbD i) ∧
        t.ice.unit (!unit1) = s.ice.unit (!unit1)))

/-- R62, R590 to R597, R611 to R613, R620: through scan chain 2 the debugger writes and reads the watchpoint
registers, debug control and vector catch, a write changing that one register of the unit (and the CHAINOUT
latch, where it is the control value of unit 1) and a read none, and both ends of the comms channel; every
address that Table 8-10 gives no register is refused; IDCODE gives what the TAPID pins carry, SCAN_N and
nTRST do what the TAP's tables say. A whole scan as one input is the model's log 21, the refused addresses
are its log 43. -/
def Obligations.DebuggerThroughTheTap : Prop :=
  ∀ (s : State) (data : Word) (v : BitVec 67) (pins : Pins),
    s.pins.nTRST = true →
    let scan (rw : BitVec 1) (addr : BitVec 5) : Result :=
      applyInput (.scanDr ((0#29 ++ rw ++ addr ++ data : BitVec 67))) s
    let words : List (BitVec 5 × Word × Ice) :=
      [(0b01000#5, s.ice.wp0.addrValue, { s.ice with wp0 := { s.ice.wp0 with addrValue := data } }),
        (0b01001#5, s.ice.wp0.addrMask, { s.ice with wp0 := { s.ice.wp0 with addrMask := data } }),
        (0b01010#5, s.ice.wp0.dataValue, { s.ice with wp0 := { s.ice.wp0 with dataValue := data } }),
        (0b01011#5, s.ice.wp0.dataMask, { s.ice with wp0 := { s.ice.wp0 with dataMask := data } }),
        (0b10000#5, s.ice.wp1.addrValue, { s.ice with wp1 := { s.ice.wp1 with addrValue := data } }),
        (0b10001#5, s.ice.wp1.addrMask, { s.ice with wp1 := { s.ice.wp1 with addrMask := data } }),
        (0b10010#5, s.ice.wp1.dataValue, { s.ice with wp1 := { s.ice.wp1 with dataValue := data } }),
        (0b10011#5, s.ice.wp1.dataMask, { s.ice with wp1 := { s.ice.wp1 with dataMask := data } })]
    let narrow : List (BitVec 5 × Nat × Word × Ice) :=
      [(0b00000#5, 4, s.ice.ctrl.zeroExtend 32, { s.ice with ctrl := data.extractLsb' 0 4 }),
        (0b00010#5, 8, s.ice.vectorCatch.zeroExtend 32, { s.ice with vectorCatch := data.extractLsb' 0 8 }),
        (0b01100#5, 9, s.ice.wp0.ctrlValue.zeroExtend 32,
          { s.ice with wp0 := { s.ice.wp0 with ctrlValue := data.extractLsb' 0 9 } }),
        (0b01101#5, 8, s.ice.wp0.ctrlMask.zeroExtend 32,
          { s.ice with wp0 := { s.ice.wp0 with ctrlMask := data.extractLsb' 0 8 &&& 0xF7#8 } }),
        (0b10100#5, 9, s.ice.wp1.ctrlValue.zeroExtend 32,
          { s.ice with wp1 := { s.ice.wp1 with ctrlValue := data.extractLsb' 0 9 }, chainOut := false }),
        (0b10101#5, 8, s.ice.wp1.ctrlMask.zeroExtend 32,
          { s.ice with wp1 := { s.ice.wp1 with ctrlMask := data.extractLsb' 0 8 &&& 0xF7#8 } })]
    (s.tap.ir = 0b1100#4 → s.tap.chain = 2#5 →
      (∀ p ∈ words, ∃ t u, scan 1#1 p.1 = .next t ∧ t = { s with ice := p.2.2, tap := t.tap } ∧
        scan 0#1 p.1 = .next u ∧ u = { s with tap := u.tap, draws := u.draws } ∧
        u.tap.scan2.extractLsb' 0 32 = p.2.1) ∧
      (∀ p ∈ narrow, ∃ t u, scan 1#1 p.1 = .next t ∧ t = { s with ice := p.2.2.2, tap := t.tap } ∧
        scan 0#1 p.1 = .next u ∧ u = { s with tap := u.tap, draws := u.draws } ∧
        ∀ k, k < p.2.1 → u.tap.scan2.getLsbD k = p.2.2.1.getLsbD k) ∧
      (∃ t, scan 1#1 0b00101#5 = .next t ∧ t.dcc = { s.dcc with readData := data, r := true }) ∧
      (∃ t, scan 0#1 0b00101#5 = .next t ∧ t.tap.scan2.extractLsb' 0 32 = s.dcc.writeData ∧
        t.dcc = { s.dcc with w := false }) ∧
      (∃ t, scan 0#1 0b00100#5 = .next t ∧ t.tap.scan2.extractLsb' 28 4 = 0b0010#4 ∧
        t.tap.scan2.getLsbD 1 = s.dcc.w ∧ t.tap.scan2.getLsbD 0 = s.dcc.r ∧ t.dcc = s.dcc) ∧
      (∀ addr rw, addr ∉ words.map Prod.fst → addr ∉ narrow.map Prod.fst → addr ≠ 0b00001#5 → addr ≠ 0b00100#5 →
        addr ≠ 0b00101#5 → scan rw addr = .refused .debugPort)) ∧
    (s.tap.ir = 0b1110#4 → ∃ t, applyInput (.scanDr v) s = .next t ∧
      t.tap = { s.tap with out := s.pins.tapId.zeroExtend 67 }) ∧
    (s.tap.ir = 0b0010#4 → ∃ t, applyInput (.scanDr v) s = .next t ∧ t.tap.chain = v.extractLsb' 0 5) ∧
    (pins.nTRST = false → ∃ t, applyInput (.pins pins) s = .next t ∧ t.pins = pins ∧ t.tap.ir = 0b1110#4 ∧
      t.tap.chain = 3#5 ∧ t.ice = { s.ice with chainOut := false })

/-- R595, R596, R598 to R600, R606, R615, R616: under INTEST scan chain 1 shifts 67 cells in, and out its
control and data cells; chains 4 and 5 read the CAM of a cache line; chain 15 reads and writes the CP15
registers and flushes the ICache; an external chain takes the value on SDIN; and the debug status register
takes the five bits of a write and reports its five signals, whatever was written. A whole scan as one input
is the model's log 21, its 67 bits for an external chain log 61, what that chain shifts out, the place of
the TAG bits and the refused addresses log 43, the values a write of chain 15 refuses as the MCR does logs
28 and 30, that the signals of the debug status register take it back before a read log 24, that the cells
shifted out are those last set or scanned in log 58, the fetches that DBGACK masks log 57. -/
def Obligations.ScanChains : Prop :=
  ∀ (s : State) (v : BitVec 67) (data : Word),
    s.pins.nTRST = true → s.tap.ir = 0b1100#4 →
    let scan (v : BitVec 67) : Result := applyInput (.scanDr v) s
    (s.tap.chain = 1#5 → ∃ t, scan v = .next t ∧ t = { s with tap := t.tap, draws := t.draws } ∧
      t.tap.instr = v.extractLsb' 0 32 ∧ t.tap.sysSpeed = v.getLsbD 32 ∧ t.tap.wptAndBkpt = v.getLsbD 33 ∧
      t.tap.ddEn = v.getLsbD 34 ∧ (∀ i, i < 32 → t.tap.dd.getLsbD (31 - i) = v.getLsbD (35 + i)) ∧
      t.tap.out.getLsbD 32 = s.tap.sysSpeed ∧ t.tap.out.getLsbD 33 = s.tap.wptAndBkpt ∧ t.tap.out.getLsbD 34 = s.tap.ddEn ∧
      ∀ i, i < 32 → t.tap.out.getLsbD (35 + i) = s.tap.dd.getLsbD (31 - i)) ∧
    (∀ (g : BitVec 2) (idx : BitVec 6),
      let asked : BitVec 67 := 0#39 ++ idx ++ 0#20 ++ g
      let line (c : Cache) : Line := c.line ⟨g.toNat, g.isLt⟩ ⟨idx.toNat, idx.isLt⟩
      (s.tap.chain = 4#5 → ∃ t, scan asked = .next t ∧ t = { s with tap := t.tap } ∧
        t.tap.scan4 = BitVec.ofBool (line s.icache).valid ++ 0#1 ++ Config.camTag (line s.icache).tag ∧
        t.tap.out.extractLsb' 0 29 = s.tap.scan4) ∧
      (s.tap.chain = 5#5 → ∃ t, scan asked = .next t ∧ t = { s with tap := t.tap } ∧
        t.tap.scan5 =
          BitVec.ofBool (line s.dcache).valid ++ BitVec.ofBool (line s.dcache).dirty ++
            Config.camTag (line s.dcache).tag ∧
        t.tap.out.extractLsb' 0 29 = s.tap.scan5)) ∧
    (s.tap.chain = 4#5 ∨ s.tap.chain = 5#5 →
      v.getLsbD 28 = true ∨ v.extractLsb' 6 16 ≠ 0#16 ∨ v.extractLsb' 2 4 ≠ 0#4 → scan v = .refused .debugPort) ∧
    (s.tap.chain = 15#5 →
      let at15 (rw : BitVec 1) (addr : BitVec 6) : Result := scan (0#28 ++ rw ++ addr ++ data)
      (∀ p ∈ ([(0b000000#6, .idCode), (0b000010#6, .control), (0b000100#6, .cachable .data),
          (0b000101#6, .cachable .instr), (0b000110#6, .bufferable), (0b001010#6, .permission .data),
          (0b001011#6, .permission .instr), (0b010010#6, .lockdown .data), (0b010011#6, .lockdown .instr),
          (0b011110#6, .test)] ++
          (List.finRange 8).map (fun n => (1#1 ++ BitVec.ofNat 4 n.val ++ 0#1, .region .data n)) ++
          (List.finRange 8).map (fun n => (1#1 ++ BitVec.ofNat 4 n.val ++ 1#1, .region .instr n)) :
          List (BitVec 6 × SysReg)),
        (p.2.writeRefusal data = none → ∃ t, at15 1#1 p.1 = .next t ∧
          t = { s with cp15 := s.cp15.write p.2 data, tap := t.tap }) ∧
        (∀ e, p.2.writeRefusal data = some e → at15 1#1 p.1 = .refused e) ∧
        (∃ t, at15 0#1 p.1 = .next t ∧ t = { s with tap := t.tap, draws := t.draws } ∧
          t.tap.scan15.extractLsb' 0 32 &&& ~~~p.2.freeBits = s.cp15.stated p.2)) ∧
      (∃ t, at15 1#1 0b001111#6 = .next t ∧ (∀ g idx, (t.icache.line g idx).valid = false) ∧ t.dcache = s.dcache ∧
        t.cp15 = s.cp15) ∧
      (∃ t, at15 0#1 0b001111#6 = .next t ∧ t.tap.scan15.getLsbD 31 = false ∧ t.icache = s.icache) ∧
      (∀ rw, at15 rw 0b000001#6 = .refused .debugPort ∧ at15 rw 0b110000#6 = .refused .debugPort)) ∧
    (s.tap.chain = 3#5 ∨ 16 ≤ s.tap.chain.toNat → ∃ t, scan v = .next t ∧
      t = { s with tap := { s.tap with out := t.tap.out, sdin := v }, draws := t.draws }) ∧
    (s.tap.chain = 2#5 →
      (∃ t, scan (0#29 ++ 0#1 ++ 0b00001#5 ++ data) = .next t ∧
        t = { s with ice := { s.ice with status := t.ice.status }, tap := t.tap, draws := t.draws } ∧
        t.tap.scan2.getLsbD 4 = s.thumb ∧ t.tap.scan2.getLsbD 3 = s.ice.sysComp ∧
        (t.tap.scan2.getLsbD 2 = true ↔
          s.ice.ctrl.getLsbD 2 = false ∧ s.dbg.active = false ∧ s.ice.ctrl.getLsbD 0 = false) ∧
        (t.tap.scan2.getLsbD 1 = true ↔ s.pins.edbgrq = true ∨ s.ice.ctrl.getLsbD 1 = true) ∧
        (t.tap.scan2.getLsbD 0 = true ↔ s.dbg.active = true ∨ s.dbg.ackFetches ≠ 0 ∨ s.ice.ctrl.getLsbD 0 = true)) ∧
      (∃ t, scan (0#29 ++ 1#1 ++ 0b00001#5 ++ data) = .next t ∧
        t = { s with ice := { s.ice with status := data.extractLsb' 0 5 }, tap := t.tap }))

/-- R586, R596, R601 to R606: in debug state, with INTEST and scan chain 1, one pass through RUN-TEST/IDLE
clocks the core: an instruction scanned in executes when the next is clocked in, a branch flushes two, the
words of a store appear on the data cells and no debug speed instruction reaches memory, the caches or CP15;
SYSSPEED HIGH arms RESTART, which runs a load or store at system speed and comes back five addresses on with
SYSSPEED and SYSCOMP HIGH, or runs the last instruction and leaves debug state with three fetches masked.
Reset holds the core. In Thumb state the core takes one half of the word scanned in (R602). The pipeline of
one instruction is the model's log 22, the half taken and the refused instructions its log 38, RESTART
unarmed and leaving without a branch its log 39, the masked fetches its log 57, DDEN after a clock without a
word its log 58, the fall of SYSCOMP its log 63. -/
def Obligations.InstructionsInDebugState : Prop :=
  (∀ (i : Instr) (s t : State),
    s.dbg.active = true → s.dbg.system = false → debugClass i ≠ .barred → exec i s = .next t →
    t.mem = s.mem ∧ t.wbuf = s.wbuf ∧ t.dcache = s.dcache ∧ t.icache = s.icache ∧ t.cp15 = s.cp15) ∧
  ∀ (s : State) (w : Word) (i : Instr),
    s.dbg.active = true → s.pins.nTRST = true →
    let clock : Result := applyInput .runTestIdle s
    let r := { s with instrExec := false }
    (s.pins.bnRES = false ∨ s.resetHeld = true → clock = .next s) ∧
    (s.pins.bnRES = true → s.resetHeld = false → s.tap.ir = 0b1100#4 → s.tap.chain = 1#5 →
      (∀ v rest, s.dbg.dataOut = v :: rest →
        clock = .next { r with tap := { s.tap with dd := v, ddEn := true }, dbg := { s.dbg with dataOut := rest } }) ∧
      (s.dbg.dataOut = [] → s.tap.sysSpeed = true →
        clock =
          .next { r with dbg := { s.dbg with armed := true, flush := false }, ice := { s.ice with sysComp := false } }) ∧
      (s.dbg.dataOut = [] → s.tap.sysSpeed = false → s.dbg.flush = true →
        clock = .next { r with dbg := { s.dbg with flush := false } }) ∧
      (s.dbg.dataOut = [] → s.tap.sysSpeed = false → s.dbg.flush = false →
        ∃ (item : Word) (d : Nat),
          (s.thumb = false → item = s.tap.instr ∧ d = s.draws) ∧
          (s.thumb = true →
            item = s.tap.instr.extractLsb' 0 16 ++ s.tap.instr.extractLsb' 0 16 ∨
            item = s.tap.instr.extractLsb' 16 16 ++ s.tap.instr.extractLsb' 16 16) ∧
          (s.dbg.pending = none →
            clock = .next { r with dbg := { s.dbg with pending := some item }, draws := d }) ∧
          (s.dbg.pending = some w → decodeFetched s.thumb w = i →
            let words := s.dbg.dataIn ++ [s.tap.dd]
            let ready :=
              { s with
                instrExec := s.condPassed (condField s.thumb w), dbg := { s.dbg with dataIn := words }, draws := d }
            (words.length < wordsWanted i r → clock = .next { r with dbg := { s.dbg with dataIn := words } }) ∧
            (wordsWanted i r ≤ words.length → debugClass i = .barred → clock = .refused .debugInstruction) ∧
            (wordsWanted i r ≤ words.length → debugClass i ≠ .barred → ∀ t, exec i ready = .next t →
              ∃ u, clock = .next u ∧ u.regs = t.regs ∧ u.cpsr = t.cpsr ∧ u.pc = t.pc ∧ u.mem = t.mem ∧
                u.dbg.active = t.dbg.active ∧
                (t.pc = s.pc + s.ilen → t.thumb = s.thumb → u.dbg.pending = some item ∧ u.dbg.flush = false) ∧
                (t.pc ≠ s.pc + s.ilen ∨ t.thumb ≠ s.thumb → u.dbg.pending = none ∧ u.dbg.flush = true) ∧
                (∀ v rest, t.dbg.dataOut = v :: rest → u.tap.dd = v ∧ u.tap.ddEn = true ∧ u.dbg.dataOut = rest))))) ∧
    (s.pins.bnRES = true → s.resetHeld = false → s.tap.ir = 0b0100#4 →
      (s.dbg.armed = false → clock = .next s) ∧
      (s.dbg.armed = true → s.dbg.pending = none →
        clock = .next { r with dbg := { DebugCore.idle with ackFetches := 3 } }) ∧
      (s.dbg.armed = true → s.dbg.pending = some w → decodeFetched s.thumb w = i →
        let ready := { s with instrExec := s.condPassed (condField s.thumb w) }
        (debugClass i = .barred → clock = .refused .debugInstruction) ∧
        (debugClass i = .compute → ∀ t, exec i ready = .next t →
          clock = .next { t with dbg := { DebugCore.idle with ackFetches := 3 } }) ∧
        (debugClass i = .memory → ∀ t, exec i { ready with dbg := { s.dbg with system := true } } = .next t →
          clock =
            .next { t with
              pc := t.pc + 4#32 * s.ilen
              tap := { t.tap with sysSpeed := true }
              ice := { t.ice with sysComp := true }
              dbg := { DebugCore.idle with active := true } })))

end
end

