-- ==== Sys2Proof/Laws/Memory.lean ====
section
/-!
SUPPORT. External memory: what a write changes, and that every operation over memory keeps the canonical
form.
-/

namespace Sys2Proof.Machine

/-! One byte. -/

/-- A cell below the first one of a sorted memory reads as an unlisted one. -/
theorem memGet_below {m : Memory} {lo a : Nat} (h : memSortedAbove lo m = true) (ha : a < lo) :
    memGet m a = unlistedByte := by
  cases m with
  | nil => rfl
  | cons c rest =>
    obtain ⟨k, v⟩ := c
    simp only [memSortedAbove, Bool.and_eq_true, decide_eq_true_eq] at h
    have h1 : a ≠ k := by omega
    have h2 : a < k := by omega
    simp only [memGet, if_neg h1, if_pos h2]

/-- A written byte is read back. -/
theorem memGet_memSet_same (m : Memory) (lo a : Nat) (v : Byte) (h : memSortedAbove lo m = true) :
    memGet (memSet m a v) a = v := by
  induction m generalizing lo with
  | nil =>
    by_cases hv : v = unlistedByte
    · simp [memSet, hv, memGet]
    · simp [memSet, hv, memGet]
  | cons c rest ih =>
    obtain ⟨k, u⟩ := c
    simp only [memSortedAbove, Bool.and_eq_true, decide_eq_true_eq] at h
    by_cases h1 : a < k
    · by_cases hv : v = unlistedByte
      · simp only [memSet, if_pos h1, if_pos hv, memGet, if_neg (Nat.ne_of_lt h1)]
        exact hv.symm
      · simp only [memSet, if_pos h1, if_neg hv, memGet, ↓reduceIte]
    · by_cases h2 : a = k
      · by_cases hv : v = unlistedByte
        · simp only [memSet, if_neg h1, if_pos h2, if_pos hv]
          rw [hv]
          exact memGet_below h.2 (by omega)
        · simp only [memSet, if_neg h1, if_pos h2, if_neg hv, memGet, ↓reduceIte]
      · simp only [memSet, if_neg h1, if_neg h2, memGet]
        exact ih _ h.2

/-- A write changes no other byte. -/
theorem memGet_memSet_other (m : Memory) (lo a b : Nat) (v : Byte) (h : memSortedAbove lo m = true) (hb : b ≠ a) :
    memGet (memSet m a v) b = memGet m b := by
  induction m generalizing lo with
  | nil =>
    by_cases hv : v = unlistedByte
    · simp [memSet, hv]
    · simp [memSet, hv, memGet, hb]
  | cons c rest ih =>
    obtain ⟨k, u⟩ := c
    simp only [memSortedAbove, Bool.and_eq_true, decide_eq_true_eq] at h
    by_cases h1 : a < k
    · by_cases hv : v = unlistedByte
      · simp only [memSet, if_pos h1, if_pos hv]
      · by_cases h3 : b < a
        · have h4 : b ≠ k := by omega
          have h5 : b < k := by omega
          simp only [memSet, if_pos h1, if_neg hv, memGet, if_neg hb, if_pos h3, if_neg h4, if_pos h5]
        · simp only [memSet, if_pos h1, if_neg hv, memGet, if_neg hb, if_neg h3]
    · by_cases h2 : a = k
      · have hk : b ≠ k := by omega
        by_cases hv : v = unlistedByte
        · simp only [memSet, if_neg h1, if_pos h2, if_pos hv, memGet, if_neg hk]
          split
          · exact memGet_below h.2 (by omega)
          · rfl
        · subst h2
          simp only [memSet, if_neg h1, ↓reduceIte, if_neg hv, memGet, if_neg hk]
      · simp only [memSet, if_neg h1, if_neg h2, memGet]
        rw [ih _ h.2]

/-- A write keeps a sorted memory sorted. -/
theorem memSortedAbove_memSet (m : Memory) (lo a : Nat) (v : Byte) (h : memSortedAbove lo m = true) (hl : lo ≤ a)
    (ha : a < 2 ^ 32) : memSortedAbove lo (memSet m a v) = true := by
  induction m generalizing lo with
  | nil =>
    by_cases hv : v = unlistedByte
    · simp [memSet, hv, memSortedAbove]
    · simp only [memSet, if_neg hv, memSortedAbove, Bool.and_eq_true, decide_eq_true_eq, bne_iff_ne]
      exact ⟨⟨⟨hl, ha⟩, hv⟩, trivial⟩
  | cons c rest ih =>
    obtain ⟨k, u⟩ := c
    simp only [memSortedAbove, Bool.and_eq_true, decide_eq_true_eq, bne_iff_ne] at h
    by_cases h1 : a < k
    · by_cases hv : v = unlistedByte
      · simp only [memSet, if_pos h1, if_pos hv, memSortedAbove, Bool.and_eq_true, decide_eq_true_eq, bne_iff_ne]
        exact h
      · simp only [memSet, if_pos h1, if_neg hv, memSortedAbove, Bool.and_eq_true, decide_eq_true_eq, bne_iff_ne]
        exact ⟨⟨⟨hl, ha⟩, hv⟩, ⟨⟨⟨h1, h.1.1.2⟩, h.1.2⟩, h.2⟩⟩
    · by_cases h2 : a = k
      · by_cases hv : v = unlistedByte
        · simp only [memSet, if_neg h1, if_pos h2, if_pos hv]
          have hrest := h.2
          have h3 := h.1.1.1
          clear ih h h1
          cases rest with
          | nil => rfl
          | cons d rest =>
            obtain ⟨j, w⟩ := d
            simp only [memSortedAbove, Bool.and_eq_true, decide_eq_true_eq, bne_iff_ne] at hrest ⊢
            exact ⟨⟨⟨by omega, hrest.1.1.2⟩, hrest.1.2⟩, hrest.2⟩
        · subst h2
          simp only [memSet, if_neg h1, ↓reduceIte, if_neg hv, memSortedAbove, Bool.and_eq_true, decide_eq_true_eq,
            bne_iff_ne]
          exact ⟨⟨h.1.1, hv⟩, h.2⟩
      · simp only [memSet, if_neg h1, if_neg h2, memSortedAbove, Bool.and_eq_true, decide_eq_true_eq, bne_iff_ne]
        exact ⟨h.1, ih _ h.2 (by omega)⟩

/-- Writing a byte keeps the canonical form. -/
theorem memSet_wf {m : Memory} {a : Nat} (v : Byte) (h : m.wf = true) (ha : a < 2 ^ 32) : (memSet m a v).wf = true :=
  memSortedAbove_memSet m 0 a v h (Nat.zero_le a) ha

/-- The empty memory of reset is in canonical form. -/
theorem reset_mem_wf : State.reset.mem.wf = true := rfl

/-! The words of memory. -/

/-- The address of a word is a multiple of four, at most three below the address of its byte. -/
theorem wordAddr_toNat (a : Word) : (wordAddr a).toNat = a.toNat / 4 * 4 := by
  have h : wordAddr a = (a >>> 2) <<< 2 := by
    unfold wordAddr
    apply BitVec.eq_of_getLsbD_eq
    intro i hi
    rw [BitVec.getLsbD_and, BitVec.getLsbD_shiftLeft, BitVec.getLsbD_ushiftRight]
    have : ∀ j : Fin 32, (0xFFFFFFFC#32).getLsbD j.val = !decide (j.val < 2) := by decide
    have hj := this ⟨i, hi⟩
    simp only at hj
    rw [hj]
    by_cases h2 : i < 2
    · simp [h2]
    · simp only [h2, decide_false, Bool.not_false, Bool.and_true, hi, decide_true, Bool.true_and]
      congr 1
      omega
  rw [h, BitVec.toNat_shiftLeft, BitVec.toNat_ushiftRight, Nat.shiftRight_eq_div_pow, Nat.shiftLeft_eq]
  have := a.isLt
  omega

/-- The four cells of a word lie in the address space. -/
theorem wordAddr_cell {a : Word} {k : Nat} (hk : k < 4) : (wordAddr a).toNat + k < 2 ^ 32 := by
  rw [wordAddr_toNat]
  have := a.isLt
  omega

/-- One lane of a word write. -/
theorem memWrite_lane_wf {m : Memory} {a : Word} {b : Bool} {k : Nat} {v : Byte} (hk : k < 4) (h : m.wf = true) :
    Memory.wf (if b then memSet m ((wordAddr a).toNat + k) v else m) = true := by
  cases b
  · exact h
  · exact memSet_wf v h (wordAddr_cell hk)

/-- Writing lanes of a word keeps the canonical form. -/
theorem memWrite_wf {m : Memory} (a : Word) (lanes : BitVec 4) (v : Word) (h : m.wf = true) :
    (memWrite m a lanes v).wf = true := by
  unfold memWrite
  exact memWrite_lane_wf (by decide) (memWrite_lane_wf (by decide) (memWrite_lane_wf (by decide)
    (memWrite_lane_wf (by decide) h)))

/-- One lane of a word write, read back. -/
theorem memGet_lane {m : Memory} {a : Word} {b : Bool} {k c : Nat} {v : Byte} (h : m.wf = true) :
    memGet (if b then memSet m ((wordAddr a).toNat + k) v else m) c =
      if b = true ∧ c = (wordAddr a).toNat + k then v else memGet m c := by
  cases b
  · simp
  · by_cases hc : c = (wordAddr a).toNat + k
    · subst hc
      simp only [↓reduceIte, and_self]
      exact memGet_memSet_same m 0 _ v h
    · simp only [↓reduceIte, hc, and_false]
      exact memGet_memSet_other m 0 _ c v h hc

/-- The bytes of memory after lanes of a word have been written. -/
theorem memGet_memWrite {m : Memory} (a : Word) (lanes : BitVec 4) (v : Word) (h : m.wf = true) (c : Nat) :
    memGet (memWrite m a lanes v) c =
      if lanes.getLsbD 3 = true ∧ c = (wordAddr a).toNat + 3 then byteOf v 3
      else if lanes.getLsbD 2 = true ∧ c = (wordAddr a).toNat + 2 then byteOf v 2
      else if lanes.getLsbD 1 = true ∧ c = (wordAddr a).toNat + 1 then byteOf v 1
      else if lanes.getLsbD 0 = true ∧ c = (wordAddr a).toNat + 0 then byteOf v 0
      else memGet m c := by
  unfold memWrite
  have h0 := memWrite_lane_wf (a := a) (b := lanes.getLsbD 0) (k := 0) (v := byteOf v 0) (by decide) h
  have h1 := memWrite_lane_wf (a := a) (b := lanes.getLsbD 1) (k := 1) (v := byteOf v 1) (by decide) h0
  have h2 := memWrite_lane_wf (a := a) (b := lanes.getLsbD 2) (k := 2) (v := byteOf v 2) (by decide) h1
  simp only
  rw [memGet_lane h2, memGet_lane h1, memGet_lane h0, memGet_lane h]

/-- The written word, lane by lane. -/
theorem memWord_memWrite_same {m : Memory} (a : Word) (lanes : BitVec 4) (v : Word) (h : m.wf = true) :
    memWord (memWrite m a lanes v) a =
      (if lanes.getLsbD 3 then byteOf v 3 else memGet m ((wordAddr a).toNat + 3)) ++
      (if lanes.getLsbD 2 then byteOf v 2 else memGet m ((wordAddr a).toNat + 2)) ++
      (if lanes.getLsbD 1 then byteOf v 1 else memGet m ((wordAddr a).toNat + 1)) ++
      (if lanes.getLsbD 0 then byteOf v 0 else memGet m (wordAddr a).toNat) := by
  unfold memWord
  rw [memGet_memWrite a lanes v h, memGet_memWrite a lanes v h, memGet_memWrite a lanes v h,
    memGet_memWrite a lanes v h]
  simp

/-- Different words do not share a cell. -/
theorem wordAddr_cells_ne {a b : Word} {j k : Nat} (h : wordAddr b ≠ wordAddr a) (hj : j < 4) (hk : k < 4) :
    (wordAddr b).toNat + j ≠ (wordAddr a).toNat + k := by
  intro e
  apply h
  apply BitVec.eq_of_toNat_eq
  rw [wordAddr_toNat, wordAddr_toNat] at *
  omega

/-- A write changes no other word. -/
theorem memWord_memWrite_other {m : Memory} (a b : Word) (lanes : BitVec 4) (v : Word) (h : m.wf = true)
    (hb : wordAddr b ≠ wordAddr a) : memWord (memWrite m a lanes v) b = memWord m b := by
  have key : ∀ j, j < 4 → memGet (memWrite m a lanes v) ((wordAddr b).toNat + j) =
      memGet m ((wordAddr b).toNat + j) := by
    intro j hj
    rw [memGet_memWrite a lanes v h, if_neg, if_neg, if_neg, if_neg] <;>
      exact fun e => wordAddr_cells_ne hb hj (by decide) e.2
  unfold memWord
  rw [key 3 (by decide), key 2 (by decide), key 1 (by decide)]
  have := key 0 (by decide)
  simp only [Nat.add_zero] at this
  rw [this]

/-- The words of a write buffer entry leave memory in canonical form. -/
theorem wbWriteWords_wf (lanes : BitVec 4) (vs : List Word) (m : Memory) (a : Word) (h : m.wf = true) :
    (wbWriteWords m a lanes vs).wf = true := by
  induction vs generalizing m a with
  | nil => exact h
  | cons v rest ih => exact ih _ _ (memWrite_wf a lanes v h)

/-- A write buffer entry leaves memory in canonical form. -/
theorem wbWrite_wf {m : Memory} (e : WbEntry) (h : m.wf = true) : (wbWrite m e).wf = true :=
  wbWriteWords_wf _ _ _ _ h

end Sys2Proof.Machine
end

