-- ==== Sys2Proof/Laws/State.lean ====
section
/-!
SUPPORT. One lemma per field per update of the state, and what the accessors (mode, flags, T bit, registers)
read after each update.  All but a few hold by unfolding.
-/

namespace Sys2Proof.Machine

/-! `setFlags`. -/

@[simp] theorem State.setFlags_regs (s : State) (n z c v : Bool) : (s.setFlags n z c v).regs = s.regs := rfl
@[simp] theorem State.setFlags_pc (s : State) (n z c v : Bool) : (s.setFlags n z c v).pc = s.pc := rfl
@[simp] theorem State.setFlags_spsrFiq (s : State) (n z c v : Bool) : (s.setFlags n z c v).spsrFiq = s.spsrFiq := rfl
@[simp] theorem State.setFlags_spsrIrq (s : State) (n z c v : Bool) : (s.setFlags n z c v).spsrIrq = s.spsrIrq := rfl
@[simp] theorem State.setFlags_spsrSvc (s : State) (n z c v : Bool) : (s.setFlags n z c v).spsrSvc = s.spsrSvc := rfl
@[simp] theorem State.setFlags_spsrAbt (s : State) (n z c v : Bool) : (s.setFlags n z c v).spsrAbt = s.spsrAbt := rfl
@[simp] theorem State.setFlags_spsrUnd (s : State) (n z c v : Bool) : (s.setFlags n z c v).spsrUnd = s.spsrUnd := rfl
@[simp] theorem State.setFlags_cp15 (s : State) (n z c v : Bool) : (s.setFlags n z c v).cp15 = s.cp15 := rfl
@[simp] theorem State.setFlags_dcc (s : State) (n z c v : Bool) : (s.setFlags n z c v).dcc = s.dcc := rfl
@[simp] theorem State.setFlags_icache (s : State) (n z c v : Bool) : (s.setFlags n z c v).icache = s.icache := rfl
@[simp] theorem State.setFlags_dcache (s : State) (n z c v : Bool) : (s.setFlags n z c v).dcache = s.dcache := rfl
@[simp] theorem State.setFlags_wbuf (s : State) (n z c v : Bool) : (s.setFlags n z c v).wbuf = s.wbuf := rfl
@[simp] theorem State.setFlags_waiting (s : State) (n z c v : Bool) : (s.setFlags n z c v).waiting = s.waiting := rfl
@[simp] theorem State.setFlags_busy (s : State) (n z c v : Bool) : (s.setFlags n z c v).busy = s.busy := rfl
@[simp] theorem State.setFlags_resetHeld (s : State) (n z c v : Bool) : (s.setFlags n z c v).resetHeld = s.resetHeld := rfl
@[simp] theorem State.setFlags_instrExec (s : State) (n z c v : Bool) : (s.setFlags n z c v).instrExec = s.instrExec := rfl
@[simp] theorem State.setFlags_pins (s : State) (n z c v : Bool) : (s.setFlags n z c v).pins = s.pins := rfl
@[simp] theorem State.setFlags_ice (s : State) (n z c v : Bool) : (s.setFlags n z c v).ice = s.ice := rfl
@[simp] theorem State.setFlags_tap (s : State) (n z c v : Bool) : (s.setFlags n z c v).tap = s.tap := rfl
@[simp] theorem State.setFlags_dbg (s : State) (n z c v : Bool) : (s.setFlags n z c v).dbg = s.dbg := rfl
@[simp] theorem State.setFlags_attached (s : State) (n z c v : Bool) : (s.setFlags n z c v).attached = s.attached := rfl
@[simp] theorem State.setFlags_cpState (s : State) (n z c v : Bool) : (s.setFlags n z c v).cpState = s.cpState := rfl
@[simp] theorem State.setFlags_cpAnswers (s : State) (n z c v : Bool) : (s.setFlags n z c v).cpAnswers = s.cpAnswers := rfl
@[simp] theorem State.setFlags_mem (s : State) (n z c v : Bool) : (s.setFlags n z c v).mem = s.mem := rfl
@[simp] theorem State.setFlags_busErrors (s : State) (n z c v : Bool) : (s.setFlags n z c v).busErrors = s.busErrors := rfl
@[simp] theorem State.setFlags_wbFifo (s : State) (n z c v : Bool) : (s.setFlags n z c v).wbFifo = s.wbFifo := rfl
@[simp] theorem State.setFlags_wbRawCoherent (s : State) (n z c v : Bool) : (s.setFlags n z c v).wbRawCoherent = s.wbRawCoherent := rfl
@[simp] theorem State.setFlags_inputs (s : State) (n z c v : Bool) : (s.setFlags n z c v).inputs = s.inputs := rfl
@[simp] theorem State.setFlags_draws (s : State) (n z c v : Bool) : (s.setFlags n z c v).draws = s.draws := rfl

/-! `setFlagsOf`. -/

@[simp] theorem State.setFlagsOf_regs (s : State) (r : FlagResult) : (s.setFlagsOf r).regs = s.regs := rfl
@[simp] theorem State.setFlagsOf_pc (s : State) (r : FlagResult) : (s.setFlagsOf r).pc = s.pc := rfl
@[simp] theorem State.setFlagsOf_spsrFiq (s : State) (r : FlagResult) : (s.setFlagsOf r).spsrFiq = s.spsrFiq := rfl
@[simp] theorem State.setFlagsOf_spsrIrq (s : State) (r : FlagResult) : (s.setFlagsOf r).spsrIrq = s.spsrIrq := rfl
@[simp] theorem State.setFlagsOf_spsrSvc (s : State) (r : FlagResult) : (s.setFlagsOf r).spsrSvc = s.spsrSvc := rfl
@[simp] theorem State.setFlagsOf_spsrAbt (s : State) (r : FlagResult) : (s.setFlagsOf r).spsrAbt = s.spsrAbt := rfl
@[simp] theorem State.setFlagsOf_spsrUnd (s : State) (r : FlagResult) : (s.setFlagsOf r).spsrUnd = s.spsrUnd := rfl
@[simp] theorem State.setFlagsOf_cp15 (s : State) (r : FlagResult) : (s.setFlagsOf r).cp15 = s.cp15 := rfl
@[simp] theorem State.setFlagsOf_dcc (s : State) (r : FlagResult) : (s.setFlagsOf r).dcc = s.dcc := rfl
@[simp] theorem State.setFlagsOf_icache (s : State) (r : FlagResult) : (s.setFlagsOf r).icache = s.icache := rfl
@[simp] theorem State.setFlagsOf_dcache (s : State) (r : FlagResult) : (s.setFlagsOf r).dcache = s.dcache := rfl
@[simp] theorem State.setFlagsOf_wbuf (s : State) (r : FlagResult) : (s.setFlagsOf r).wbuf = s.wbuf := rfl
@[simp] theorem State.setFlagsOf_waiting (s : State) (r : FlagResult) : (s.setFlagsOf r).waiting = s.waiting := rfl
@[simp] theorem State.setFlagsOf_busy (s : State) (r : FlagResult) : (s.setFlagsOf r).busy = s.busy := rfl
@[simp] theorem State.setFlagsOf_resetHeld (s : State) (r : FlagResult) : (s.setFlagsOf r).resetHeld = s.resetHeld := rfl
@[simp] theorem State.setFlagsOf_instrExec (s : State) (r : FlagResult) : (s.setFlagsOf r).instrExec = s.instrExec := rfl
@[simp] theorem State.setFlagsOf_pins (s : State) (r : FlagResult) : (s.setFlagsOf r).pins = s.pins := rfl
@[simp] theorem State.setFlagsOf_ice (s : State) (r : FlagResult) : (s.setFlagsOf r).ice = s.ice := rfl
@[simp] theorem State.setFlagsOf_tap (s : State) (r : FlagResult) : (s.setFlagsOf r).tap = s.tap := rfl
@[simp] theorem State.setFlagsOf_dbg (s : State) (r : FlagResult) : (s.setFlagsOf r).dbg = s.dbg := rfl
@[simp] theorem State.setFlagsOf_attached (s : State) (r : FlagResult) : (s.setFlagsOf r).attached = s.attached := rfl
@[simp] theorem State.setFlagsOf_cpState (s : State) (r : FlagResult) : (s.setFlagsOf r).cpState = s.cpState := rfl
@[simp] theorem State.setFlagsOf_cpAnswers (s : State) (r : FlagResult) : (s.setFlagsOf r).cpAnswers = s.cpAnswers := rfl
@[simp] theorem State.setFlagsOf_mem (s : State) (r : FlagResult) : (s.setFlagsOf r).mem = s.mem := rfl
@[simp] theorem State.setFlagsOf_busErrors (s : State) (r : FlagResult) : (s.setFlagsOf r).busErrors = s.busErrors := rfl
@[simp] theorem State.setFlagsOf_wbFifo (s : State) (r : FlagResult) : (s.setFlagsOf r).wbFifo = s.wbFifo := rfl
@[simp] theorem State.setFlagsOf_wbRawCoherent (s : State) (r : FlagResult) : (s.setFlagsOf r).wbRawCoherent = s.wbRawCoherent := rfl
@[simp] theorem State.setFlagsOf_inputs (s : State) (r : FlagResult) : (s.setFlagsOf r).inputs = s.inputs := rfl
@[simp] theorem State.setFlagsOf_draws (s : State) (r : FlagResult) : (s.setFlagsOf r).draws = s.draws := rfl

/-! `setNZ`. -/

@[simp] theorem State.setNZ_regs (s : State) (r : Word) : (s.setNZ r).regs = s.regs := rfl
@[simp] theorem State.setNZ_pc (s : State) (r : Word) : (s.setNZ r).pc = s.pc := rfl
@[simp] theorem State.setNZ_spsrFiq (s : State) (r : Word) : (s.setNZ r).spsrFiq = s.spsrFiq := rfl
@[simp] theorem State.setNZ_spsrIrq (s : State) (r : Word) : (s.setNZ r).spsrIrq = s.spsrIrq := rfl
@[simp] theorem State.setNZ_spsrSvc (s : State) (r : Word) : (s.setNZ r).spsrSvc = s.spsrSvc := rfl
@[simp] theorem State.setNZ_spsrAbt (s : State) (r : Word) : (s.setNZ r).spsrAbt = s.spsrAbt := rfl
@[simp] theorem State.setNZ_spsrUnd (s : State) (r : Word) : (s.setNZ r).spsrUnd = s.spsrUnd := rfl
@[simp] theorem State.setNZ_cp15 (s : State) (r : Word) : (s.setNZ r).cp15 = s.cp15 := rfl
@[simp] theorem State.setNZ_dcc (s : State) (r : Word) : (s.setNZ r).dcc = s.dcc := rfl
@[simp] theorem State.setNZ_icache (s : State) (r : Word) : (s.setNZ r).icache = s.icache := rfl
@[simp] theorem State.setNZ_dcache (s : State) (r : Word) : (s.setNZ r).dcache = s.dcache := rfl
@[simp] theorem State.setNZ_wbuf (s : State) (r : Word) : (s.setNZ r).wbuf = s.wbuf := rfl
@[simp] theorem State.setNZ_waiting (s : State) (r : Word) : (s.setNZ r).waiting = s.waiting := rfl
@[simp] theorem State.setNZ_busy (s : State) (r : Word) : (s.setNZ r).busy = s.busy := rfl
@[simp] theorem State.setNZ_resetHeld (s : State) (r : Word) : (s.setNZ r).resetHeld = s.resetHeld := rfl
@[simp] theorem State.setNZ_instrExec (s : State) (r : Word) : (s.setNZ r).instrExec = s.instrExec := rfl
@[simp] theorem State.setNZ_pins (s : State) (r : Word) : (s.setNZ r).pins = s.pins := rfl
@[simp] theorem State.setNZ_ice (s : State) (r : Word) : (s.setNZ r).ice = s.ice := rfl
@[simp] theorem State.setNZ_tap (s : State) (r : Word) : (s.setNZ r).tap = s.tap := rfl
@[simp] theorem State.setNZ_dbg (s : State) (r : Word) : (s.setNZ r).dbg = s.dbg := rfl
@[simp] theorem State.setNZ_attached (s : State) (r : Word) : (s.setNZ r).attached = s.attached := rfl
@[simp] theorem State.setNZ_cpState (s : State) (r : Word) : (s.setNZ r).cpState = s.cpState := rfl
@[simp] theorem State.setNZ_cpAnswers (s : State) (r : Word) : (s.setNZ r).cpAnswers = s.cpAnswers := rfl
@[simp] theorem State.setNZ_mem (s : State) (r : Word) : (s.setNZ r).mem = s.mem := rfl
@[simp] theorem State.setNZ_busErrors (s : State) (r : Word) : (s.setNZ r).busErrors = s.busErrors := rfl
@[simp] theorem State.setNZ_wbFifo (s : State) (r : Word) : (s.setNZ r).wbFifo = s.wbFifo := rfl
@[simp] theorem State.setNZ_wbRawCoherent (s : State) (r : Word) : (s.setNZ r).wbRawCoherent = s.wbRawCoherent := rfl
@[simp] theorem State.setNZ_inputs (s : State) (r : Word) : (s.setNZ r).inputs = s.inputs := rfl
@[simp] theorem State.setNZ_draws (s : State) (r : Word) : (s.setNZ r).draws = s.draws := rfl

/-! `setThumb`. -/

@[simp] theorem State.setThumb_regs (s : State) (t : Bool) : (s.setThumb t).regs = s.regs := rfl
@[simp] theorem State.setThumb_pc (s : State) (t : Bool) : (s.setThumb t).pc = s.pc := rfl
@[simp] theorem State.setThumb_spsrFiq (s : State) (t : Bool) : (s.setThumb t).spsrFiq = s.spsrFiq := rfl
@[simp] theorem State.setThumb_spsrIrq (s : State) (t : Bool) : (s.setThumb t).spsrIrq = s.spsrIrq := rfl
@[simp] theorem State.setThumb_spsrSvc (s : State) (t : Bool) : (s.setThumb t).spsrSvc = s.spsrSvc := rfl
@[simp] theorem State.setThumb_spsrAbt (s : State) (t : Bool) : (s.setThumb t).spsrAbt = s.spsrAbt := rfl
@[simp] theorem State.setThumb_spsrUnd (s : State) (t : Bool) : (s.setThumb t).spsrUnd = s.spsrUnd := rfl
@[simp] theorem State.setThumb_cp15 (s : State) (t : Bool) : (s.setThumb t).cp15 = s.cp15 := rfl
@[simp] theorem State.setThumb_dcc (s : State) (t : Bool) : (s.setThumb t).dcc = s.dcc := rfl
@[simp] theorem State.setThumb_icache (s : State) (t : Bool) : (s.setThumb t).icache = s.icache := rfl
@[simp] theorem State.setThumb_dcache (s : State) (t : Bool) : (s.setThumb t).dcache = s.dcache := rfl
@[simp] theorem State.setThumb_wbuf (s : State) (t : Bool) : (s.setThumb t).wbuf = s.wbuf := rfl
@[simp] theorem State.setThumb_waiting (s : State) (t : Bool) : (s.setThumb t).waiting = s.waiting := rfl
@[simp] theorem State.setThumb_busy (s : State) (t : Bool) : (s.setThumb t).busy = s.busy := rfl
@[simp] theorem State.setThumb_resetHeld (s : State) (t : Bool) : (s.setThumb t).resetHeld = s.resetHeld := rfl
@[simp] theorem State.setThumb_instrExec (s : State) (t : Bool) : (s.setThumb t).instrExec = s.instrExec := rfl
@[simp] theorem State.setThumb_pins (s : State) (t : Bool) : (s.setThumb t).pins = s.pins := rfl
@[simp] theorem State.setThumb_ice (s : State) (t : Bool) : (s.setThumb t).ice = s.ice := rfl
@[simp] theorem State.setThumb_tap (s : State) (t : Bool) : (s.setThumb t).tap = s.tap := rfl
@[simp] theorem State.setThumb_dbg (s : State) (t : Bool) : (s.setThumb t).dbg = s.dbg := rfl
@[simp] theorem State.setThumb_attached (s : State) (t : Bool) : (s.setThumb t).attached = s.attached := rfl
@[simp] theorem State.setThumb_cpState (s : State) (t : Bool) : (s.setThumb t).cpState = s.cpState := rfl
@[simp] theorem State.setThumb_cpAnswers (s : State) (t : Bool) : (s.setThumb t).cpAnswers = s.cpAnswers := rfl
@[simp] theorem State.setThumb_mem (s : State) (t : Bool) : (s.setThumb t).mem = s.mem := rfl
@[simp] theorem State.setThumb_busErrors (s : State) (t : Bool) : (s.setThumb t).busErrors = s.busErrors := rfl
@[simp] theorem State.setThumb_wbFifo (s : State) (t : Bool) : (s.setThumb t).wbFifo = s.wbFifo := rfl
@[simp] theorem State.setThumb_wbRawCoherent (s : State) (t : Bool) : (s.setThumb t).wbRawCoherent = s.wbRawCoherent := rfl
@[simp] theorem State.setThumb_inputs (s : State) (t : Bool) : (s.setThumb t).inputs = s.inputs := rfl
@[simp] theorem State.setThumb_draws (s : State) (t : Bool) : (s.setThumb t).draws = s.draws := rfl

/-! `bankSet`. -/

@[simp] theorem State.bankSet_pc (s : State) (m : BitVec 5) (i : BitVec 4) (v : Word) : (s.bankSet m i v).pc = s.pc := rfl
@[simp] theorem State.bankSet_cpsr (s : State) (m : BitVec 5) (i : BitVec 4) (v : Word) : (s.bankSet m i v).cpsr = s.cpsr := rfl
@[simp] theorem State.bankSet_spsrFiq (s : State) (m : BitVec 5) (i : BitVec 4) (v : Word) : (s.bankSet m i v).spsrFiq = s.spsrFiq := rfl
@[simp] theorem State.bankSet_spsrIrq (s : State) (m : BitVec 5) (i : BitVec 4) (v : Word) : (s.bankSet m i v).spsrIrq = s.spsrIrq := rfl
@[simp] theorem State.bankSet_spsrSvc (s : State) (m : BitVec 5) (i : BitVec 4) (v : Word) : (s.bankSet m i v).spsrSvc = s.spsrSvc := rfl
@[simp] theorem State.bankSet_spsrAbt (s : State) (m : BitVec 5) (i : BitVec 4) (v : Word) : (s.bankSet m i v).spsrAbt = s.spsrAbt := rfl
@[simp] theorem State.bankSet_spsrUnd (s : State) (m : BitVec 5) (i : BitVec 4) (v : Word) : (s.bankSet m i v).spsrUnd = s.spsrUnd := rfl
@[simp] theorem State.bankSet_cp15 (s : State) (m : BitVec 5) (i : BitVec 4) (v : Word) : (s.bankSet m i v).cp15 = s.cp15 := rfl
@[simp] theorem State.bankSet_dcc (s : State) (m : BitVec 5) (i : BitVec 4) (v : Word) : (s.bankSet m i v).dcc = s.dcc := rfl
@[simp] theorem State.bankSet_icache (s : State) (m : BitVec 5) (i : BitVec 4) (v : Word) : (s.bankSet m i v).icache = s.icache := rfl
@[simp] theorem State.bankSet_dcache (s : State) (m : BitVec 5) (i : BitVec 4) (v : Word) : (s.bankSet m i v).dcache = s.dcache := rfl
@[simp] theorem State.bankSet_wbuf (s : State) (m : BitVec 5) (i : BitVec 4) (v : Word) : (s.bankSet m i v).wbuf = s.wbuf := rfl
@[simp] theorem State.bankSet_waiting (s : State) (m : BitVec 5) (i : BitVec 4) (v : Word) : (s.bankSet m i v).waiting = s.waiting := rfl
@[simp] theorem State.bankSet_busy (s : State) (m : BitVec 5) (i : BitVec 4) (v : Word) : (s.bankSet m i v).busy = s.busy := rfl
@[simp] theorem State.bankSet_resetHeld (s : State) (m : BitVec 5) (i : BitVec 4) (v : Word) : (s.bankSet m i v).resetHeld = s.resetHeld := rfl
@[simp] theorem State.bankSet_instrExec (s : State) (m : BitVec 5) (i : BitVec 4) (v : Word) : (s.bankSet m i v).instrExec = s.instrExec := rfl
@[simp] theorem State.bankSet_pins (s : State) (m : BitVec 5) (i : BitVec 4) (v : Word) : (s.bankSet m i v).pins = s.pins := rfl
@[simp] theorem State.bankSet_ice (s : State) (m : BitVec 5) (i : BitVec 4) (v : Word) : (s.bankSet m i v).ice = s.ice := rfl
@[simp] theorem State.bankSet_tap (s : State) (m : BitVec 5) (i : BitVec 4) (v : Word) : (s.bankSet m i v).tap = s.tap := rfl
@[simp] theorem State.bankSet_dbg (s : State) (m : BitVec 5) (i : BitVec 4) (v : Word) : (s.bankSet m i v).dbg = s.dbg := rfl
@[simp] theorem State.bankSet_attached (s : State) (m : BitVec 5) (i : BitVec 4) (v : Word) : (s.bankSet m i v).attached = s.attached := rfl
@[simp] theorem State.bankSet_cpState (s : State) (m : BitVec 5) (i : BitVec 4) (v : Word) : (s.bankSet m i v).cpState = s.cpState := rfl
@[simp] theorem State.bankSet_cpAnswers (s : State) (m : BitVec 5) (i : BitVec 4) (v : Word) : (s.bankSet m i v).cpAnswers = s.cpAnswers := rfl
@[simp] theorem State.bankSet_mem (s : State) (m : BitVec 5) (i : BitVec 4) (v : Word) : (s.bankSet m i v).mem = s.mem := rfl
@[simp] theorem State.bankSet_busErrors (s : State) (m : BitVec 5) (i : BitVec 4) (v : Word) : (s.bankSet m i v).busErrors = s.busErrors := rfl
@[simp] theorem State.bankSet_wbFifo (s : State) (m : BitVec 5) (i : BitVec 4) (v : Word) : (s.bankSet m i v).wbFifo = s.wbFifo := rfl
@[simp] theorem State.bankSet_wbRawCoherent (s : State) (m : BitVec 5) (i : BitVec 4) (v : Word) : (s.bankSet m i v).wbRawCoherent = s.wbRawCoherent := rfl
@[simp] theorem State.bankSet_inputs (s : State) (m : BitVec 5) (i : BitVec 4) (v : Word) : (s.bankSet m i v).inputs = s.inputs := rfl
@[simp] theorem State.bankSet_draws (s : State) (m : BitVec 5) (i : BitVec 4) (v : Word) : (s.bankSet m i v).draws = s.draws := rfl

/-! `setReg`. -/

@[simp] theorem State.setReg_pc (s : State) (i : BitVec 4) (v : Word) : (s.setReg i v).pc = s.pc := rfl
@[simp] theorem State.setReg_cpsr (s : State) (i : BitVec 4) (v : Word) : (s.setReg i v).cpsr = s.cpsr := rfl
@[simp] theorem State.setReg_spsrFiq (s : State) (i : BitVec 4) (v : Word) : (s.setReg i v).spsrFiq = s.spsrFiq := rfl
@[simp] theorem State.setReg_spsrIrq (s : State) (i : BitVec 4) (v : Word) : (s.setReg i v).spsrIrq = s.spsrIrq := rfl
@[simp] theorem State.setReg_spsrSvc (s : State) (i : BitVec 4) (v : Word) : (s.setReg i v).spsrSvc = s.spsrSvc := rfl
@[simp] theorem State.setReg_spsrAbt (s : State) (i : BitVec 4) (v : Word) : (s.setReg i v).spsrAbt = s.spsrAbt := rfl
@[simp] theorem State.setReg_spsrUnd (s : State) (i : BitVec 4) (v : Word) : (s.setReg i v).spsrUnd = s.spsrUnd := rfl
@[simp] theorem State.setReg_cp15 (s : State) (i : BitVec 4) (v : Word) : (s.setReg i v).cp15 = s.cp15 := rfl
@[simp] theorem State.setReg_dcc (s : State) (i : BitVec 4) (v : Word) : (s.setReg i v).dcc = s.dcc := rfl
@[simp] theorem State.setReg_icache (s : State) (i : BitVec 4) (v : Word) : (s.setReg i v).icache = s.icache := rfl
@[simp] theorem State.setReg_dcache (s : State) (i : BitVec 4) (v : Word) : (s.setReg i v).dcache = s.dcache := rfl
@[simp] theorem State.setReg_wbuf (s : State) (i : BitVec 4) (v : Word) : (s.setReg i v).wbuf = s.wbuf := rfl
@[simp] theorem State.setReg_waiting (s : State) (i : BitVec 4) (v : Word) : (s.setReg i v).waiting = s.waiting := rfl
@[simp] theorem State.setReg_busy (s : State) (i : BitVec 4) (v : Word) : (s.setReg i v).busy = s.busy := rfl
@[simp] theorem State.setReg_resetHeld (s : State) (i : BitVec 4) (v : Word) : (s.setReg i v).resetHeld = s.resetHeld := rfl
@[simp] theorem State.setReg_instrExec (s : State) (i : BitVec 4) (v : Word) : (s.setReg i v).instrExec = s.instrExec := rfl
@[simp] theorem State.setReg_pins (s : State) (i : BitVec 4) (v : Word) : (s.setReg i v).pins = s.pins := rfl
@[simp] theorem State.setReg_ice (s : State) (i : BitVec 4) (v : Word) : (s.setReg i v).ice = s.ice := rfl
@[simp] theorem State.setReg_tap (s : State) (i : BitVec 4) (v : Word) : (s.setReg i v).tap = s.tap := rfl
@[simp] theorem State.setReg_dbg (s : State) (i : BitVec 4) (v : Word) : (s.setReg i v).dbg = s.dbg := rfl
@[simp] theorem State.setReg_attached (s : State) (i : BitVec 4) (v : Word) : (s.setReg i v).attached = s.attached := rfl
@[simp] theorem State.setReg_cpState (s : State) (i : BitVec 4) (v : Word) : (s.setReg i v).cpState = s.cpState := rfl
@[simp] theorem State.setReg_cpAnswers (s : State) (i : BitVec 4) (v : Word) : (s.setReg i v).cpAnswers = s.cpAnswers := rfl
@[simp] theorem State.setReg_mem (s : State) (i : BitVec 4) (v : Word) : (s.setReg i v).mem = s.mem := rfl
@[simp] theorem State.setReg_busErrors (s : State) (i : BitVec 4) (v : Word) : (s.setReg i v).busErrors = s.busErrors := rfl
@[simp] theorem State.setReg_wbFifo (s : State) (i : BitVec 4) (v : Word) : (s.setReg i v).wbFifo = s.wbFifo := rfl
@[simp] theorem State.setReg_wbRawCoherent (s : State) (i : BitVec 4) (v : Word) : (s.setReg i v).wbRawCoherent = s.wbRawCoherent := rfl
@[simp] theorem State.setReg_inputs (s : State) (i : BitVec 4) (v : Word) : (s.setReg i v).inputs = s.inputs := rfl
@[simp] theorem State.setReg_draws (s : State) (i : BitVec 4) (v : Word) : (s.setReg i v).draws = s.draws := rfl

/-! `setUserReg`. -/

@[simp] theorem State.setUserReg_pc (s : State) (i : BitVec 4) (v : Word) : (s.setUserReg i v).pc = s.pc := rfl
@[simp] theorem State.setUserReg_cpsr (s : State) (i : BitVec 4) (v : Word) : (s.setUserReg i v).cpsr = s.cpsr := rfl
@[simp] theorem State.setUserReg_spsrFiq (s : State) (i : BitVec 4) (v : Word) : (s.setUserReg i v).spsrFiq = s.spsrFiq := rfl
@[simp] theorem State.setUserReg_spsrIrq (s : State) (i : BitVec 4) (v : Word) : (s.setUserReg i v).spsrIrq = s.spsrIrq := rfl
@[simp] theorem State.setUserReg_spsrSvc (s : State) (i : BitVec 4) (v : Word) : (s.setUserReg i v).spsrSvc = s.spsrSvc := rfl
@[simp] theorem State.setUserReg_spsrAbt (s : State) (i : BitVec 4) (v : Word) : (s.setUserReg i v).spsrAbt = s.spsrAbt := rfl
@[simp] theorem State.setUserReg_spsrUnd (s : State) (i : BitVec 4) (v : Word) : (s.setUserReg i v).spsrUnd = s.spsrUnd := rfl
@[simp] theorem State.setUserReg_cp15 (s : State) (i : BitVec 4) (v : Word) : (s.setUserReg i v).cp15 = s.cp15 := rfl
@[simp] theorem State.setUserReg_dcc (s : State) (i : BitVec 4) (v : Word) : (s.setUserReg i v).dcc = s.dcc := rfl
@[simp] theorem State.setUserReg_icache (s : State) (i : BitVec 4) (v : Word) : (s.setUserReg i v).icache = s.icache := rfl
@[simp] theorem State.setUserReg_dcache (s : State) (i : BitVec 4) (v : Word) : (s.setUserReg i v).dcache = s.dcache := rfl
@[simp] theorem State.setUserReg_wbuf (s : State) (i : BitVec 4) (v : Word) : (s.setUserReg i v).wbuf = s.wbuf := rfl
@[simp] theorem State.setUserReg_waiting (s : State) (i : BitVec 4) (v : Word) : (s.setUserReg i v).waiting = s.waiting := rfl
@[simp] theorem State.setUserReg_busy (s : State) (i : BitVec 4) (v : Word) : (s.setUserReg i v).busy = s.busy := rfl
@[simp] theorem State.setUserReg_resetHeld (s : State) (i : BitVec 4) (v : Word) : (s.setUserReg i v).resetHeld = s.resetHeld := rfl
@[simp] theorem State.setUserReg_instrExec (s : State) (i : BitVec 4) (v : Word) : (s.setUserReg i v).instrExec = s.instrExec := rfl
@[simp] theorem State.setUserReg_pins (s : State) (i : BitVec 4) (v : Word) : (s.setUserReg i v).pins = s.pins := rfl
@[simp] theorem State.setUserReg_ice (s : State) (i : BitVec 4) (v : Word) : (s.setUserReg i v).ice = s.ice := rfl
@[simp] theorem State.setUserReg_tap (s : State) (i : BitVec 4) (v : Word) : (s.setUserReg i v).tap = s.tap := rfl
@[simp] theorem State.setUserReg_dbg (s : State) (i : BitVec 4) (v : Word) : (s.setUserReg i v).dbg = s.dbg := rfl
@[simp] theorem State.setUserReg_attached (s : State) (i : BitVec 4) (v : Word) : (s.setUserReg i v).attached = s.attached := rfl
@[simp] theorem State.setUserReg_cpState (s : State) (i : BitVec 4) (v : Word) : (s.setUserReg i v).cpState = s.cpState := rfl
@[simp] theorem State.setUserReg_cpAnswers (s : State) (i : BitVec 4) (v : Word) : (s.setUserReg i v).cpAnswers = s.cpAnswers := rfl
@[simp] theorem State.setUserReg_mem (s : State) (i : BitVec 4) (v : Word) : (s.setUserReg i v).mem = s.mem := rfl
@[simp] theorem State.setUserReg_busErrors (s : State) (i : BitVec 4) (v : Word) : (s.setUserReg i v).busErrors = s.busErrors := rfl
@[simp] theorem State.setUserReg_wbFifo (s : State) (i : BitVec 4) (v : Word) : (s.setUserReg i v).wbFifo = s.wbFifo := rfl
@[simp] theorem State.setUserReg_wbRawCoherent (s : State) (i : BitVec 4) (v : Word) : (s.setUserReg i v).wbRawCoherent = s.wbRawCoherent := rfl
@[simp] theorem State.setUserReg_inputs (s : State) (i : BitVec 4) (v : Word) : (s.setUserReg i v).inputs = s.inputs := rfl
@[simp] theorem State.setUserReg_draws (s : State) (i : BitVec 4) (v : Word) : (s.setUserReg i v).draws = s.draws := rfl

/-! `setCpState`. -/

@[simp] theorem State.setCpState_regs (s : State) (cp : BitVec 4) (v : Nat) : (s.setCpState cp v).regs = s.regs := rfl
@[simp] theorem State.setCpState_pc (s : State) (cp : BitVec 4) (v : Nat) : (s.setCpState cp v).pc = s.pc := rfl
@[simp] theorem State.setCpState_cpsr (s : State) (cp : BitVec 4) (v : Nat) : (s.setCpState cp v).cpsr = s.cpsr := rfl
@[simp] theorem State.setCpState_spsrFiq (s : State) (cp : BitVec 4) (v : Nat) : (s.setCpState cp v).spsrFiq = s.spsrFiq := rfl
@[simp] theorem State.setCpState_spsrIrq (s : State) (cp : BitVec 4) (v : Nat) : (s.setCpState cp v).spsrIrq = s.spsrIrq := rfl
@[simp] theorem State.setCpState_spsrSvc (s : State) (cp : BitVec 4) (v : Nat) : (s.setCpState cp v).spsrSvc = s.spsrSvc := rfl
@[simp] theorem State.setCpState_spsrAbt (s : State) (cp : BitVec 4) (v : Nat) : (s.setCpState cp v).spsrAbt = s.spsrAbt := rfl
@[simp] theorem State.setCpState_spsrUnd (s : State) (cp : BitVec 4) (v : Nat) : (s.setCpState cp v).spsrUnd = s.spsrUnd := rfl
@[simp] theorem State.setCpState_cp15 (s : State) (cp : BitVec 4) (v : Nat) : (s.setCpState cp v).cp15 = s.cp15 := rfl
@[simp] theorem State.setCpState_dcc (s : State) (cp : BitVec 4) (v : Nat) : (s.setCpState cp v).dcc = s.dcc := rfl
@[simp] theorem State.setCpState_icache (s : State) (cp : BitVec 4) (v : Nat) : (s.setCpState cp v).icache = s.icache := rfl
@[simp] theorem State.setCpState_dcache (s : State) (cp : BitVec 4) (v : Nat) : (s.setCpState cp v).dcache = s.dcache := rfl
@[simp] theorem State.setCpState_wbuf (s : State) (cp : BitVec 4) (v : Nat) : (s.setCpState cp v).wbuf = s.wbuf := rfl
@[simp] theorem State.setCpState_waiting (s : State) (cp : BitVec 4) (v : Nat) : (s.setCpState cp v).waiting = s.waiting := rfl
@[simp] theorem State.setCpState_busy (s : State) (cp : BitVec 4) (v : Nat) : (s.setCpState cp v).busy = s.busy := rfl
@[simp] theorem State.setCpState_resetHeld (s : State) (cp : BitVec 4) (v : Nat) : (s.setCpState cp v).resetHeld = s.resetHeld := rfl
@[simp] theorem State.setCpState_instrExec (s : State) (cp : BitVec 4) (v : Nat) : (s.setCpState cp v).instrExec = s.instrExec := rfl
@[simp] theorem State.setCpState_pins (s : State) (cp : BitVec 4) (v : Nat) : (s.setCpState cp v).pins = s.pins := rfl
@[simp] theorem State.setCpState_ice (s : State) (cp : BitVec 4) (v : Nat) : (s.setCpState cp v).ice = s.ice := rfl
@[simp] theorem State.setCpState_tap (s : State) (cp : BitVec 4) (v : Nat) : (s.setCpState cp v).tap = s.tap := rfl
@[simp] theorem State.setCpState_dbg (s : State) (cp : BitVec 4) (v : Nat) : (s.setCpState cp v).dbg = s.dbg := rfl
@[simp] theorem State.setCpState_attached (s : State) (cp : BitVec 4) (v : Nat) : (s.setCpState cp v).attached = s.attached := rfl
@[simp] theorem State.setCpState_cpAnswers (s : State) (cp : BitVec 4) (v : Nat) : (s.setCpState cp v).cpAnswers = s.cpAnswers := rfl
@[simp] theorem State.setCpState_mem (s : State) (cp : BitVec 4) (v : Nat) : (s.setCpState cp v).mem = s.mem := rfl
@[simp] theorem State.setCpState_busErrors (s : State) (cp : BitVec 4) (v : Nat) : (s.setCpState cp v).busErrors = s.busErrors := rfl
@[simp] theorem State.setCpState_wbFifo (s : State) (cp : BitVec 4) (v : Nat) : (s.setCpState cp v).wbFifo = s.wbFifo := rfl
@[simp] theorem State.setCpState_wbRawCoherent (s : State) (cp : BitVec 4) (v : Nat) : (s.setCpState cp v).wbRawCoherent = s.wbRawCoherent := rfl
@[simp] theorem State.setCpState_inputs (s : State) (cp : BitVec 4) (v : Nat) : (s.setCpState cp v).inputs = s.inputs := rfl
@[simp] theorem State.setCpState_draws (s : State) (cp : BitVec 4) (v : Nat) : (s.setCpState cp v).draws = s.draws := rfl

/-! `offered`. -/

@[simp] theorem State.offered_regs (s : State) : s.offered.regs = s.regs := rfl
@[simp] theorem State.offered_pc (s : State) : s.offered.pc = s.pc := rfl
@[simp] theorem State.offered_cpsr (s : State) : s.offered.cpsr = s.cpsr := rfl
@[simp] theorem State.offered_spsrFiq (s : State) : s.offered.spsrFiq = s.spsrFiq := rfl
@[simp] theorem State.offered_spsrIrq (s : State) : s.offered.spsrIrq = s.spsrIrq := rfl
@[simp] theorem State.offered_spsrSvc (s : State) : s.offered.spsrSvc = s.spsrSvc := rfl
@[simp] theorem State.offered_spsrAbt (s : State) : s.offered.spsrAbt = s.spsrAbt := rfl
@[simp] theorem State.offered_spsrUnd (s : State) : s.offered.spsrUnd = s.spsrUnd := rfl
@[simp] theorem State.offered_cp15 (s : State) : s.offered.cp15 = s.cp15 := rfl
@[simp] theorem State.offered_dcc (s : State) : s.offered.dcc = s.dcc := rfl
@[simp] theorem State.offered_icache (s : State) : s.offered.icache = s.icache := rfl
@[simp] theorem State.offered_dcache (s : State) : s.offered.dcache = s.dcache := rfl
@[simp] theorem State.offered_wbuf (s : State) : s.offered.wbuf = s.wbuf := rfl
@[simp] theorem State.offered_waiting (s : State) : s.offered.waiting = s.waiting := rfl
@[simp] theorem State.offered_busy (s : State) : s.offered.busy = s.busy := rfl
@[simp] theorem State.offered_resetHeld (s : State) : s.offered.resetHeld = s.resetHeld := rfl
@[simp] theorem State.offered_instrExec (s : State) : s.offered.instrExec = s.instrExec := rfl
@[simp] theorem State.offered_pins (s : State) : s.offered.pins = s.pins := rfl
@[simp] theorem State.offered_ice (s : State) : s.offered.ice = s.ice := rfl
@[simp] theorem State.offered_tap (s : State) : s.offered.tap = s.tap := rfl
@[simp] theorem State.offered_dbg (s : State) : s.offered.dbg = s.dbg := rfl
@[simp] theorem State.offered_attached (s : State) : s.offered.attached = s.attached := rfl
@[simp] theorem State.offered_cpState (s : State) : s.offered.cpState = s.cpState := rfl
@[simp] theorem State.offered_mem (s : State) : s.offered.mem = s.mem := rfl
@[simp] theorem State.offered_busErrors (s : State) : s.offered.busErrors = s.busErrors := rfl
@[simp] theorem State.offered_wbFifo (s : State) : s.offered.wbFifo = s.wbFifo := rfl
@[simp] theorem State.offered_wbRawCoherent (s : State) : s.offered.wbRawCoherent = s.wbRawCoherent := rfl
@[simp] theorem State.offered_inputs (s : State) : s.offered.inputs = s.inputs := rfl

/-! `stepped`. -/

@[simp] theorem State.stepped_regs (s : State) : s.stepped.regs = s.regs := rfl
@[simp] theorem State.stepped_cpsr (s : State) : s.stepped.cpsr = s.cpsr := rfl
@[simp] theorem State.stepped_spsrFiq (s : State) : s.stepped.spsrFiq = s.spsrFiq := rfl
@[simp] theorem State.stepped_spsrIrq (s : State) : s.stepped.spsrIrq = s.spsrIrq := rfl
@[simp] theorem State.stepped_spsrSvc (s : State) : s.stepped.spsrSvc = s.spsrSvc := rfl
@[simp] theorem State.stepped_spsrAbt (s : State) : s.stepped.spsrAbt = s.spsrAbt := rfl
@[simp] theorem State.stepped_spsrUnd (s : State) : s.stepped.spsrUnd = s.spsrUnd := rfl
@[simp] theorem State.stepped_cp15 (s : State) : s.stepped.cp15 = s.cp15 := rfl
@[simp] theorem State.stepped_dcc (s : State) : s.stepped.dcc = s.dcc := rfl
@[simp] theorem State.stepped_icache (s : State) : s.stepped.icache = s.icache := rfl
@[simp] theorem State.stepped_dcache (s : State) : s.stepped.dcache = s.dcache := rfl
@[simp] theorem State.stepped_wbuf (s : State) : s.stepped.wbuf = s.wbuf := rfl
@[simp] theorem State.stepped_waiting (s : State) : s.stepped.waiting = s.waiting := rfl
@[simp] theorem State.stepped_busy (s : State) : s.stepped.busy = s.busy := rfl
@[simp] theorem State.stepped_resetHeld (s : State) : s.stepped.resetHeld = s.resetHeld := rfl
@[simp] theorem State.stepped_instrExec (s : State) : s.stepped.instrExec = s.instrExec := rfl
@[simp] theorem State.stepped_pins (s : State) : s.stepped.pins = s.pins := rfl
@[simp] theorem State.stepped_ice (s : State) : s.stepped.ice = s.ice := rfl
@[simp] theorem State.stepped_tap (s : State) : s.stepped.tap = s.tap := rfl
@[simp] theorem State.stepped_dbg (s : State) : s.stepped.dbg = s.dbg := rfl
@[simp] theorem State.stepped_attached (s : State) : s.stepped.attached = s.attached := rfl
@[simp] theorem State.stepped_cpState (s : State) : s.stepped.cpState = s.cpState := rfl
@[simp] theorem State.stepped_cpAnswers (s : State) : s.stepped.cpAnswers = s.cpAnswers := rfl
@[simp] theorem State.stepped_mem (s : State) : s.stepped.mem = s.mem := rfl
@[simp] theorem State.stepped_busErrors (s : State) : s.stepped.busErrors = s.busErrors := rfl
@[simp] theorem State.stepped_wbFifo (s : State) : s.stepped.wbFifo = s.wbFifo := rfl
@[simp] theorem State.stepped_wbRawCoherent (s : State) : s.stepped.wbRawCoherent = s.wbRawCoherent := rfl
@[simp] theorem State.stepped_inputs (s : State) : s.stepped.inputs = s.inputs := rfl
@[simp] theorem State.stepped_draws (s : State) : s.stepped.draws = s.draws := rfl

/-! The state after a free value has been drawn. -/

@[simp] theorem State.draw_regs (s : State) : s.draw.2.regs = s.regs := rfl
@[simp] theorem State.draw_pc (s : State) : s.draw.2.pc = s.pc := rfl
@[simp] theorem State.draw_cpsr (s : State) : s.draw.2.cpsr = s.cpsr := rfl
@[simp] theorem State.draw_spsrFiq (s : State) : s.draw.2.spsrFiq = s.spsrFiq := rfl
@[simp] theorem State.draw_spsrIrq (s : State) : s.draw.2.spsrIrq = s.spsrIrq := rfl
@[simp] theorem State.draw_spsrSvc (s : State) : s.draw.2.spsrSvc = s.spsrSvc := rfl
@[simp] theorem State.draw_spsrAbt (s : State) : s.draw.2.spsrAbt = s.spsrAbt := rfl
@[simp] theorem State.draw_spsrUnd (s : State) : s.draw.2.spsrUnd = s.spsrUnd := rfl
@[simp] theorem State.draw_cp15 (s : State) : s.draw.2.cp15 = s.cp15 := rfl
@[simp] theorem State.draw_dcc (s : State) : s.draw.2.dcc = s.dcc := rfl
@[simp] theorem State.draw_icache (s : State) : s.draw.2.icache = s.icache := rfl
@[simp] theorem State.draw_dcache (s : State) : s.draw.2.dcache = s.dcache := rfl
@[simp] theorem State.draw_wbuf (s : State) : s.draw.2.wbuf = s.wbuf := rfl
@[simp] theorem State.draw_waiting (s : State) : s.draw.2.waiting = s.waiting := rfl
@[simp] theorem State.draw_busy (s : State) : s.draw.2.busy = s.busy := rfl
@[simp] theorem State.draw_resetHeld (s : State) : s.draw.2.resetHeld = s.resetHeld := rfl
@[simp] theorem State.draw_instrExec (s : State) : s.draw.2.instrExec = s.instrExec := rfl
@[simp] theorem State.draw_pins (s : State) : s.draw.2.pins = s.pins := rfl
@[simp] theorem State.draw_ice (s : State) : s.draw.2.ice = s.ice := rfl
@[simp] theorem State.draw_tap (s : State) : s.draw.2.tap = s.tap := rfl
@[simp] theorem State.draw_dbg (s : State) : s.draw.2.dbg = s.dbg := rfl
@[simp] theorem State.draw_attached (s : State) : s.draw.2.attached = s.attached := rfl
@[simp] theorem State.draw_cpState (s : State) : s.draw.2.cpState = s.cpState := rfl
@[simp] theorem State.draw_cpAnswers (s : State) : s.draw.2.cpAnswers = s.cpAnswers := rfl
@[simp] theorem State.draw_mem (s : State) : s.draw.2.mem = s.mem := rfl
@[simp] theorem State.draw_busErrors (s : State) : s.draw.2.busErrors = s.busErrors := rfl
@[simp] theorem State.draw_wbFifo (s : State) : s.draw.2.wbFifo = s.wbFifo := rfl
@[simp] theorem State.draw_wbRawCoherent (s : State) : s.draw.2.wbRawCoherent = s.wbRawCoherent := rfl
@[simp] theorem State.draw_inputs (s : State) : s.draw.2.inputs = s.inputs := rfl
@[simp] theorem State.draw_draws (s : State) : s.draw.2.draws = s.draws + 1 := rfl

/-! `setSpsrOf`. -/

/-- The SPSR of one mode is written, and no other. -/
theorem State.setSpsrOf_eq (s : State) (m : BitVec 5) (v : Word) :
    s.setSpsrOf m v =
      { s with
        spsrFiq := if m = modeFiq then v else s.spsrFiq
        spsrIrq := if m = modeIrq then v else s.spsrIrq
        spsrSvc := if m = modeSvc then v else s.spsrSvc
        spsrAbt := if m = modeAbt then v else s.spsrAbt
        spsrUnd := if m = modeUnd then v else s.spsrUnd } := by
  unfold State.setSpsrOf
  split
  · rename_i h; rw [beq_iff_eq] at h; subst h; rfl
  split
  · rename_i h; rw [beq_iff_eq] at h; subst h; rfl
  split
  · rename_i h; rw [beq_iff_eq] at h; subst h; rfl
  split
  · rename_i h; rw [beq_iff_eq] at h; subst h; rfl
  split
  · rename_i h; rw [beq_iff_eq] at h; subst h; rfl
  · rename_i h1 h2 h3 h4 h5
    rw [beq_iff_eq] at h1 h2 h3 h4 h5
    rw [if_neg h1, if_neg h2, if_neg h3, if_neg h4, if_neg h5]

@[simp] theorem State.setSpsrOf_regs (s : State) (m : BitVec 5) (v : Word) : (s.setSpsrOf m v).regs = s.regs := by
  rw [State.setSpsrOf_eq]
@[simp] theorem State.setSpsrOf_pc (s : State) (m : BitVec 5) (v : Word) : (s.setSpsrOf m v).pc = s.pc := by
  rw [State.setSpsrOf_eq]
@[simp] theorem State.setSpsrOf_cpsr (s : State) (m : BitVec 5) (v : Word) : (s.setSpsrOf m v).cpsr = s.cpsr := by
  rw [State.setSpsrOf_eq]
theorem State.setSpsrOf_spsrFiq (s : State) (m : BitVec 5) (v : Word) :
    (s.setSpsrOf m v).spsrFiq = if m = modeFiq then v else s.spsrFiq := by
  rw [State.setSpsrOf_eq]
theorem State.setSpsrOf_spsrIrq (s : State) (m : BitVec 5) (v : Word) :
    (s.setSpsrOf m v).spsrIrq = if m = modeIrq then v else s.spsrIrq := by
  rw [State.setSpsrOf_eq]
theorem State.setSpsrOf_spsrSvc (s : State) (m : BitVec 5) (v : Word) :
    (s.setSpsrOf m v).spsrSvc = if m = modeSvc then v else s.spsrSvc := by
  rw [State.setSpsrOf_eq]
theorem State.setSpsrOf_spsrAbt (s : State) (m : BitVec 5) (v : Word) :
    (s.setSpsrOf m v).spsrAbt = if m = modeAbt then v else s.spsrAbt := by
  rw [State.setSpsrOf_eq]
theorem State.setSpsrOf_spsrUnd (s : State) (m : BitVec 5) (v : Word) :
    (s.setSpsrOf m v).spsrUnd = if m = modeUnd then v else s.spsrUnd := by
  rw [State.setSpsrOf_eq]
@[simp] theorem State.setSpsrOf_cp15 (s : State) (m : BitVec 5) (v : Word) : (s.setSpsrOf m v).cp15 = s.cp15 := by
  rw [State.setSpsrOf_eq]
@[simp] theorem State.setSpsrOf_dcc (s : State) (m : BitVec 5) (v : Word) : (s.setSpsrOf m v).dcc = s.dcc := by
  rw [State.setSpsrOf_eq]
@[simp] theorem State.setSpsrOf_icache (s : State) (m : BitVec 5) (v : Word) : (s.setSpsrOf m v).icache = s.icache := by
  rw [State.setSpsrOf_eq]
@[simp] theorem State.setSpsrOf_dcache (s : State) (m : BitVec 5) (v : Word) : (s.setSpsrOf m v).dcache = s.dcache := by
  rw [State.setSpsrOf_eq]
@[simp] theorem State.setSpsrOf_wbuf (s : State) (m : BitVec 5) (v : Word) : (s.setSpsrOf m v).wbuf = s.wbuf := by
  rw [State.setSpsrOf_eq]
@[simp] theorem State.setSpsrOf_waiting (s : State) (m : BitVec 5) (v : Word) : (s.setSpsrOf m v).waiting = s.waiting := by
  rw [State.setSpsrOf_eq]
@[simp] theorem State.setSpsrOf_busy (s : State) (m : BitVec 5) (v : Word) : (s.setSpsrOf m v).busy = s.busy := by
  rw [State.setSpsrOf_eq]
@[simp] theorem State.setSpsrOf_resetHeld (s : State) (m : BitVec 5) (v : Word) : (s.setSpsrOf m v).resetHeld = s.resetHeld := by
  rw [State.setSpsrOf_eq]
@[simp] theorem State.setSpsrOf_instrExec (s : State) (m : BitVec 5) (v : Word) : (s.setSpsrOf m v).instrExec = s.instrExec := by
  rw [State.setSpsrOf_eq]
@[simp] theorem State.setSpsrOf_pins (s : State) (m : BitVec 5) (v : Word) : (s.setSpsrOf m v).pins = s.pins := by
  rw [State.setSpsrOf_eq]
@[simp] theorem State.setSpsrOf_ice (s : State) (m : BitVec 5) (v : Word) : (s.setSpsrOf m v).ice = s.ice := by
  rw [State.setSpsrOf_eq]
@[simp] theorem State.setSpsrOf_tap (s : State) (m : BitVec 5) (v : Word) : (s.setSpsrOf m v).tap = s.tap := by
  rw [State.setSpsrOf_eq]
@[simp] theorem State.setSpsrOf_dbg (s : State) (m : BitVec 5) (v : Word) : (s.setSpsrOf m v).dbg = s.dbg := by
  rw [State.setSpsrOf_eq]
@[simp] theorem State.setSpsrOf_attached (s : State) (m : BitVec 5) (v : Word) : (s.setSpsrOf m v).attached = s.attached := by
  rw [State.setSpsrOf_eq]
@[simp] theorem State.setSpsrOf_cpState (s : State) (m : BitVec 5) (v : Word) : (s.setSpsrOf m v).cpState = s.cpState := by
  rw [State.setSpsrOf_eq]
@[simp] theorem State.setSpsrOf_cpAnswers (s : State) (m : BitVec 5) (v : Word) : (s.setSpsrOf m v).cpAnswers = s.cpAnswers := by
  rw [State.setSpsrOf_eq]
@[simp] theorem State.setSpsrOf_mem (s : State) (m : BitVec 5) (v : Word) : (s.setSpsrOf m v).mem = s.mem := by
  rw [State.setSpsrOf_eq]
@[simp] theorem State.setSpsrOf_busErrors (s : State) (m : BitVec 5) (v : Word) : (s.setSpsrOf m v).busErrors = s.busErrors := by
  rw [State.setSpsrOf_eq]
@[simp] theorem State.setSpsrOf_wbFifo (s : State) (m : BitVec 5) (v : Word) : (s.setSpsrOf m v).wbFifo = s.wbFifo := by
  rw [State.setSpsrOf_eq]
@[simp] theorem State.setSpsrOf_wbRawCoherent (s : State) (m : BitVec 5) (v : Word) : (s.setSpsrOf m v).wbRawCoherent = s.wbRawCoherent := by
  rw [State.setSpsrOf_eq]
@[simp] theorem State.setSpsrOf_inputs (s : State) (m : BitVec 5) (v : Word) : (s.setSpsrOf m v).inputs = s.inputs := by
  rw [State.setSpsrOf_eq]
@[simp] theorem State.setSpsrOf_draws (s : State) (m : BitVec 5) (v : Word) : (s.setSpsrOf m v).draws = s.draws := by
  rw [State.setSpsrOf_eq]

/-! The status fields after each update. -/

/-- A field of a status word below its flags is not touched when the flags are replaced. -/
theorem flags_low (n z c v : Bool) (x : BitVec 28) (i : Nat) (h : i < 28) :
    (BitVec.ofBool n ++ BitVec.ofBool z ++ BitVec.ofBool c ++ BitVec.ofBool v ++ x).getLsbD i = x.getLsbD i := by
  rw [BitVec.getLsbD_append, if_pos h]

@[simp] theorem State.setFlags_thumb (s : State) (n z c v : Bool) : (s.setFlags n z c v).thumb = s.thumb := by
  simp only [State.thumb, State.setFlags, flags_low _ _ _ _ _ 5 (by decide), BitVec.getLsbD_extractLsb']
  rfl

@[simp] theorem State.setFlags_flagF (s : State) (n z c v : Bool) : (s.setFlags n z c v).flagF = s.flagF := by
  simp only [State.flagF, State.setFlags, flags_low _ _ _ _ _ 6 (by decide), BitVec.getLsbD_extractLsb']
  rfl

@[simp] theorem State.setFlags_flagI (s : State) (n z c v : Bool) : (s.setFlags n z c v).flagI = s.flagI := by
  simp only [State.flagI, State.setFlags, flags_low _ _ _ _ _ 7 (by decide), BitVec.getLsbD_extractLsb']
  rfl

@[simp] theorem State.setFlags_mode (s : State) (n z c v : Bool) : (s.setFlags n z c v).mode = s.mode := by
  unfold State.mode
  ext i hi
  simp only [State.setFlags, BitVec.getElem_extractLsb', Nat.zero_add]
  rw [flags_low _ _ _ _ _ i (by omega), BitVec.getLsbD_extractLsb']
  simp [show i < 28 by omega]

@[simp] theorem State.setFlags_flagN (s : State) (n z c v : Bool) : (s.setFlags n z c v).flagN = n := by
  simp only [State.flagN, State.setFlags, BitVec.getLsbD_append]
  cases n <;> rfl

@[simp] theorem State.setFlags_flagZ (s : State) (n z c v : Bool) : (s.setFlags n z c v).flagZ = z := by
  simp only [State.flagZ, State.setFlags, BitVec.getLsbD_append]
  cases z <;> rfl

@[simp] theorem State.setFlags_flagC (s : State) (n z c v : Bool) : (s.setFlags n z c v).flagC = c := by
  simp only [State.flagC, State.setFlags, BitVec.getLsbD_append]
  cases c <;> rfl

@[simp] theorem State.setFlags_flagV (s : State) (n z c v : Bool) : (s.setFlags n z c v).flagV = v := by
  simp only [State.flagV, State.setFlags, BitVec.getLsbD_append]
  cases v <;> rfl

@[simp] theorem State.setFlagsOf_mode (s : State) (r : FlagResult) : (s.setFlagsOf r).mode = s.mode := State.setFlags_mode ..

@[simp] theorem State.setNZ_mode (s : State) (r : Word) : (s.setNZ r).mode = s.mode := State.setFlags_mode ..

@[simp] theorem State.setFlagsOf_thumb (s : State) (r : FlagResult) : (s.setFlagsOf r).thumb = s.thumb := State.setFlags_thumb ..

@[simp] theorem State.setNZ_thumb (s : State) (r : Word) : (s.setNZ r).thumb = s.thumb := State.setFlags_thumb ..

@[simp] theorem State.setFlagsOf_flagF (s : State) (r : FlagResult) : (s.setFlagsOf r).flagF = s.flagF := State.setFlags_flagF ..

@[simp] theorem State.setNZ_flagF (s : State) (r : Word) : (s.setNZ r).flagF = s.flagF := State.setFlags_flagF ..

@[simp] theorem State.setFlagsOf_flagI (s : State) (r : FlagResult) : (s.setFlagsOf r).flagI = s.flagI := State.setFlags_flagI ..

@[simp] theorem State.setNZ_flagI (s : State) (r : Word) : (s.setNZ r).flagI = s.flagI := State.setFlags_flagI ..

@[simp] theorem State.bankSet_mode (s : State) (m : BitVec 5) (i : BitVec 4) (v : Word) : (s.bankSet m i v).mode = s.mode := rfl
@[simp] theorem State.bankSet_thumb (s : State) (m : BitVec 5) (i : BitVec 4) (v : Word) : (s.bankSet m i v).thumb = s.thumb := rfl
@[simp] theorem State.bankSet_flagF (s : State) (m : BitVec 5) (i : BitVec 4) (v : Word) : (s.bankSet m i v).flagF = s.flagF := rfl
@[simp] theorem State.bankSet_flagI (s : State) (m : BitVec 5) (i : BitVec 4) (v : Word) : (s.bankSet m i v).flagI = s.flagI := rfl
@[simp] theorem State.bankSet_flagN (s : State) (m : BitVec 5) (i : BitVec 4) (v : Word) : (s.bankSet m i v).flagN = s.flagN := rfl
@[simp] theorem State.bankSet_flagZ (s : State) (m : BitVec 5) (i : BitVec 4) (v : Word) : (s.bankSet m i v).flagZ = s.flagZ := rfl
@[simp] theorem State.bankSet_flagC (s : State) (m : BitVec 5) (i : BitVec 4) (v : Word) : (s.bankSet m i v).flagC = s.flagC := rfl
@[simp] theorem State.bankSet_flagV (s : State) (m : BitVec 5) (i : BitVec 4) (v : Word) : (s.bankSet m i v).flagV = s.flagV := rfl
@[simp] theorem State.bankSet_privileged (s : State) (m : BitVec 5) (i : BitVec 4) (v : Word) : (s.bankSet m i v).privileged = s.privileged := rfl
@[simp] theorem State.bankSet_ilen (s : State) (m : BitVec 5) (i : BitVec 4) (v : Word) : (s.bankSet m i v).ilen = s.ilen := rfl
@[simp] theorem State.setReg_mode (s : State) (i : BitVec 4) (v : Word) : (s.setReg i v).mode = s.mode := rfl
@[simp] theorem State.setReg_thumb (s : State) (i : BitVec 4) (v : Word) : (s.setReg i v).thumb = s.thumb := rfl
@[simp] theorem State.setReg_flagF (s : State) (i : BitVec 4) (v : Word) : (s.setReg i v).flagF = s.flagF := rfl
@[simp] theorem State.setReg_flagI (s : State) (i : BitVec 4) (v : Word) : (s.setReg i v).flagI = s.flagI := rfl
@[simp] theorem State.setReg_flagN (s : State) (i : BitVec 4) (v : Word) : (s.setReg i v).flagN = s.flagN := rfl
@[simp] theorem State.setReg_flagZ (s : State) (i : BitVec 4) (v : Word) : (s.setReg i v).flagZ = s.flagZ := rfl
@[simp] theorem State.setReg_flagC (s : State) (i : BitVec 4) (v : Word) : (s.setReg i v).flagC = s.flagC := rfl
@[simp] theorem State.setReg_flagV (s : State) (i : BitVec 4) (v : Word) : (s.setReg i v).flagV = s.flagV := rfl
@[simp] theorem State.setReg_privileged (s : State) (i : BitVec 4) (v : Word) : (s.setReg i v).privileged = s.privileged := rfl
@[simp] theorem State.setReg_ilen (s : State) (i : BitVec 4) (v : Word) : (s.setReg i v).ilen = s.ilen := rfl
@[simp] theorem State.setUserReg_mode (s : State) (i : BitVec 4) (v : Word) : (s.setUserReg i v).mode = s.mode := rfl
@[simp] theorem State.setUserReg_thumb (s : State) (i : BitVec 4) (v : Word) : (s.setUserReg i v).thumb = s.thumb := rfl
@[simp] theorem State.setUserReg_flagF (s : State) (i : BitVec 4) (v : Word) : (s.setUserReg i v).flagF = s.flagF := rfl
@[simp] theorem State.setUserReg_flagI (s : State) (i : BitVec 4) (v : Word) : (s.setUserReg i v).flagI = s.flagI := rfl
@[simp] theorem State.setUserReg_flagN (s : State) (i : BitVec 4) (v : Word) : (s.setUserReg i v).flagN = s.flagN := rfl
@[simp] theorem State.setUserReg_flagZ (s : State) (i : BitVec 4) (v : Word) : (s.setUserReg i v).flagZ = s.flagZ := rfl
@[simp] theorem State.setUserReg_flagC (s : State) (i : BitVec 4) (v : Word) : (s.setUserReg i v).flagC = s.flagC := rfl
@[simp] theorem State.setUserReg_flagV (s : State) (i : BitVec 4) (v : Word) : (s.setUserReg i v).flagV = s.flagV := rfl
@[simp] theorem State.setUserReg_privileged (s : State) (i : BitVec 4) (v : Word) : (s.setUserReg i v).privileged = s.privileged := rfl
@[simp] theorem State.setUserReg_ilen (s : State) (i : BitVec 4) (v : Word) : (s.setUserReg i v).ilen = s.ilen := rfl
@[simp] theorem State.setCpState_mode (s : State) (cp : BitVec 4) (v : Nat) : (s.setCpState cp v).mode = s.mode := rfl
@[simp] theorem State.setCpState_thumb (s : State) (cp : BitVec 4) (v : Nat) : (s.setCpState cp v).thumb = s.thumb := rfl
@[simp] theorem State.setCpState_flagF (s : State) (cp : BitVec 4) (v : Nat) : (s.setCpState cp v).flagF = s.flagF := rfl
@[simp] theorem State.setCpState_flagI (s : State) (cp : BitVec 4) (v : Nat) : (s.setCpState cp v).flagI = s.flagI := rfl
@[simp] theorem State.setCpState_flagN (s : State) (cp : BitVec 4) (v : Nat) : (s.setCpState cp v).flagN = s.flagN := rfl
@[simp] theorem State.setCpState_flagZ (s : State) (cp : BitVec 4) (v : Nat) : (s.setCpState cp v).flagZ = s.flagZ := rfl
@[simp] theorem State.setCpState_flagC (s : State) (cp : BitVec 4) (v : Nat) : (s.setCpState cp v).flagC = s.flagC := rfl
@[simp] theorem State.setCpState_flagV (s : State) (cp : BitVec 4) (v : Nat) : (s.setCpState cp v).flagV = s.flagV := rfl
@[simp] theorem State.setCpState_privileged (s : State) (cp : BitVec 4) (v : Nat) : (s.setCpState cp v).privileged = s.privileged := rfl
@[simp] theorem State.setCpState_ilen (s : State) (cp : BitVec 4) (v : Nat) : (s.setCpState cp v).ilen = s.ilen := rfl
@[simp] theorem State.offered_mode (s : State) : s.offered.mode = s.mode := rfl
@[simp] theorem State.offered_thumb (s : State) : s.offered.thumb = s.thumb := rfl
@[simp] theorem State.offered_flagF (s : State) : s.offered.flagF = s.flagF := rfl
@[simp] theorem State.offered_flagI (s : State) : s.offered.flagI = s.flagI := rfl
@[simp] theorem State.offered_flagN (s : State) : s.offered.flagN = s.flagN := rfl
@[simp] theorem State.offered_flagZ (s : State) : s.offered.flagZ = s.flagZ := rfl
@[simp] theorem State.offered_flagC (s : State) : s.offered.flagC = s.flagC := rfl
@[simp] theorem State.offered_flagV (s : State) : s.offered.flagV = s.flagV := rfl
@[simp] theorem State.offered_privileged (s : State) : s.offered.privileged = s.privileged := rfl
@[simp] theorem State.offered_ilen (s : State) : s.offered.ilen = s.ilen := rfl
@[simp] theorem State.stepped_mode (s : State) : s.stepped.mode = s.mode := rfl
@[simp] theorem State.stepped_thumb (s : State) : s.stepped.thumb = s.thumb := rfl
@[simp] theorem State.stepped_flagF (s : State) : s.stepped.flagF = s.flagF := rfl
@[simp] theorem State.stepped_flagI (s : State) : s.stepped.flagI = s.flagI := rfl
@[simp] theorem State.stepped_flagN (s : State) : s.stepped.flagN = s.flagN := rfl
@[simp] theorem State.stepped_flagZ (s : State) : s.stepped.flagZ = s.flagZ := rfl
@[simp] theorem State.stepped_flagC (s : State) : s.stepped.flagC = s.flagC := rfl
@[simp] theorem State.stepped_flagV (s : State) : s.stepped.flagV = s.flagV := rfl
@[simp] theorem State.stepped_privileged (s : State) : s.stepped.privileged = s.privileged := rfl
@[simp] theorem State.stepped_ilen (s : State) : s.stepped.ilen = s.ilen := rfl
@[simp] theorem State.draw_mode (s : State) : s.draw.2.mode = s.mode := rfl
@[simp] theorem State.draw_thumb (s : State) : s.draw.2.thumb = s.thumb := rfl
@[simp] theorem State.draw_flagF (s : State) : s.draw.2.flagF = s.flagF := rfl
@[simp] theorem State.draw_flagI (s : State) : s.draw.2.flagI = s.flagI := rfl
@[simp] theorem State.draw_flagN (s : State) : s.draw.2.flagN = s.flagN := rfl
@[simp] theorem State.draw_flagZ (s : State) : s.draw.2.flagZ = s.flagZ := rfl
@[simp] theorem State.draw_flagC (s : State) : s.draw.2.flagC = s.flagC := rfl
@[simp] theorem State.draw_flagV (s : State) : s.draw.2.flagV = s.flagV := rfl
@[simp] theorem State.draw_privileged (s : State) : s.draw.2.privileged = s.privileged := rfl
@[simp] theorem State.draw_ilen (s : State) : s.draw.2.ilen = s.ilen := rfl
@[simp] theorem State.setSpsrOf_mode (s : State) (m : BitVec 5) (v : Word) : (s.setSpsrOf m v).mode = s.mode := by
  rw [State.setSpsrOf_eq]
  rfl
@[simp] theorem State.setSpsrOf_thumb (s : State) (m : BitVec 5) (v : Word) : (s.setSpsrOf m v).thumb = s.thumb := by
  rw [State.setSpsrOf_eq]
  rfl
@[simp] theorem State.setSpsrOf_flagF (s : State) (m : BitVec 5) (v : Word) : (s.setSpsrOf m v).flagF = s.flagF := by
  rw [State.setSpsrOf_eq]
  rfl
@[simp] theorem State.setSpsrOf_flagI (s : State) (m : BitVec 5) (v : Word) : (s.setSpsrOf m v).flagI = s.flagI := by
  rw [State.setSpsrOf_eq]
  rfl
@[simp] theorem State.setSpsrOf_flagN (s : State) (m : BitVec 5) (v : Word) : (s.setSpsrOf m v).flagN = s.flagN := by
  rw [State.setSpsrOf_eq]
  rfl
@[simp] theorem State.setSpsrOf_flagZ (s : State) (m : BitVec 5) (v : Word) : (s.setSpsrOf m v).flagZ = s.flagZ := by
  rw [State.setSpsrOf_eq]
  rfl
@[simp] theorem State.setSpsrOf_flagC (s : State) (m : BitVec 5) (v : Word) : (s.setSpsrOf m v).flagC = s.flagC := by
  rw [State.setSpsrOf_eq]
  rfl
@[simp] theorem State.setSpsrOf_flagV (s : State) (m : BitVec 5) (v : Word) : (s.setSpsrOf m v).flagV = s.flagV := by
  rw [State.setSpsrOf_eq]
  rfl
@[simp] theorem State.setSpsrOf_privileged (s : State) (m : BitVec 5) (v : Word) : (s.setSpsrOf m v).privileged = s.privileged := by
  rw [State.setSpsrOf_eq]
  rfl
@[simp] theorem State.setSpsrOf_ilen (s : State) (m : BitVec 5) (v : Word) : (s.setSpsrOf m v).ilen = s.ilen := by
  rw [State.setSpsrOf_eq]
  rfl

@[simp] theorem State.setFlags_ilen (s : State) (n z c v : Bool) : (s.setFlags n z c v).ilen = s.ilen := by
  simp only [State.ilen, State.setFlags_thumb]

@[simp] theorem State.setFlags_privileged (s : State) (n z c v : Bool) :
    (s.setFlags n z c v).privileged = s.privileged := by
  simp only [State.privileged, State.setFlags_mode]

@[simp] theorem State.setThumb_thumb (s : State) (t : Bool) : (s.setThumb t).thumb = t := by
  simp only [State.thumb, State.setThumb, BitVec.getLsbD_append]
  cases t <;> rfl

/-! The registers. -/

/-- Reading a physical register after writing one. -/
theorem State.bankGet_bankSet (s : State) (m n : BitVec 5) (i j : BitVec 4) (v : Word) :
    (s.bankSet m i v).bankGet n j = if regIndex m i = regIndex n j then v else s.bankGet n j := by
  simp only [State.bankGet, State.bankSet, Fin.getElem_fin, Vector.getElem_set, Fin.val_inj]

/-- A register reads what was written to it. -/
@[simp] theorem State.reg_setReg_same (s : State) (i : BitVec 4) (v : Word) (h : i ≠ 15#4) :
    (s.setReg i v).reg i = v := by
  simp only [State.reg, if_neg h, State.setReg, State.bankGet_bankSet]
  exact if_pos rfl

/-- In one mode two register numbers name two physical registers. -/
theorem regIndex_inj (m : BitVec 5) (i j : BitVec 4) (hi : i ≠ 15#4) (hj : j ≠ 15#4) :
    regIndex m i = regIndex m j ↔ i = j := by
  revert m i j
  decide

/-- A register keeps its value when another one is written. -/
theorem State.reg_setReg_other (s : State) (i j : BitVec 4) (v : Word) (hi : i ≠ 15#4) (h : i ≠ j) :
    (s.setReg i v).reg j = s.reg j := by
  unfold State.reg
  split
  · rfl
  · rename_i hj
    simp only [State.setReg, State.bankGet_bankSet]
    exact if_neg fun e => h ((regIndex_inj s.mode i j hi hj).mp e)

/-! `showExec`. -/

@[simp] theorem State.showExec_regs (s : State) (w : Word) : (s.showExec w).regs = s.regs := rfl
@[simp] theorem State.showExec_pc (s : State) (w : Word) : (s.showExec w).pc = s.pc := rfl
@[simp] theorem State.showExec_cpsr (s : State) (w : Word) : (s.showExec w).cpsr = s.cpsr := rfl
@[simp] theorem State.showExec_spsrFiq (s : State) (w : Word) : (s.showExec w).spsrFiq = s.spsrFiq := rfl
@[simp] theorem State.showExec_spsrIrq (s : State) (w : Word) : (s.showExec w).spsrIrq = s.spsrIrq := rfl
@[simp] theorem State.showExec_spsrSvc (s : State) (w : Word) : (s.showExec w).spsrSvc = s.spsrSvc := rfl
@[simp] theorem State.showExec_spsrAbt (s : State) (w : Word) : (s.showExec w).spsrAbt = s.spsrAbt := rfl
@[simp] theorem State.showExec_spsrUnd (s : State) (w : Word) : (s.showExec w).spsrUnd = s.spsrUnd := rfl
@[simp] theorem State.showExec_cp15 (s : State) (w : Word) : (s.showExec w).cp15 = s.cp15 := rfl
@[simp] theorem State.showExec_dcc (s : State) (w : Word) : (s.showExec w).dcc = s.dcc := rfl
@[simp] theorem State.showExec_icache (s : State) (w : Word) : (s.showExec w).icache = s.icache := rfl
@[simp] theorem State.showExec_dcache (s : State) (w : Word) : (s.showExec w).dcache = s.dcache := rfl
@[simp] theorem State.showExec_wbuf (s : State) (w : Word) : (s.showExec w).wbuf = s.wbuf := rfl
@[simp] theorem State.showExec_waiting (s : State) (w : Word) : (s.showExec w).waiting = s.waiting := rfl
@[simp] theorem State.showExec_busy (s : State) (w : Word) : (s.showExec w).busy = s.busy := rfl
@[simp] theorem State.showExec_resetHeld (s : State) (w : Word) : (s.showExec w).resetHeld = s.resetHeld := rfl
@[simp] theorem State.showExec_pins (s : State) (w : Word) : (s.showExec w).pins = s.pins := rfl
@[simp] theorem State.showExec_ice (s : State) (w : Word) : (s.showExec w).ice = s.ice := rfl
@[simp] theorem State.showExec_tap (s : State) (w : Word) : (s.showExec w).tap = s.tap := rfl
@[simp] theorem State.showExec_dbg (s : State) (w : Word) : (s.showExec w).dbg = s.dbg := rfl
@[simp] theorem State.showExec_attached (s : State) (w : Word) : (s.showExec w).attached = s.attached := rfl
@[simp] theorem State.showExec_cpState (s : State) (w : Word) : (s.showExec w).cpState = s.cpState := rfl
@[simp] theorem State.showExec_cpAnswers (s : State) (w : Word) : (s.showExec w).cpAnswers = s.cpAnswers := rfl
@[simp] theorem State.showExec_mem (s : State) (w : Word) : (s.showExec w).mem = s.mem := rfl
@[simp] theorem State.showExec_busErrors (s : State) (w : Word) : (s.showExec w).busErrors = s.busErrors := rfl
@[simp] theorem State.showExec_wbFifo (s : State) (w : Word) : (s.showExec w).wbFifo = s.wbFifo := rfl
@[simp] theorem State.showExec_wbRawCoherent (s : State) (w : Word) : (s.showExec w).wbRawCoherent = s.wbRawCoherent := rfl
@[simp] theorem State.showExec_inputs (s : State) (w : Word) : (s.showExec w).inputs = s.inputs := rfl
@[simp] theorem State.showExec_draws (s : State) (w : Word) : (s.showExec w).draws = s.draws := rfl
@[simp] theorem State.showExec_instrExec (s : State) (w : Word) :
    (s.showExec w).instrExec = s.condPassed (condField s.thumb w) := rfl
@[simp] theorem State.showExec_mode (s : State) (w : Word) : (s.showExec w).mode = s.mode := rfl
@[simp] theorem State.showExec_thumb (s : State) (w : Word) : (s.showExec w).thumb = s.thumb := rfl

/-! The core as it leaves debug state, and its pipeline there. -/

@[simp] theorem DebugCore.left_active : DebugCore.left.active = false := rfl
@[simp] theorem DebugCore.left_watch : DebugCore.left.watch = .idle := rfl
@[simp] theorem DebugCore.left_ackFetches : DebugCore.left.ackFetches = 3 := rfl
@[simp] theorem clockedIn_active (taken : Bool) (w : Word) (d : DebugCore) : (clockedIn taken w d).active = d.active := rfl
@[simp] theorem clockedIn_watch (taken : Bool) (w : Word) (d : DebugCore) : (clockedIn taken w d).watch = d.watch := rfl
@[simp] theorem clockedIn_armed (taken : Bool) (w : Word) (d : DebugCore) : (clockedIn taken w d).armed = d.armed := rfl
@[simp] theorem clockedIn_system (taken : Bool) (w : Word) (d : DebugCore) : (clockedIn taken w d).system = d.system := rfl
@[simp] theorem clockedIn_flush (taken : Bool) (w : Word) (d : DebugCore) : (clockedIn taken w d).flush = taken := rfl
@[simp] theorem clockedIn_dataIn (taken : Bool) (w : Word) (d : DebugCore) : (clockedIn taken w d).dataIn = [] := rfl
@[simp] theorem clockedIn_dataOut (taken : Bool) (w : Word) (d : DebugCore) : (clockedIn taken w d).dataOut = d.dataOut := rfl
@[simp] theorem clockedIn_ackFetches (taken : Bool) (w : Word) (d : DebugCore) : (clockedIn taken w d).ackFetches = d.ackFetches := rfl

end Sys2Proof.Machine
end

