-- ==== Sys2Proof/Laws/Ops.lean ====
section
/-!
SUPPORT. What the shared operations can do, said once: going on, the condition test, the pc writes, taking an
exception and returning from one, the outcome of an access, and the destination of a data operation.
-/

namespace Sys2Proof.Machine

/-- `finish` goes on where there is room for the next instruction, and refuses elsewhere; nothing else. -/
theorem finish_cases (s : State) :
    (s.room = true ∧ finish s = .next s.stepped) ∨ (s.room = false ∧ finish s = .refused .addressWrap) := by
  by_cases h : (!s.dbg.active && decide (2 ^ 32 ≤ s.pc.toNat + s.ilen.toNat)) = true
  · refine .inr ⟨?_, by rw [finish, if_pos h]⟩
    simp only [Bool.and_eq_true, Bool.not_eq_true', decide_eq_true_eq] at h
    simp only [State.room, h.1, Bool.false_or, decide_eq_false_iff_not]
    omega
  · refine .inl ⟨?_, by rw [finish, if_neg h]; rfl⟩
    simp only [Bool.and_eq_true, Bool.not_eq_true', decide_eq_true_eq, not_and] at h
    cases ha : s.dbg.active
    · simp only [State.room, ha, Bool.false_or, decide_eq_true_eq]
      have := h ha
      omega
    · simp only [State.room, ha, Bool.true_or]

/-- Where there is room, `finish` goes on. -/
theorem finish_room {s : State} (h : s.room = true) : finish s = .next s.stepped := by
  rcases finish_cases s with ⟨-, e⟩ | ⟨e, -⟩
  · exact e
  · rw [h] at e; cases e

/-- If `finish` goes on, the state is the next one. -/
theorem finish_next {s t : State} (h : finish s = .next t) : s.room = true ∧ t = s.stepped := by
  rcases finish_cases s with ⟨r, e⟩ | ⟨-, e⟩
  · rw [e] at h; cases h; exact ⟨r, rfl⟩
  · rw [e] at h; cases h

/-- Room depends on the pc, the T bit and the debug state only. -/
theorem room_congr {s t : State} (hd : t.dbg.active = s.dbg.active) (hp : t.pc = s.pc)
    (ht : t.thumb = s.thumb) : t.room = s.room := by
  unfold State.room State.ilen
  rw [hd, hp, ht]

/-- An instruction whose condition passes runs. -/
theorem ifPassed_passes {s : State} {cond : BitVec 4} {f : State → Result} (h : s.passes cond = true) :
    ifPassed cond s f = f s := by
  simp only [State.passes, Bool.and_eq_true, bne_iff_ne] at h
  rw [ifPassed, if_neg h.1, if_pos h.2]

/-- What a conditional instruction can do: it is refused, it runs, or it only goes on. -/
theorem ifPassed_cases (cond : BitVec 4) (s : State) (f : State → Result) :
    (cond = 15#4 ∧ ifPassed cond s f = .refused .condNever) ∨
    (s.passes cond = true ∧ ifPassed cond s f = f s) ∨
    (cond ≠ 15#4 ∧ s.condPassed cond = false ∧ ifPassed cond s f = finish s) := by
  unfold ifPassed State.passes
  by_cases h : cond = 15#4
  · exact .inl ⟨h, if_pos h⟩
  · cases hc : s.condPassed cond
    · refine .inr (.inr ⟨h, rfl, ?_⟩)
      rw [if_neg h, if_neg (by decide)]
    · refine .inr (.inl ⟨?_, ?_⟩)
      · simp only [Bool.and_true, bne_iff_ne]; exact h
      · rw [if_neg h, if_pos rfl]

/-- A write to the pc: in Thumb state with bit 0 cleared, in ARM state as it is if it is aligned. -/
theorem writePc_next {r : Word} {s t : State} (h : writePc r s = .next t) :
    (s.thumb = true ∧ t = { s with pc := r &&& 0xFFFFFFFE#32 }) ∨
    (s.thumb = false ∧ r.extractLsb' 0 2 = 0#2 ∧ t = { s with pc := r }) := by
  unfold writePc at h
  split at h
  · rename_i ht; cases h; exact .inl ⟨ht, rfl⟩
  · rename_i ht
    split at h
    · rename_i hr; cases h; exact .inr ⟨Bool.eq_false_iff.mpr ht, hr, rfl⟩
    · cases h

/-- A return from an exception: the CPSR from the SPSR of a mode that has one, to one of the seven modes, and the
write of the pc in that state. -/
theorem returnFromException_next {writes : State → Result} {s t : State}
    (h : returnFromException writes s = .next t) :
    modeHasSpsr s.mode = true ∧ modeLegal ((statusClean (s.spsrOf s.mode)).extractLsb' 0 5) = true ∧
    writes { s with cpsr := statusClean (s.spsrOf s.mode) } = .next t := by
  unfold returnFromException at h
  split at h
  · cases h
  · rename_i hs
    dsimp only at h
    split at h
    · rename_i hm
      exact ⟨by simpa using hs, hm, h⟩
    · cases h

/-- After an access: its continuation, a Data Abort, or the fault. -/
theorem afterAccess_next {α : Type} {a : Access α} {f : α → State → Result} {t : State}
    (h : afterAccess a f = .next t) :
    (∃ v s, a = .done v s ∧ f v s = .next t) ∨ (∃ s, a = .abort s ∧ t = takeException .dataAbort s) := by
  cases a with
  | done v s => exact .inl ⟨v, s, rfl, h⟩
  | abort s => cases h; exact .inr ⟨s, rfl, rfl⟩
  | fault e => cases h

/-- A form that runs was not refused. -/
theorem unlessRefused_next {r : Option Refusal} {k : Result} {t : State} (h : unlessRefused r k = .next t) :
    r = none ∧ k = .next t := by
  cases r with
  | none => exact ⟨rfl, h⟩
  | some e => cases h

/-- With no debugger, nothing follows the entry of an exception. -/
theorem catchEntry_undebugged {e : Exc} {s : State} (h : s.undebugged = true) : catchEntry e s = s := by
  simp only [State.undebugged, Bool.and_eq_true, Bool.not_eq_true'] at h
  simp only [catchEntry, h.1, State.watching, h.2, Bool.false_and, Bool.false_eq_true, ↓reduceIte]

/-- The entry of an exception in the terms of R530. -/
theorem takeException_undebugged {e : Exc} {s : State} (h : s.undebugged = true) :
    takeException e s =
      s.entered e.mode (s.linkOf e) e.offset (if e = .reset ∨ e = .fiq then 1#1 else s.cpsr.extractLsb' 6 1) := by
  have h' : (exceptionEntry e s).undebugged = true := by
    rw [← h]
    simp [exceptionEntry, State.undebugged]
  rw [takeException, catchEntry_undebugged h']
  rfl

/-- The destination of a data operation that is not the pc. -/
theorem dpWrite_register {s : State} {rd : BitVec 4} (sf : BitVec 1) (r : FlagResult) (hr : s.room = true)
    (h : rd ≠ 15#4) : dpWrite sf rd r s = .next (s.wrote sf rd r.value r.c r.v) := by
  have hroom : State.room ((if sf = 1#1 then s.setFlagsOf r else s).setReg rd r.value) = true := by
    rw [← hr]
    split <;> exact room_congr rfl rfl (by simp)
  rw [dpWrite, if_neg h, finish_room hroom]
  congr 1
  unfold State.wrote State.stepped
  split
  · have : ((s.setFlagsOf r).setReg rd r.value).ilen = s.ilen := by simp [State.ilen]
    rw [this]
    rfl
  · rfl

/-- The flags of a compare. -/
theorem finish_flags {s : State} (r : FlagResult) (hr : s.room = true) :
    finish (s.setFlagsOf r) = .next (s.compared r.value r.c r.v) := by
  have hroom : (s.setFlagsOf r).room = true := by
    rw [← hr]
    exact room_congr rfl rfl (by simp)
  rw [finish_room hroom]
  congr 1
  unfold State.compared State.stepped
  have : (s.setFlagsOf r).ilen = s.ilen := by simp [State.ilen]
  rw [this]
  rfl

/-- A register write and the next instruction. -/
theorem finish_setReg {s : State} (i : BitVec 4) (v : Word) (hr : s.room = true) :
    finish (s.setReg i v) = .next { s.setReg i v with pc := s.pc + s.ilen } := by
  have hroom : (s.setReg i v).room = true := by
    rw [← hr]
    exact room_congr rfl rfl rfl
  rw [finish_room hroom]
  rfl

end Sys2Proof.Machine
end

