-- ==== Sys2Proof/Laws/Access.lean ====
section
/-!
SUPPORT. What a data access can do: the state it leaves alone, whatever its outcome, and that it keeps memory
in canonical form and the write buffer within its size.
-/

namespace Sys2Proof.Machine

/-- Everything that no data access changes: the core's registers, CP15 and CP14, the ICache, the pins, the
coprocessors and the model's inputs; the debug unit too where no debugger takes part. -/
structure KeptCore (s t : State) : Prop where
  regs : t.regs = s.regs
  pc : t.pc = s.pc
  cpsr : t.cpsr = s.cpsr
  spsrFiq : t.spsrFiq = s.spsrFiq
  spsrIrq : t.spsrIrq = s.spsrIrq
  spsrSvc : t.spsrSvc = s.spsrSvc
  spsrAbt : t.spsrAbt = s.spsrAbt
  spsrUnd : t.spsrUnd = s.spsrUnd
  cp15 : t.cp15 = s.cp15
  dcc : t.dcc = s.dcc
  icache : t.icache = s.icache
  waiting : t.waiting = s.waiting
  busy : t.busy = s.busy
  resetHeld : t.resetHeld = s.resetHeld
  instrExec : t.instrExec = s.instrExec
  pins : t.pins = s.pins
  tap : t.tap = s.tap
  attached : t.attached = s.attached
  cpState : t.cpState = s.cpState
  cpAnswers : t.cpAnswers = s.cpAnswers
  busErrors : t.busErrors = s.busErrors
  wbFifo : t.wbFifo = s.wbFifo
  wbRawCoherent : t.wbRawCoherent = s.wbRawCoherent
  inputs : t.inputs = s.inputs
  active : t.dbg.active = s.dbg.active
  system : t.dbg.system = s.dbg.system
  debugUnit : s.undebugged = true → t.ice = s.ice ∧ t.dbg = s.dbg
  draws : s.draws ≤ t.draws

theorem KeptCore.refl (s : State) : KeptCore s s := by
  constructor <;> first | rfl | exact fun _ => ⟨rfl, rfl⟩

theorem KeptCore.undebugged {s t : State} (h : KeptCore s t) : t.undebugged = s.undebugged := by
  unfold State.undebugged
  rw [h.active, h.pins]

theorem KeptCore.trans {s t u : State} (h : KeptCore s t) (g : KeptCore t u) : KeptCore s u := by
  constructor
  case debugUnit =>
    intro hs
    have ht := h.debugUnit hs
    have hu := g.debugUnit (h.undebugged.trans hs)
    exact ⟨hu.1.trans ht.1, hu.2.trans ht.2⟩
  case draws => exact Nat.le_trans h.draws g.draws
  case regs => exact g.regs.trans h.regs
  case pc => exact g.pc.trans h.pc
  case cpsr => exact g.cpsr.trans h.cpsr
  case spsrFiq => exact g.spsrFiq.trans h.spsrFiq
  case spsrIrq => exact g.spsrIrq.trans h.spsrIrq
  case spsrSvc => exact g.spsrSvc.trans h.spsrSvc
  case spsrAbt => exact g.spsrAbt.trans h.spsrAbt
  case spsrUnd => exact g.spsrUnd.trans h.spsrUnd
  case cp15 => exact g.cp15.trans h.cp15
  case dcc => exact g.dcc.trans h.dcc
  case icache => exact g.icache.trans h.icache
  case waiting => exact g.waiting.trans h.waiting
  case busy => exact g.busy.trans h.busy
  case resetHeld => exact g.resetHeld.trans h.resetHeld
  case instrExec => exact g.instrExec.trans h.instrExec
  case pins => exact g.pins.trans h.pins
  case tap => exact g.tap.trans h.tap
  case attached => exact g.attached.trans h.attached
  case cpState => exact g.cpState.trans h.cpState
  case cpAnswers => exact g.cpAnswers.trans h.cpAnswers
  case busErrors => exact g.busErrors.trans h.busErrors
  case wbFifo => exact g.wbFifo.trans h.wbFifo
  case wbRawCoherent => exact g.wbRawCoherent.trans h.wbRawCoherent
  case inputs => exact g.inputs.trans h.inputs
  case active => exact g.active.trans h.active
  case system => exact g.system.trans h.system

/-- A change of the memory side alone: the DCache, the write buffer, memory, and free values drawn. -/
theorem KeptCore.memorySide (s : State) (dcache : Cache) (wbuf : List WbEntry) (mem : Memory) (n : Nat) :
    KeptCore s { s with dcache := dcache, wbuf := wbuf, mem := mem, draws := s.draws + n } := by
  constructor <;> first | rfl | exact fun _ => ⟨rfl, rfl⟩ | exact Nat.le_add_right _ _

/-- The outcome of an access that started in `s` leaves the core as it was. -/
def Access.keeps {α : Type} (s : State) : Access α → Prop
  | .done _ t => KeptCore s t
  | .abort t => KeptCore s t
  | .fault _ => True

/-! The write buffer. -/

theorem drainOne_kept (s : State) : KeptCore s (drainOne s) := by
  unfold drainOne
  split
  · exact KeptCore.refl s
  · split
    · exact KeptCore.memorySide s s.dcache _ _ 0
    · exact KeptCore.memorySide s s.dcache _ _ 1

theorem drainSome_kept (n : Nat) (s : State) : KeptCore s (drainSome n s) := by
  induction n generalizing s with
  | zero => exact KeptCore.refl s
  | succ n ih => exact (drainOne_kept s).trans (ih _)

theorem drainWriteBuffer_kept (s : State) : KeptCore s (drainWriteBuffer s) := drainSome_kept _ _

theorem makeRoom_kept (slots : Nat) (newAddress : Bool) (n : Nat) (s : State) :
    KeptCore s (makeRoom slots newAddress n s) := by
  induction n generalizing s with
  | zero => exact KeptCore.refl s
  | succ n ih =>
    unfold makeRoom
    split
    · exact (drainOne_kept s).trans (ih _)
    · exact KeptCore.refl s

theorem wbNew_kept (e : WbEntry) (s : State) : KeptCore s (wbNew e s) :=
  (makeRoom_kept _ _ _ s).trans (KeptCore.memorySide _ _ _ _ 0)

theorem wbPut_kept (a : Word) (lanes : BitVec 4) (v : Word) (join : Bool) (s : State) :
    KeptCore s (wbPut a lanes v join s) := by
  unfold wbPut
  dsimp only
  split
  · split
    · exact (makeRoom_kept _ _ _ s).trans (KeptCore.memorySide _ _ _ _ 0)
    · exact wbNew_kept _ s
  · exact wbNew_kept _ s

/-- The entry that leaves a buffer is one of its entries. -/
theorem drainIndex_lt {s : State} (h : s.wbuf ≠ []) : drainIndex s < s.wbuf.length := by
  have := List.length_pos_of_ne_nil h
  unfold drainIndex
  split
  · exact this
  · exact Nat.mod_lt _ this

/-- The buffer is shorter by one after an entry has left. -/
theorem drainOne_length (s : State) : (drainOne s).wbuf.length = s.wbuf.length - 1 := by
  unfold drainOne
  split
  · rename_i h; rw [h]; rfl
  · rename_i e rest h
    split
    · rw [h]; rfl
    · simp only
      rw [List.length_eraseIdx]
      rw [if_pos (drainIndex_lt (by rw [h]; simp))]

theorem drainSome_length (n : Nat) (s : State) : (drainSome n s).wbuf.length = s.wbuf.length - n := by
  induction n generalizing s with
  | zero => rfl
  | succ n ih =>
    unfold drainSome
    rw [ih, drainOne_length]
    omega

theorem drainWriteBuffer_wbuf (s : State) : (drainWriteBuffer s).wbuf = [] := by
  have := drainSome_length s.wbuf.length s
  rw [Nat.sub_self] at this
  exact List.eq_nil_of_length_eq_zero this

/-- Draining an empty buffer changes nothing. -/
theorem drainWriteBuffer_empty {s : State} (h : s.wbuf = []) : drainWriteBuffer s = s := by
  unfold drainWriteBuffer
  rw [h]
  rfl

/-! Memory in canonical form and the buffer within its size. -/

/-- Memory is in canonical form and the buffer holds at most four addresses and eight words. -/
structure Fits (s : State) : Prop where
  mem : s.mem.wf = true
  addresses : s.wbuf.length ≤ 4
  slots : wbSlots s.wbuf ≤ 8

/-- The words of a buffer with one entry taken out. -/
theorem wbSlots_eraseIdx (es : List WbEntry) (k : Nat) : wbSlots (es.eraseIdx k) ≤ wbSlots es := by
  unfold wbSlots
  induction es generalizing k with
  | nil => exact Nat.le_refl _
  | cons e rest ih =>
    cases k with
    | zero => simp
    | succ k =>
      simp only [List.eraseIdx_cons_succ, List.map_cons, List.sum_cons]
      exact Nat.add_le_add_left (ih k) _

theorem wbSlots_append (es fs : List WbEntry) : wbSlots (es ++ fs) = wbSlots es + wbSlots fs := by
  simp [wbSlots]

theorem drainOne_fits {s : State} (h : Fits s) : Fits (drainOne s) := by
  unfold drainOne
  split
  · exact h
  · rename_i e rest hw
    have h2 := h.addresses
    have h3 := h.slots
    rw [hw] at h2 h3
    split
    · refine ⟨wbWrite_wf e h.mem, ?_, ?_⟩
      · simp only [List.length_cons] at h2 ⊢; omega
      · simp only [wbSlots, List.map_cons, List.sum_cons] at h3 ⊢; omega
    · refine ⟨wbWrite_wf _ h.mem, ?_, ?_⟩
      · exact Nat.le_trans (List.length_eraseIdx_le _ _) h.addresses
      · exact Nat.le_trans (wbSlots_eraseIdx _ _) h.slots

theorem drainSome_fits (n : Nat) {s : State} (h : Fits s) : Fits (drainSome n s) := by
  induction n generalizing s with
  | zero => exact h
  | succ n ih => exact ih (drainOne_fits h)

theorem drainWriteBuffer_fits {s : State} (h : Fits s) : Fits (drainWriteBuffer s) := drainSome_fits _ h

theorem makeRoom_fits (slots : Nat) (newAddress : Bool) (n : Nat) {s : State} (h : Fits s) :
    Fits (makeRoom slots newAddress n s) := by
  induction n generalizing s with
  | zero => exact h
  | succ n ih =>
    unfold makeRoom
    split
    · exact ih (drainOne_fits h)
    · exact h

/-- Once as many entries as there are may leave, there is room for up to eight words. -/
theorem makeRoom_room (slots : Nat) (newAddress : Bool) (hs : slots ≤ 8) (n : Nat) (s : State)
    (hn : s.wbuf.length ≤ n) :
    let t := makeRoom slots newAddress n s
    (newAddress = true → t.wbuf.length < 4) ∧ wbSlots t.wbuf + slots ≤ 8 := by
  induction n generalizing s with
  | zero =>
    have h0 : s.wbuf = [] := List.eq_nil_of_length_eq_zero (Nat.le_zero.mp hn)
    simp only [makeRoom, h0, wbSlots, List.length_nil, List.map_nil, List.sum_nil]
    omega
  | succ n ih =>
    unfold makeRoom
    split
    · apply ih
      rw [drainOne_length]
      omega
    · rename_i h
      simp only [wbFull, Bool.or_eq_true, Bool.and_eq_true, decide_eq_true_eq, not_or, not_and] at h
      refine ⟨fun hb => ?_, ?_⟩
      · have := h.1 hb; omega
      · omega

theorem wbNew_fits (e : WbEntry) {s : State} (he : e.data.length ≤ 8) (h : Fits s) : Fits (wbNew e s) := by
  have hr := makeRoom_room e.data.length true he s.wbuf.length s (Nat.le_refl _)
  have hf := makeRoom_fits e.data.length true s.wbuf.length h
  unfold wbNew
  refine ⟨hf.mem, ?_, ?_⟩
  · have := hr.1 rfl
    simp only [List.length_append, List.length_singleton]
    omega
  · have := hr.2
    simp only [wbSlots_append]
    simp only [wbSlots, List.map_cons, List.map_nil, List.sum_cons, List.sum_nil] at this ⊢
    omega

/-- A buffer whose last entry has taken one more word. -/
theorem wbSlots_joined (es : List WbEntry) (e : WbEntry) (v : Word) (h : es.getLast? = some e) :
    wbSlots (es.dropLast ++ [{ e with data := e.data ++ [v] }]) = wbSlots es + 1 := by
  have hne : es ≠ [] := by intro hn; rw [hn] at h; cases h
  have hl : es.getLast hne = e := by
    rw [List.getLast?_eq_some_getLast hne] at h
    exact Option.some.inj h
  have := List.dropLast_append_getLast hne
  rw [hl] at this
  conv => rhs; rw [← this]
  rw [wbSlots_append, wbSlots_append]
  simp [wbSlots]
  omega

theorem wbPut_fits (a : Word) (lanes : BitVec 4) (v : Word) (join : Bool) {s : State} (h : Fits s) :
    Fits (wbPut a lanes v join s) := by
  have hr := makeRoom_room 1 false (by decide) s.wbuf.length s (Nat.le_refl _)
  have hf := makeRoom_fits 1 false s.wbuf.length h
  unfold wbPut
  dsimp only
  split
  · rename_i e _ he
    split
    · refine ⟨hf.mem, ?_, ?_⟩
      · have hne : (makeRoom 1 false s.wbuf.length s).wbuf ≠ [] := by intro hn; rw [hn] at he; cases he
        have := hf.addresses
        have hpos := List.length_pos_of_ne_nil hne
        simp only [List.length_append, List.length_dropLast, List.length_singleton]
        omega
      · rw [wbSlots_joined _ _ _ he]
        exact hr.2
    · exact wbNew_fits _ (by simp) h
  · exact wbNew_fits _ (by simp) h

/-! Linefills, and the watchpoint logic. -/

theorem evict_kept (l : Line) (g : Fin 4) (s : State) : KeptCore s (evict l g s) := wbNew_kept _ s

theorem evict_fits (l : Line) (g : Fin 4) {s : State} (h : Fits s) : Fits (evict l g s) :=
  wbNew_fits _ (by simp) h

theorem linefillD_kept (a : Word) (s : State) : KeptCore s (linefillD a s) := by
  unfold linefillD
  dsimp only
  refine KeptCore.trans (t := if _ then _ else _) ?_ (KeptCore.memorySide _ _ _ _ 0)
  split
  · exact (KeptCore.memorySide s s.dcache s.wbuf s.mem 1).trans (evict_kept _ _ _)
  · exact KeptCore.memorySide s s.dcache s.wbuf s.mem 1

theorem linefillD_fits (a : Word) {s : State} (h : Fits s) : Fits (linefillD a s) := by
  have h1 : Fits { s with draws := s.draws + 1 } := ⟨h.mem, h.addresses, h.slots⟩
  unfold linefillD
  dsimp only
  split
  · have := evict_fits (s.dcache.line (segOf a) (lineIdx (victimOf s.cp15.lockD s.draws))) (segOf a) h1
    exact ⟨this.mem, this.addresses, this.slots⟩
  · exact ⟨h.mem, h.addresses, h.slots⟩

theorem watchData_undebugged {s : State} (a d : Word) (sz : Size) (write privileged : Bool)
    (h : s.undebugged = true) : watchData a d sz write privileged s = s := by
  simp only [State.undebugged, Bool.and_eq_true, Bool.not_eq_true'] at h
  simp [watchData, State.watching, h.2]

theorem watchData_kept (a d : Word) (sz : Size) (write privileged : Bool) (s : State) :
    KeptCore s (watchData a d sz write privileged s) := by
  by_cases h : s.undebugged = true
  · rw [watchData_undebugged a d sz write privileged h]
    exact KeptCore.refl s
  · unfold watchData
    split
    · constructor <;> first | rfl | exact fun hs => absurd hs h
    · exact KeptCore.refl s

theorem watchData_fits (a d : Word) (sz : Size) (write privileged : Bool) {s : State} (h : Fits s) :
    Fits (watchData a d sz write privileged s) := by
  unfold watchData
  split
  · exact ⟨h.mem, h.addresses, h.slots⟩
  · exact h

theorem watchAborted_undebugged {s : State} (a : Word) (sz : Size) (privileged : Bool) (h : s.undebugged = true) :
    watchAborted a sz privileged s = s := by
  simp only [State.undebugged, Bool.and_eq_true, Bool.not_eq_true'] at h
  simp [watchAborted, State.watching, h.2]

theorem watchAborted_kept (a : Word) (sz : Size) (privileged : Bool) (s : State) :
    KeptCore s (watchAborted a sz privileged s) := by
  unfold watchAborted
  split
  · exact (KeptCore.memorySide s s.dcache s.wbuf s.mem 1).trans (watchData_kept _ _ _ _ _ _)
  · exact KeptCore.refl s

theorem watchAborted_fits (a : Word) (sz : Size) (privileged : Bool) {s : State} (h : Fits s) :
    Fits (watchAborted a sz privileged s) := by
  unfold watchAborted
  split
  · exact watchData_fits _ _ _ _ _ (s := { s with draws := s.draws + 1 }) ⟨h.mem, h.addresses, h.slots⟩
  · exact h

/-! Loads. -/

/-- The outcome of an access keeps memory in form and the buffer within its size. -/
def Access.fits {α : Type} : Access α → Prop
  | .done _ t => Fits t
  | .abort t => Fits t
  | .fault _ => True

theorem loadWord_kept (a : Word) (gcd : Bool) (s : State) : (loadWord a gcd s).keeps s := by
  unfold loadWord
  split
  · trivial
  · exact KeptCore.refl s
  · split
    · exact linefillD_kept a s
    · dsimp only
      split <;> exact drainWriteBuffer_kept s

theorem loadWord_fits (a : Word) (gcd : Bool) {s : State} (h : Fits s) : (loadWord a gcd s).fits := by
  unfold loadWord
  split
  · trivial
  · exact h
  · split
    · exact linefillD_fits a h
    · dsimp only
      split <;> exact drainWriteBuffer_fits h

theorem debugLoad_kept (a : Word) (sz : Size) (s : State) (h : s.dbg.active = true) :
    (debugLoad a sz s).keeps s := by
  constructor <;> first | rfl | exact Nat.le_refl _ | skip
  intro hs
  rw [State.undebugged, h] at hs
  cases hs

/-- A load leaves the core as it was, whatever its outcome. -/
theorem load_kept (a : Word) (sz : Size) (privileged : Bool) (s : State) : (load a sz privileged s).keeps s := by
  unfold load
  split
  · rename_i h
    exact debugLoad_kept a sz s (by simp only [State.debugSpeed, Bool.and_eq_true] at h; exact h.1)
  · split
    · trivial
    · exact watchAborted_kept _ _ _ s
    · rename_i cd bd _
      have := loadWord_kept a (cd && s.cp15.c && s.cp15.p) s
      split
      · trivial
      · rename_i s' he; rw [he] at this; exact KeptCore.trans this (watchAborted_kept _ _ _ s')
      · rename_i w s' he; rw [he] at this; exact KeptCore.trans this (watchData_kept _ _ _ _ _ s')

theorem load_fits (a : Word) (sz : Size) (privileged : Bool) {s : State} (h : Fits s) :
    (load a sz privileged s).fits := by
  unfold load
  split
  · exact ⟨h.mem, h.addresses, h.slots⟩
  · split
    · trivial
    · exact watchAborted_fits _ _ _ h
    · rename_i cd bd _
      have := loadWord_fits a (cd && s.cp15.c && s.cp15.p) h
      split
      · trivial
      · rename_i s' he; rw [he] at this; exact watchAborted_fits _ _ _ this
      · rename_i w s' he; rw [he] at this; exact watchData_fits _ _ _ _ _ this

/-! Stores. -/

theorem storeHit_kept (a : Word) (lanes : BitVec 4) (v : Word) (dirty : Bool) (idx : Fin 64) (s : State) :
    KeptCore s (storeHit a lanes v dirty idx s) := KeptCore.memorySide s _ s.wbuf s.mem 0

theorem storeHit_fits (a : Word) (lanes : BitVec 4) (v : Word) (dirty : Bool) (idx : Fin 64) {s : State}
    (h : Fits s) : Fits (storeHit a lanes v dirty idx s) := ⟨h.mem, h.addresses, h.slots⟩

theorem storeExternal_kept (a : Word) (lanes : BitVec 4) (v : Word) (s : State) :
    (storeExternal a lanes v s).keeps s := by
  unfold storeExternal
  dsimp only
  split
  · exact drainWriteBuffer_kept s
  · exact (drainWriteBuffer_kept s).trans (KeptCore.memorySide _ _ _ _ 0)

theorem storeExternal_fits (a : Word) (lanes : BitVec 4) (v : Word) {s : State} (h : Fits s) :
    (storeExternal a lanes v s).fits := by
  have hd := drainWriteBuffer_fits h
  unfold storeExternal
  dsimp only
  split
  · exact hd
  · exact ⟨memWrite_wf a lanes v hd.mem, hd.addresses, hd.slots⟩

theorem storeWord_kept (a : Word) (lanes : BitVec 4) (v : Word) (gcd gbd join : Bool) (s : State) :
    (storeWord a lanes v gcd gbd join s).keeps s := by
  unfold storeWord
  split
  · trivial
  · rename_i idx _
    have hh := storeHit_kept a lanes v (gcd && gbd) idx s
    dsimp only
    split
    · exact hh
    · split
      · exact hh.trans (wbPut_kept _ _ _ _ _)
      · have he := storeExternal_kept a lanes v (storeHit a lanes v (gcd && gbd) idx s)
        split
        · trivial
        · cases hx : storeExternal a lanes v (storeHit a lanes v (gcd && gbd) idx s) with
          | done u t => rw [hx] at he; exact hh.trans he
          | abort t => rw [hx] at he; exact hh.trans he
          | fault e => trivial
  · split
    · exact wbPut_kept _ _ _ _ _
    · exact storeExternal_kept _ _ _ _

theorem storeWord_fits (a : Word) (lanes : BitVec 4) (v : Word) (gcd gbd join : Bool) {s : State} (h : Fits s) :
    (storeWord a lanes v gcd gbd join s).fits := by
  unfold storeWord
  split
  · trivial
  · rename_i idx _
    have hh := storeHit_fits a lanes v (gcd && gbd) idx h
    dsimp only
    split
    · exact hh
    · split
      · exact wbPut_fits _ _ _ _ hh
      · have he := storeExternal_fits a lanes v hh
        split
        · trivial
        · exact he
  · split
    · exact wbPut_fits _ _ _ _ h
    · exact storeExternal_fits _ _ _ h

/-- A store at debug speed changes the debug unit's queue only. -/
theorem debugStore_kept (v : Word) (s : State) (h : s.dbg.active = true) : KeptCore s (debugStore v s) := by
  constructor <;> first | rfl | exact Nat.le_refl _ | skip
  intro hs
  rw [State.undebugged, h] at hs
  cases hs

/-- A store leaves the core as it was, whatever its outcome. -/
theorem store_kept (a : Word) (sz : Size) (v : Word) (privileged join : Bool) (s : State) :
    (store a sz v privileged join s).keeps s := by
  unfold store
  split
  · rename_i h
    exact debugStore_kept v s (by simp only [State.debugSpeed, Bool.and_eq_true] at h; exact h.1)
  · split
    · trivial
    · exact watchData_kept _ _ _ _ _ s
    · rename_i cd bd _
      have := storeWord_kept a (laneMask s.cp15.b sz a) (lanesPut s.cp15.b sz a v) (cd && s.cp15.c && s.cp15.p)
        (bd && s.cp15.p) join s
      split
      · trivial
      · rename_i s' he; rw [he] at this; exact KeptCore.trans this (watchData_kept _ _ _ _ _ s')
      · rename_i w s' he; rw [he] at this; exact KeptCore.trans this (watchData_kept _ _ _ _ _ s')

theorem store_fits (a : Word) (sz : Size) (v : Word) (privileged join : Bool) {s : State} (h : Fits s) :
    (store a sz v privileged join s).fits := by
  unfold store
  split
  · exact ⟨h.mem, h.addresses, h.slots⟩
  · split
    · trivial
    · exact watchData_fits _ _ _ _ _ h
    · rename_i cd bd _
      have := storeWord_fits a (laneMask s.cp15.b sz a) (lanesPut s.cp15.b sz a v) (cd && s.cp15.c && s.cp15.p)
        (bd && s.cp15.p) join h
      split
      · trivial
      · rename_i s' he; rw [he] at this; exact watchData_fits _ _ _ _ _ this
      · rename_i w s' he; rw [he] at this; exact watchData_fits _ _ _ _ _ this

/-! Swaps. -/

/-- What an access does from a state that kept the core, it does from the first state. -/
theorem Access.keeps_trans {α : Type} {s t : State} {a : Access α} (h : KeptCore s t) (ha : a.keeps t) :
    a.keeps s := by
  cases a with
  | done v u => exact KeptCore.trans h ha
  | abort u => exact KeptCore.trans h ha
  | fault f => trivial

theorem watchSwap_kept (a old v : Word) (sz : Size) (s : State) : KeptCore s (watchSwap a old v sz s) :=
  (watchData_kept _ _ _ _ _ s).trans (watchData_kept _ _ _ _ _ _)

theorem watchSwap_fits (a old v : Word) (sz : Size) {s : State} (h : Fits s) : Fits (watchSwap a old v sz s) :=
  watchData_fits _ _ _ _ _ (watchData_fits _ _ _ _ _ h)

theorem watchSwap_undebugged {s : State} (a old v : Word) (sz : Size) (h : s.undebugged = true) :
    watchSwap a old v sz s = s := by
  unfold watchSwap
  rw [watchData_undebugged a old sz false s.privileged h, watchData_undebugged a v sz true s.privileged h]

theorem swapWrite_kept (a : Word) (sz : Size) (old v : Word) (s : State) : (swapWrite a sz old v s).keeps s := by
  unfold swapWrite
  split
  · exact watchSwap_kept _ _ _ _ s
  · exact (KeptCore.memorySide s s.dcache s.wbuf _ 0).trans (watchSwap_kept _ _ _ _ _)

theorem swapWrite_fits (a : Word) (sz : Size) (old v : Word) {s : State} (h : Fits s) :
    (swapWrite a sz old v s).fits := by
  unfold swapWrite
  split
  · exact watchSwap_fits _ _ _ _ h
  · exact watchSwap_fits _ _ _ _ (s := { s with mem := _ }) ⟨memWrite_wf _ _ _ h.mem, h.addresses, h.slots⟩

theorem swapBus_kept (a : Word) (sz : Size) (v : Word) (s : State) : (swapBus a sz v s).keeps s := by
  unfold swapBus
  split
  · exact watchAborted_kept _ _ _ s
  · exact swapWrite_kept _ _ _ _ s

theorem swapBus_fits (a : Word) (sz : Size) (v : Word) {s : State} (h : Fits s) : (swapBus a sz v s).fits := by
  unfold swapBus
  split
  · exact watchAborted_fits _ _ _ h
  · exact swapWrite_fits _ _ _ _ h

theorem swapLine_kept (a : Word) (sz : Size) (v : Word) (idx : Fin 64) (s : State) :
    (swapLine a sz v idx s).keeps s := by
  have hw := swapWrite_kept a sz (lanesGet s.cp15.b sz a ((s.dcache.line (segOf a) idx).data[wordOf a])) v s
  unfold swapLine
  dsimp only
  split
  · rename_i he
    rw [he] at hw
    exact KeptCore.trans hw (storeHit_kept _ _ _ _ _ _)
  · exact hw

theorem swapLine_fits (a : Word) (sz : Size) (v : Word) (idx : Fin 64) {s : State} (h : Fits s) :
    (swapLine a sz v idx s).fits := by
  have hw := swapWrite_fits a sz (lanesGet s.cp15.b sz a ((s.dcache.line (segOf a) idx).data[wordOf a])) v h
  unfold swapLine
  dsimp only
  split
  · rename_i he
    rw [he] at hw
    exact storeHit_fits _ _ _ _ _ hw
  · exact hw

theorem swapExternal_kept (a : Word) (sz : Size) (v : Word) (s : State) : (swapExternal a sz v s).keeps s := by
  have hd := drainWriteBuffer_kept s
  have h1 := hd.trans (KeptCore.memorySide (drainWriteBuffer s) (drainWriteBuffer s).dcache (drainWriteBuffer s).wbuf
    (drainWriteBuffer s).mem 1)
  unfold swapExternal
  dsimp only
  split
  · trivial
  · split
    · exact Access.keeps_trans h1 (swapLine_kept _ _ _ _ _)
    · exact Access.keeps_trans h1 (swapBus_kept _ _ _ _)
  · exact Access.keeps_trans hd (swapBus_kept _ _ _ _)

theorem swapExternal_fits (a : Word) (sz : Size) (v : Word) {s : State} (h : Fits s) :
    (swapExternal a sz v s).fits := by
  have hd := drainWriteBuffer_fits h
  unfold swapExternal
  dsimp only
  split
  · trivial
  · split
    · exact swapLine_fits _ _ _ _ ⟨hd.mem, hd.addresses, hd.slots⟩
    · exact swapBus_fits _ _ _ ⟨hd.mem, hd.addresses, hd.slots⟩
  · exact swapBus_fits _ _ _ hd

theorem swapCached_kept (a : Word) (sz : Size) (v : Word) (s : State) : (swapCached a sz v s).keeps s := by
  have hl := load_kept a sz s.privileged s
  unfold swapCached
  cases he : load a sz s.privileged s with
  | done old s' =>
    rw [he] at hl
    have hs := store_kept a sz v s.privileged false s'
    cases hx : store a sz v s.privileged false s' with
    | done u t => rw [hx] at hs; simp only [hx]; exact KeptCore.trans hl hs
    | abort t => rw [hx] at hs; simp only [hx]; exact KeptCore.trans hl hs
    | fault e => simp only [hx]; trivial
  | abort s' => rw [he] at hl; exact hl
  | fault e => trivial

theorem swapCached_fits (a : Word) (sz : Size) (v : Word) {s : State} (h : Fits s) : (swapCached a sz v s).fits := by
  have hl := load_fits a sz s.privileged h
  unfold swapCached
  cases he : load a sz s.privileged s with
  | done old s' =>
    rw [he] at hl
    have hs := store_fits a sz v s.privileged false hl
    cases hx : store a sz v s.privileged false s' with
    | done u t => rw [hx] at hs; simp only [hx]; exact hs
    | abort t => rw [hx] at hs; simp only [hx]; exact hs
    | fault e => simp only [hx]; trivial
  | abort s' => rw [he] at hl; exact hl
  | fault e => trivial

/-- A swap leaves the core as it was, whatever its outcome. -/
theorem swapAccess_kept (a : Word) (sz : Size) (v : Word) (s : State) : (swapAccess a sz v s).keeps s := by
  unfold swapAccess
  split
  · rename_i h
    have ha : s.dbg.active = true := by simp only [State.debugSpeed, Bool.and_eq_true] at h; exact h.1
    exact KeptCore.trans (debugLoad_kept a sz s ha) (debugStore_kept v _ ha)
  · split
    · trivial
    · trivial
    · exact watchAborted_kept _ _ _ s
    · exact watchData_kept _ _ _ _ _ s
    · split
      · exact swapCached_kept a sz v s
      · exact swapExternal_kept a sz v s

theorem swapAccess_fits (a : Word) (sz : Size) (v : Word) {s : State} (h : Fits s) : (swapAccess a sz v s).fits := by
  unfold swapAccess
  split
  · exact ⟨h.mem, h.addresses, h.slots⟩
  · split
    · trivial
    · trivial
    · exact watchAborted_fits _ _ _ h
    · exact watchData_fits _ _ _ _ _ h
    · split
      · exact swapCached_fits a sz v h
      · exact swapExternal_fits a sz v h

/-! The write buffer between instructions. -/

theorem backgroundDrain_kept (s : State) : KeptCore s (backgroundDrain s) := by
  unfold backgroundDrain
  split
  · exact KeptCore.refl s
  · exact (KeptCore.memorySide s s.dcache s.wbuf s.mem 1).trans (drainSome_kept _ _)

theorem backgroundDrain_fits {s : State} (h : Fits s) : Fits (backgroundDrain s) := by
  unfold backgroundDrain
  split
  · exact h
  · exact drainSome_fits _ (s := { s with draws := s.draws + 1 }) ⟨h.mem, h.addresses, h.slots⟩

/-- An empty buffer has nothing that could leave it. -/
theorem backgroundDrain_empty {s : State} (h : s.wbuf = []) : backgroundDrain s = s := by
  unfold backgroundDrain
  rw [if_pos h]

/-- What `wbPut` does: the word joins the entry of the word before it, which has stayed the newest, or takes a
new entry. -/
theorem wbPut_cases (a : Word) (lanes : BitVec 4) (v : Word) (join : Bool) (s : State) :
    (∃ e, join = true ∧ newestStays s.wbuf.length s = true ∧
      (makeRoom 1 false s.wbuf.length s).wbuf.getLast? = some e ∧ wbJoins e a = true ∧
      wbPut a lanes v join s =
        { makeRoom 1 false s.wbuf.length s with
          wbuf := (makeRoom 1 false s.wbuf.length s).wbuf.dropLast ++ [{ e with data := e.data ++ [v] }] }) ∨
    wbPut a lanes v join s = wbNew { addr := a, lanes := lanes, data := [v] } s := by
  unfold wbPut
  dsimp only
  split
  · rename_i e hj he
    simp only [Bool.and_eq_true] at hj
    split
    · rename_i hw; exact .inl ⟨e, hj.1, hj.2, he, hw, rfl⟩
    · exact .inr rfl
  · exact .inr rfl

/-! Block transfers. -/

/-- The words of a block store leave the core as it was. -/
theorem storeMany_kept (vs : List Word) (a : Word) (join : Bool) (s : State) :
    (storeMany vs a join s).keeps s := by
  induction vs generalizing a join s with
  | nil => exact KeptCore.refl s
  | cons v rest ih =>
    have hs := store_kept (wordAddr a) .word v s.privileged join s
    unfold storeMany
    cases hx : store (wordAddr a) .word v s.privileged join s with
    | done u t =>
      rw [hx] at hs
      have hi := ih (a + 4#32) true t
      simp only
      cases hr : storeMany rest (a + 4#32) true t with
      | done u' t' => rw [hr] at hi; exact KeptCore.trans hs hi
      | abort t' => rw [hr] at hi; exact KeptCore.trans hs hi
      | fault e => trivial
    | abort t => rw [hx] at hs; exact hs
    | fault e => trivial

theorem storeMany_fits (vs : List Word) (a : Word) (join : Bool) {s : State} (h : Fits s) :
    (storeMany vs a join s).fits := by
  induction vs generalizing a join s with
  | nil => exact h
  | cons v rest ih =>
    have hs := store_fits (wordAddr a) .word v s.privileged join h
    unfold storeMany
    cases hx : store (wordAddr a) .word v s.privileged join s with
    | done u t => rw [hx] at hs; exact ih _ _ hs
    | abort t => rw [hx] at hs; exact hs
    | fault e => trivial

/-- The words of a block load keep memory in form and the buffer within its size. -/
theorem loadMany_fits (m : BitVec 5) (hold : BitVec 4 → Bool) (is : List (BitVec 4)) (a : Word) (hd : Held)
    {s : State} (h : Fits s) : (loadMany m hold is a hd s).fits := by
  induction is generalizing a hd s with
  | nil => exact h
  | cons i rest ih =>
    have hl := load_fits (wordAddr a) .word s.privileged h
    unfold loadMany
    cases hx : load (wordAddr a) .word s.privileged s with
    | done v t =>
      rw [hx] at hl
      simp only
      split
      · exact ih _ _ hl
      · split
        · exact ih _ _ hl
        · exact ih _ _ (s := t.bankSet m i v) ⟨hl.mem, hl.addresses, hl.slots⟩
    | abort t => rw [hx] at hl; exact hl
    | fault e => trivial

/-! Accesses of a machine at rest. -/

/-- With everything off, a load is one external read. -/
theorem load_direct {s : State} (a : Word) (sz : Size) (privileged : Bool) (h : s.direct = true) :
    load a sz privileged s = .done (lanesGet s.cp15.b sz a (memWord s.mem a)) s := by
  simp only [State.direct, Bool.and_eq_true, Bool.not_eq_true', decide_eq_true_eq] at h
  obtain ⟨⟨⟨⟨⟨hu, hp⟩, hi⟩, hc⟩, hw⟩, he⟩ := h
  have ha : s.dbg.active = false := by
    simp only [State.undebugged, Bool.and_eq_true, Bool.not_eq_true'] at hu; exact hu.1
  simp only [load, State.debugSpeed, ha, Bool.false_and, Bool.false_eq_true, ↓reduceIte, checkAccess, hp, hc,
    Bool.not_false, loadWord, Bool.and_false, drainWriteBuffer_empty hw, extAbort, he, List.any_nil]
  rw [watchData_undebugged _ _ _ _ _ hu]

/-- With everything off, a store is one external write. -/
theorem store_direct {s : State} (a : Word) (sz : Size) (v : Word) (privileged join : Bool) (h : s.direct = true) :
    store a sz v privileged join s =
      .done () { s with mem := memWrite s.mem a (laneMask s.cp15.b sz a) (lanesPut s.cp15.b sz a v) } := by
  simp only [State.direct, Bool.and_eq_true, Bool.not_eq_true', decide_eq_true_eq] at h
  obtain ⟨⟨⟨⟨⟨hu, hp⟩, hi⟩, hc⟩, hw⟩, he⟩ := h
  have ha : s.dbg.active = false := by
    simp only [State.undebugged, Bool.and_eq_true, Bool.not_eq_true'] at hu; exact hu.1
  simp only [store, State.debugSpeed, ha, Bool.false_and, Bool.false_eq_true, ↓reduceIte, checkAccess, hp, hc,
    Bool.not_false, storeWord, Bool.and_false, Bool.or_self, storeExternal, drainWriteBuffer_empty hw, extAbort,
    he, List.any_nil]
  rw [watchData_undebugged]
  exact hu

/-- With everything off, a swap is one external read and one external write. -/
theorem swapAccess_direct {s : State} (a : Word) (sz : Size) (v : Word) (h : s.direct = true) :
    swapAccess a sz v s =
      .done (lanesGet s.cp15.b sz a (memWord s.mem a))
        { s with mem := memWrite s.mem a (laneMask s.cp15.b sz a) (lanesPut s.cp15.b sz a v) } := by
  simp only [State.direct, Bool.and_eq_true, Bool.not_eq_true', decide_eq_true_eq] at h
  obtain ⟨⟨⟨⟨⟨hu, hp⟩, hi⟩, hc⟩, hw⟩, he⟩ := h
  have ha : s.dbg.active = false := by
    simp only [State.undebugged, Bool.and_eq_true, Bool.not_eq_true'] at hu; exact hu.1
  simp only [swapAccess, State.debugSpeed, ha, Bool.false_and, Bool.false_eq_true, ↓reduceIte, checkAccess, hp,
    hc, Bool.not_false, Bool.and_false, swapExternal, swapBus, swapWrite, drainWriteBuffer_empty hw, extAbort,
    he, List.any_nil]
  rw [watchSwap_undebugged]
  exact hu

/-- A state stays at rest when only its registers, status and memory change. -/
theorem direct_congr {s t : State} (hp : t.pins = s.pins) (hd : t.dbg = s.dbg) (hc : t.cp15 = s.cp15)
    (hw : t.wbuf = s.wbuf) (hb : t.busErrors = s.busErrors) : t.direct = s.direct := by
  unfold State.direct State.undebugged
  rw [hp, hd, hc, hw, hb]

end Sys2Proof.Machine
end

