-- ==== Sys2Proof/Laws/Exceptions.lean ====
section
/-!
SUPPORT. What taking an exception, the handshake with a coprocessor, an instruction fetch and the entry to
debug state can do, said once.
-/

namespace Sys2Proof.Machine

/-! The entry of an exception, field by field. -/

@[simp] theorem exceptionEntry_cp15 (e : Exc) (s : State) : (exceptionEntry e s).cp15 = s.cp15 := by
  simp [exceptionEntry]
@[simp] theorem exceptionEntry_dcc (e : Exc) (s : State) : (exceptionEntry e s).dcc = s.dcc := by
  simp [exceptionEntry]
@[simp] theorem exceptionEntry_icache (e : Exc) (s : State) : (exceptionEntry e s).icache = s.icache := by
  simp [exceptionEntry]
@[simp] theorem exceptionEntry_dcache (e : Exc) (s : State) : (exceptionEntry e s).dcache = s.dcache := by
  simp [exceptionEntry]
@[simp] theorem exceptionEntry_wbuf (e : Exc) (s : State) : (exceptionEntry e s).wbuf = s.wbuf := by
  simp [exceptionEntry]
@[simp] theorem exceptionEntry_waiting (e : Exc) (s : State) : (exceptionEntry e s).waiting = s.waiting := by
  simp [exceptionEntry]
@[simp] theorem exceptionEntry_busy (e : Exc) (s : State) : (exceptionEntry e s).busy = s.busy := by
  simp [exceptionEntry]
@[simp] theorem exceptionEntry_resetHeld (e : Exc) (s : State) : (exceptionEntry e s).resetHeld = s.resetHeld := by
  simp [exceptionEntry]
@[simp] theorem exceptionEntry_instrExec (e : Exc) (s : State) : (exceptionEntry e s).instrExec = s.instrExec := by
  simp [exceptionEntry]
@[simp] theorem exceptionEntry_pins (e : Exc) (s : State) : (exceptionEntry e s).pins = s.pins := by
  simp [exceptionEntry]
@[simp] theorem exceptionEntry_ice (e : Exc) (s : State) : (exceptionEntry e s).ice = s.ice := by
  simp [exceptionEntry]
@[simp] theorem exceptionEntry_tap (e : Exc) (s : State) : (exceptionEntry e s).tap = s.tap := by
  simp [exceptionEntry]
@[simp] theorem exceptionEntry_dbg (e : Exc) (s : State) : (exceptionEntry e s).dbg = s.dbg := by
  simp [exceptionEntry]
@[simp] theorem exceptionEntry_attached (e : Exc) (s : State) : (exceptionEntry e s).attached = s.attached := by
  simp [exceptionEntry]
@[simp] theorem exceptionEntry_cpState (e : Exc) (s : State) : (exceptionEntry e s).cpState = s.cpState := by
  simp [exceptionEntry]
@[simp] theorem exceptionEntry_cpAnswers (e : Exc) (s : State) : (exceptionEntry e s).cpAnswers = s.cpAnswers := by
  simp [exceptionEntry]
@[simp] theorem exceptionEntry_mem (e : Exc) (s : State) : (exceptionEntry e s).mem = s.mem := by
  simp [exceptionEntry]
@[simp] theorem exceptionEntry_busErrors (e : Exc) (s : State) : (exceptionEntry e s).busErrors = s.busErrors := by
  simp [exceptionEntry]
@[simp] theorem exceptionEntry_wbFifo (e : Exc) (s : State) : (exceptionEntry e s).wbFifo = s.wbFifo := by
  simp [exceptionEntry]
@[simp] theorem exceptionEntry_wbRawCoherent (e : Exc) (s : State) : (exceptionEntry e s).wbRawCoherent = s.wbRawCoherent := by
  simp [exceptionEntry]
@[simp] theorem exceptionEntry_inputs (e : Exc) (s : State) : (exceptionEntry e s).inputs = s.inputs := by
  simp [exceptionEntry]
@[simp] theorem exceptionEntry_draws (e : Exc) (s : State) : (exceptionEntry e s).draws = s.draws := by
  simp [exceptionEntry]
@[simp] theorem exceptionEntry_pc (e : Exc) (s : State) : (exceptionEntry e s).pc = s.cp15.vectorBase + e.offset := rfl
@[simp] theorem exceptionEntry_cpsr (e : Exc) (s : State) : (exceptionEntry e s).cpsr = entryStatus s.cpsr e := rfl

/-- The mode after an exception. -/
@[simp] theorem exceptionEntry_mode (e : Exc) (s : State) : (exceptionEntry e s).mode = e.mode := by
  unfold State.mode
  rw [exceptionEntry_cpsr, entryStatus]
  exact BitVec.extractLsb'_append_eq_right

/-- An exception is entered in ARM state. -/
@[simp] theorem exceptionEntry_thumb (e : Exc) (s : State) : (exceptionEntry e s).thumb = false := by
  unfold State.thumb
  rw [exceptionEntry_cpsr, entryStatus]
  rw [BitVec.getLsbD_append, if_neg (by decide), BitVec.getLsbD_append, if_pos (by decide)]
  decide

/-- Every mode that an exception enters is legal and has an SPSR. -/
theorem Exc.mode_legal (e : Exc) : modeLegal e.mode = true ∧ modeHasSpsr e.mode = true := by
  cases e <;> decide

/-- What may follow the entry: nothing; the entry to debug state; or, in debug state, a free link value and
a free pc. -/
theorem catchEntry_cases (e : Exc) (s : State) :
    catchEntry e s = s ∨
    (s.dbg.active = true ∧
      catchEntry e s =
        { s.bankSet e.mode 14#4 s.draw.1 with
          pc := wordAddr (Config.freeWord (s.draws + 1)), draws := s.draws + 2 }) ∨
    (s.dbg.active = false ∧ s.pins.dbgen = true ∧ ∃ watch both, catchEntry e s = enterDebug watch both s) := by
  unfold catchEntry
  cases ha : s.dbg.active
  · rw [if_neg (by decide)]
    split
    · rename_i h
      simp only [State.watching, Bool.and_eq_true] at h
      exact .inr (.inr ⟨rfl, h.1.1, _, _, rfl⟩)
    · exact .inl rfl
  · exact .inr (.inl ⟨rfl, if_pos rfl⟩)

/-! The entry to debug state, field by field. -/

@[simp] theorem enterDebug_regs (w b : Bool) (s : State) : (enterDebug w b s).regs = s.regs := rfl
@[simp] theorem enterDebug_cpsr (w b : Bool) (s : State) : (enterDebug w b s).cpsr = s.cpsr := rfl
@[simp] theorem enterDebug_spsrFiq (w b : Bool) (s : State) : (enterDebug w b s).spsrFiq = s.spsrFiq := rfl
@[simp] theorem enterDebug_spsrIrq (w b : Bool) (s : State) : (enterDebug w b s).spsrIrq = s.spsrIrq := rfl
@[simp] theorem enterDebug_spsrSvc (w b : Bool) (s : State) : (enterDebug w b s).spsrSvc = s.spsrSvc := rfl
@[simp] theorem enterDebug_spsrAbt (w b : Bool) (s : State) : (enterDebug w b s).spsrAbt = s.spsrAbt := rfl
@[simp] theorem enterDebug_spsrUnd (w b : Bool) (s : State) : (enterDebug w b s).spsrUnd = s.spsrUnd := rfl
@[simp] theorem enterDebug_cp15 (w b : Bool) (s : State) : (enterDebug w b s).cp15 = s.cp15 := rfl
@[simp] theorem enterDebug_dcc (w b : Bool) (s : State) : (enterDebug w b s).dcc = s.dcc := rfl
@[simp] theorem enterDebug_icache (w b : Bool) (s : State) : (enterDebug w b s).icache = s.icache := rfl
@[simp] theorem enterDebug_dcache (w b : Bool) (s : State) : (enterDebug w b s).dcache = s.dcache := rfl
@[simp] theorem enterDebug_wbuf (w b : Bool) (s : State) : (enterDebug w b s).wbuf = s.wbuf := rfl
@[simp] theorem enterDebug_busy (w b : Bool) (s : State) : (enterDebug w b s).busy = s.busy := rfl
@[simp] theorem enterDebug_resetHeld (w b : Bool) (s : State) : (enterDebug w b s).resetHeld = s.resetHeld := rfl
@[simp] theorem enterDebug_instrExec (w b : Bool) (s : State) : (enterDebug w b s).instrExec = s.instrExec := rfl
@[simp] theorem enterDebug_pins (w b : Bool) (s : State) : (enterDebug w b s).pins = s.pins := rfl
@[simp] theorem enterDebug_ice (w b : Bool) (s : State) : (enterDebug w b s).ice = s.ice := rfl
@[simp] theorem enterDebug_attached (w b : Bool) (s : State) : (enterDebug w b s).attached = s.attached := rfl
@[simp] theorem enterDebug_cpState (w b : Bool) (s : State) : (enterDebug w b s).cpState = s.cpState := rfl
@[simp] theorem enterDebug_cpAnswers (w b : Bool) (s : State) : (enterDebug w b s).cpAnswers = s.cpAnswers := rfl
@[simp] theorem enterDebug_mem (w b : Bool) (s : State) : (enterDebug w b s).mem = s.mem := rfl
@[simp] theorem enterDebug_busErrors (w b : Bool) (s : State) : (enterDebug w b s).busErrors = s.busErrors := rfl
@[simp] theorem enterDebug_wbFifo (w b : Bool) (s : State) : (enterDebug w b s).wbFifo = s.wbFifo := rfl
@[simp] theorem enterDebug_wbRawCoherent (w b : Bool) (s : State) : (enterDebug w b s).wbRawCoherent = s.wbRawCoherent := rfl
@[simp] theorem enterDebug_inputs (w b : Bool) (s : State) : (enterDebug w b s).inputs = s.inputs := rfl
@[simp] theorem enterDebug_draws (w b : Bool) (s : State) : (enterDebug w b s).draws = s.draws := rfl

/-! Going on with a debugger's help, coprocessors, fetches. -/

/-- The handshake: no coprocessor or ABSENT is the Undefined Instruction exception, WAIT leaves the instruction
to be offered again, and an accepted instruction runs. -/
theorem offer_next {cp : BitVec 4} {w : Word} {s t : State} {k : Nat → State → Result}
    (h : offer cp w s k = .next t) :
    (s.hasCp cp = false ∧ t = takeException .undefined s) ∨
    (s.hasCp cp = true ∧ s.cpAnswer cp w = .absent ∧ t = takeException .undefined s.offered) ∨
    (s.hasCp cp = true ∧ s.cpAnswer cp w = .wait ∧ t = { s.offered with busy := some w }) ∨
    (s.hasCp cp = true ∧ ∃ n, s.cpAnswer cp w = .accept n ∧ k (cpWords n) s.offered = .next t) := by
  unfold offer at h
  cases hc : s.hasCp cp
  · rw [hc] at h
    cases h
    exact .inl ⟨rfl, rfl⟩
  · rw [hc, if_pos rfl] at h
    cases ha : s.cpAnswer cp w with
    | wait => rw [ha] at h; cases h; exact .inr (.inr (.inl ⟨rfl, rfl, rfl⟩))
    | absent => rw [ha] at h; cases h; exact .inr (.inl ⟨rfl, rfl, rfl⟩)
    | accept n => rw [ha] at h; exact .inr (.inr (.inr ⟨rfl, n, rfl, h⟩))

/-- Between one and sixteen words are transferred. -/
theorem cpWords_bounds (n : Nat) : 1 ≤ cpWords n ∧ cpWords n ≤ 16 := by
  unfold cpWords
  omega

/-- A fetch changes the ICache and the counter of free values only, and an aborted one nothing. -/
theorem fetch_cases (s : State) :
    (∃ w c n, fetch s = .done w { s with icache := c, draws := s.draws + n }) ∨ fetch s = .abort s ∨
    ∃ f, fetch s = .fault f := by
  have key : ∀ g, (∃ w c n, fetchWord s.pc g s = .done w { s with icache := c, draws := s.draws + n }) ∨
      fetchWord s.pc g s = .abort s ∨ ∃ f, fetchWord s.pc g s = .fault f := by
    intro g
    unfold fetchWord
    split
    · exact .inr (.inr ⟨_, rfl⟩)
    · exact .inl ⟨_, s.icache, 0, rfl⟩
    · split
      · exact .inl ⟨_, _, 1, rfl⟩
      · split
        · exact .inr (.inl rfl)
        · exact .inl ⟨_, s.icache, 0, rfl⟩
  unfold fetch
  split
  · exact .inr (.inr ⟨_, rfl⟩)
  · exact .inr (.inl rfl)
  · rename_i ci bd _
    rcases key (ci && s.cp15.i && s.cp15.p) with ⟨w, c, n, h⟩ | h | ⟨f, h⟩
    · exact .inl ⟨_, c, n, by rw [h]⟩
    · exact .inr (.inl (by rw [h]))
    · exact .inr (.inr ⟨f, by rw [h]⟩)

/-- The state of a fetch where no fetch is masked. -/
theorem beforeFetch_quiet {s : State} (hm : s.dbg.ackFetches = 0) : s.beforeFetch = { s with instrExec := false } := by
  unfold State.beforeFetch
  rw [show s.dbg.ackFetches - 1 = s.dbg.ackFetches by omega]

theorem beforeFetch_fits {s : State} (h : Fits s) : Fits s.beforeFetch := ⟨h.mem, h.addresses, h.slots⟩

theorem beforeClock_fits {s : State} (h : Fits s) : Fits s.beforeClock := ⟨h.mem, h.addresses, h.slots⟩

/-- Between two inputs only the write buffer goes on: nothing happens, or some entries leave it. -/
theorem betweenInputs_cases (s : State) : s.betweenInputs = s ∨ s.betweenInputs = backgroundDrain s := by
  unfold State.betweenInputs
  split
  · exact .inl rfl
  · exact .inr rfl

theorem betweenInputs_fits {s : State} (h : Fits s) : Fits s.betweenInputs := by
  rcases betweenInputs_cases s with e | e <;> rw [e]
  · exact h
  · exact backgroundDrain_fits h

/-- What `debugRun` answers where it goes on: the instruction's next state, the instruction behind it clocked in
or flushed, and the first word of a store on the DD cells. -/
theorem debugRun_next {i : Instr} {ins : List Word} {w : Word} {s t : State} (h : debugRun i ins w s = .next t) :
    debugClass i ≠ .barred ∧
    ∃ u, exec i { s with dbg := { s.dbg with dataIn := ins } } = .next u ∧
      t = exportWord { u with dbg := clockedIn (branched s u) w u.dbg } := by
  unfold debugRun at h
  split at h
  · cases h
  · rename_i hb
    refine ⟨hb, ?_⟩
    cases hx : exec i { s with dbg := { s.dbg with dataIn := ins } } with
    | next u => rw [hx] at h; cases h; exact ⟨u, rfl, rfl⟩
    | fault e => rw [hx] at h; cases h
    | refused e => rw [hx] at h; cases h

/-- Where the debug logic is off only INSTREXEC follows an instruction: LOW while a coprocessor answers WAIT. -/
theorem afterInstruction_undebugged {s : State} (h : s.pins.dbgen = false) :
    afterInstruction s = if s.busy.isSome then { s with instrExec := false } else s := by
  simp [afterInstruction, State.watching, h]

/-- What the core takes from the instruction data cells: the word in ARM state, one of its halves, twice, in Thumb
state; nothing but the count of free values changes. -/
theorem clockIn_cases (s : State) :
    (∃ d, s.clockIn.2 = { s with draws := d }) ∧
    (s.thumb = false → s.clockIn = (s.tap.instr, s)) ∧
    (s.thumb = true →
      s.clockIn.1 = s.tap.instr.extractLsb' 0 16 ++ s.tap.instr.extractLsb' 0 16 ∨
      s.clockIn.1 = s.tap.instr.extractLsb' 16 16 ++ s.tap.instr.extractLsb' 16 16) := by
  cases ht : s.thumb
  · simp only [State.clockIn, ht, Bool.false_and, Bool.false_eq_true, ↓reduceIte]
    exact ⟨⟨s.draws, rfl⟩, by simp, by simp⟩
  · by_cases he : s.tap.instr.extractLsb' 0 16 = s.tap.instr.extractLsb' 16 16
    · have hw : s.tap.instr.extractLsb' 16 16 ++ s.tap.instr.extractLsb' 0 16 = s.tap.instr := by
        ext k hk
        simp only [BitVec.getElem_append, BitVec.getElem_extractLsb']
        split
        · rw [Nat.zero_add, BitVec.getLsbD_eq_getElem]
        · rw [Nat.add_sub_cancel' (by omega), BitVec.getLsbD_eq_getElem]
      have h : s.clockIn = (s.tap.instr, s) := by simp [State.clockIn, he]
      rw [h]
      exact ⟨⟨s.draws, rfl⟩, by simp, fun _ => .inl (hw.symm.trans (by rw [he]))⟩
    · have h : s.clockIn =
          ((if s.draw.1.getLsbD 0 then s.tap.instr.extractLsb' 16 16 else s.tap.instr.extractLsb' 0 16) ++
            (if s.draw.1.getLsbD 0 then s.tap.instr.extractLsb' 16 16 else s.tap.instr.extractLsb' 0 16),
            s.draw.2) := by
        simp [State.clockIn, ht, he]
      rw [h]
      refine ⟨⟨s.draws + 1, rfl⟩, by simp, fun _ => ?_⟩
      cases s.draw.1.getLsbD 0
      · exact .inl rfl
      · exact .inr rfl

end Sys2Proof.Machine
end

