-- ==== Sys2Proof/Laws/Fields.lean ====
section
/-!
SUPPORT. The fields and the bits of a code word that is built by appending its parts: each is found in the
part that holds it.  `encode` writes words in this form, so these lemmas read them back.
-/

namespace Sys2Proof.Laws

/-- A field above the last part. -/
theorem fld_append_high {n m lo k : Nat} (x : BitVec n) (y : BitVec m) (h : m ≤ lo) :
    fld (BitVec.append x y) lo k = fld x (lo - m) k := by
  ext i hi
  simp only [fld, BitVec.getElem_extractLsb', BitVec.append_eq, BitVec.getLsbD_append]
  rw [if_neg (by omega)]
  congr 1
  omega

/-- A field inside the last part. -/
theorem fld_append_low {n m lo k : Nat} (x : BitVec n) (y : BitVec m) (h : lo + k ≤ m) :
    fld (BitVec.append x y) lo k = fld y lo k := by
  ext i hi
  simp only [fld, BitVec.getElem_extractLsb', BitVec.append_eq, BitVec.getLsbD_append]
  rw [if_pos (by omega)]

/-- A whole part. -/
theorem fld_whole {n : Nat} (x : BitVec n) : fld x 0 n = x := by
  simp [fld]

/-- A bit above the last part. -/
theorem bitAt_append_high {n m i : Nat} (x : BitVec n) (y : BitVec m) (h : m ≤ i) :
    bitAt (BitVec.append x y) i = bitAt x (i - m) := by
  simp only [bitAt, BitVec.append_eq, BitVec.getLsbD_append]
  rw [if_neg (by omega)]

/-- A bit inside the last part. -/
theorem bitAt_append_low {n m i : Nat} (x : BitVec n) (y : BitVec m) (h : i < m) :
    bitAt (BitVec.append x y) i = bitAt y i := by
  simp only [bitAt, BitVec.append_eq, BitVec.getLsbD_append]
  rw [if_pos h]

/-- A bit of a constant part. -/
theorem bitAt_ofNat (n v i : Nat) : bitAt (BitVec.ofNat n v) i = (BitVec.ofNat n v).getLsbD i := rfl

/-- The fields of the word of a coprocessor register transfer (R206, R219), where the operation and the
numbers are constants `a` and `b` around `cond` and `rd`. -/
theorem transfer_fields (cond rd : BitVec 4) (a b : BitVec 12) :
    fld (cond ++ a ++ rd ++ b) 28 4 = cond ∧ fld (cond ++ a ++ rd ++ b) 12 4 = rd ∧
    fld (cond ++ a ++ rd ++ b) 16 4 = fld a 0 4 ∧ fld (cond ++ a ++ rd ++ b) 21 3 = fld a 5 3 ∧
    fld (cond ++ a ++ rd ++ b) 8 4 = fld b 8 4 ∧ fld (cond ++ a ++ rd ++ b) 5 3 = fld b 5 3 ∧
    fld (cond ++ a ++ rd ++ b) 0 4 = fld b 0 4 := by
  simp only [HAppend.hAppend]
  simp (decide := true) only [fld_append_high, fld_append_low, fld_whole, Nat.reduceSub, and_self]

/-- The decoding of a coprocessor register transfer: generic, or the rows of CP15 and CP14 (R202, R206). -/
theorem transfer_decode (cond rd : BitVec 4) (a b : BitVec 12) (h : cond ≠ 15#4) (ha : fld a 8 4 = 0b1110#4)
    (hb : bitAt b 4 = true) :
    decodeArm (cond ++ a ++ rd ++ b) =
      if bitAt a 4 then
        if mrcGeneric (fld a 5 3) (fld a 0 4) (fld b 8 4) (fld b 5 3) (fld b 0 4) then
          .mrc cond (fld a 5 3) (fld a 0 4) rd (fld b 8 4) (fld b 5 3) (fld b 0 4)
        else if bitAt b 8 then decodeMrc15 (cond ++ a ++ rd ++ b) else decodeMrc14 (cond ++ a ++ rd ++ b)
      else
        if mcrGeneric (fld a 5 3) (fld a 0 4) (fld b 8 4) (fld b 5 3) (fld b 0 4) then
          .mcr cond (fld a 5 3) (fld a 0 4) rd (fld b 8 4) (fld b 5 3) (fld b 0 4)
        else if bitAt b 8 then decodeMcr15 (cond ++ a ++ rd ++ b) else decodeMcr14 (cond ++ a ++ rd ++ b) := by
  obtain ⟨h28, h12, h16, h21, h8, h5, h0⟩ := transfer_fields cond rd a b
  have bits : ∀ i, i < 4 → bitAt a (8 + i) = bitAt (fld a 8 4) i := by
    intro i hi
    simp [bitAt, fld, hi]
  have b11 := bits 3 (by decide)
  have b10 := bits 2 (by decide)
  have b9 := bits 1 (by decide)
  have b8 := bits 0 (by decide)
  rw [ha] at b11 b10 b9 b8
  have e : ∀ i, 16 ≤ i → i < 28 → bitAt (cond ++ a ++ rd ++ b) i = bitAt a (i - 16) := by
    intro i hi hi'
    simp only [bitAt, BitVec.getLsbD_append]
    rw [if_neg (by omega), if_neg (by omega), if_pos (by omega)]
    congr 1
  have f : ∀ i, i < 12 → bitAt (cond ++ a ++ rd ++ b) i = bitAt b i := by
    intro i hi
    simp only [bitAt, BitVec.getLsbD_append]
    rw [if_pos hi]
  unfold decodeArm decodeCoproc
  rw [h28, if_neg h, e 27 (by decide) (by decide), e 26 (by decide) (by decide), e 25 (by decide) (by decide),
    e 24 (by decide) (by decide), e 20 (by decide) (by decide), f 4 (by decide), f 8 (by decide), hb, h12, h16,
    h21, h8, h5, h0]
  rw [b11, b10, b9, b8]
  rfl
end Sys2Proof.Laws
end

