-- ==== Sys2Proof/Laws/PerInstr.lean ====
section
/-!
SUPPORT. The per-instruction family `RoundTrip`: the decoder reads back what the encoder writes, one lemma
per constructor of `Instr`.
-/

namespace Sys2Proof.Laws

set_option Elab.async false
set_option linter.unusedSimpArgs false
set_option linter.unreachableTactic false
set_option linter.unusedTactic false
set_option linter.unnecessarySeqFocus false

/-- On a well-formed instruction the decoder undoes the encoder (R201, R206, R220). -/
def RoundTrip.Statement (i : Instr) : Prop := i.wellFormed = true → decode (encode i) = i

theorem RoundTrip.condNever (rest : BitVec 28) :
    RoundTrip.Statement (.condNever rest) := by
  intro _
  show decodeArm (0b1111#4 ++ rest) = _
  unfold decodeArm
  simp only [HAppend.hAppend]
  simp (decide := true) only [Append.append, fld_append_high, fld_append_low, fld_whole, bitAt_append_high, bitAt_append_low, bitAt_ofNat, ↓reduceIte, Nat.reduceSub, BitVec.reduceGetLsb, Bool.and_false] <;> rfl

theorem RoundTrip.and (cond : BitVec 4) (s : BitVec 1) (rn : BitVec 4) (rd : BitVec 4) (op2 : Operand2) :
    RoundTrip.Statement (.and cond s rn rd op2) := by
  intro hw
  have h := bne_iff_ne.mp hw
  cases op2 with
  | imm rot imm8 =>
    show decodeArm (cond ++ 0b0010000#7 ++ s ++ rn ++ rd ++ rot ++ imm8) = _
    unfold decodeArm
    simp only [HAppend.hAppend]
    simp (decide := true) only [decodeDpImm, Append.append, fld_append_high, fld_append_low, fld_whole, bitAt_append_high, bitAt_append_low, bitAt_ofNat, ↓reduceIte, Nat.reduceSub, BitVec.reduceGetLsb, Bool.and_false, h] <;> rfl
  | immShift shiftImm ty rm =>
    show decodeArm (cond ++ 0b0000000#7 ++ s ++ rn ++ rd ++ shiftImm ++ ty ++ 0b0#1 ++ rm) = _
    unfold decodeArm
    simp only [HAppend.hAppend]
    simp (decide := true) only [decodeDpImmShift, Append.append, fld_append_high, fld_append_low, fld_whole, bitAt_append_high, bitAt_append_low, bitAt_ofNat, ↓reduceIte, Nat.reduceSub, BitVec.reduceGetLsb, Bool.and_false, h] <;> rfl
  | regShift rs ty rm =>
    show decodeArm (cond ++ 0b0000000#7 ++ s ++ rn ++ rd ++ rs ++ 0b0#1 ++ ty ++ 0b1#1 ++ rm) = _
    unfold decodeArm
    simp only [HAppend.hAppend]
    simp (decide := true) only [decodeDpRegShift, Append.append, fld_append_high, fld_append_low, fld_whole, bitAt_append_high, bitAt_append_low, bitAt_ofNat, ↓reduceIte, Nat.reduceSub, BitVec.reduceGetLsb, Bool.and_false, h] <;> rfl

theorem RoundTrip.eor (cond : BitVec 4) (s : BitVec 1) (rn : BitVec 4) (rd : BitVec 4) (op2 : Operand2) :
    RoundTrip.Statement (.eor cond s rn rd op2) := by
  intro hw
  have h := bne_iff_ne.mp hw
  cases op2 with
  | imm rot imm8 =>
    show decodeArm (cond ++ 0b0010001#7 ++ s ++ rn ++ rd ++ rot ++ imm8) = _
    unfold decodeArm
    simp only [HAppend.hAppend]
    simp (decide := true) only [decodeDpImm, Append.append, fld_append_high, fld_append_low, fld_whole, bitAt_append_high, bitAt_append_low, bitAt_ofNat, ↓reduceIte, Nat.reduceSub, BitVec.reduceGetLsb, Bool.and_false, h] <;> rfl
  | immShift shiftImm ty rm =>
    show decodeArm (cond ++ 0b0000001#7 ++ s ++ rn ++ rd ++ shiftImm ++ ty ++ 0b0#1 ++ rm) = _
    unfold decodeArm
    simp only [HAppend.hAppend]
    simp (decide := true) only [decodeDpImmShift, Append.append, fld_append_high, fld_append_low, fld_whole, bitAt_append_high, bitAt_append_low, bitAt_ofNat, ↓reduceIte, Nat.reduceSub, BitVec.reduceGetLsb, Bool.and_false, h] <;> rfl
  | regShift rs ty rm =>
    show decodeArm (cond ++ 0b0000001#7 ++ s ++ rn ++ rd ++ rs ++ 0b0#1 ++ ty ++ 0b1#1 ++ rm) = _
    unfold decodeArm
    simp only [HAppend.hAppend]
    simp (decide := true) only [decodeDpRegShift, Append.append, fld_append_high, fld_append_low, fld_whole, bitAt_append_high, bitAt_append_low, bitAt_ofNat, ↓reduceIte, Nat.reduceSub, BitVec.reduceGetLsb, Bool.and_false, h] <;> rfl

theorem RoundTrip.sub (cond : BitVec 4) (s : BitVec 1) (rn : BitVec 4) (rd : BitVec 4) (op2 : Operand2) :
    RoundTrip.Statement (.sub cond s rn rd op2) := by
  intro hw
  have h := bne_iff_ne.mp hw
  cases op2 with
  | imm rot imm8 =>
    show decodeArm (cond ++ 0b0010010#7 ++ s ++ rn ++ rd ++ rot ++ imm8) = _
    unfold decodeArm
    simp only [HAppend.hAppend]
    simp (decide := true) only [decodeDpImm, Append.append, fld_append_high, fld_append_low, fld_whole, bitAt_append_high, bitAt_append_low, bitAt_ofNat, ↓reduceIte, Nat.reduceSub, BitVec.reduceGetLsb, Bool.and_false, h] <;> rfl
  | immShift shiftImm ty rm =>
    show decodeArm (cond ++ 0b0000010#7 ++ s ++ rn ++ rd ++ shiftImm ++ ty ++ 0b0#1 ++ rm) = _
    unfold decodeArm
    simp only [HAppend.hAppend]
    simp (decide := true) only [decodeDpImmShift, Append.append, fld_append_high, fld_append_low, fld_whole, bitAt_append_high, bitAt_append_low, bitAt_ofNat, ↓reduceIte, Nat.reduceSub, BitVec.reduceGetLsb, Bool.and_false, h] <;> rfl
  | regShift rs ty rm =>
    show decodeArm (cond ++ 0b0000010#7 ++ s ++ rn ++ rd ++ rs ++ 0b0#1 ++ ty ++ 0b1#1 ++ rm) = _
    unfold decodeArm
    simp only [HAppend.hAppend]
    simp (decide := true) only [decodeDpRegShift, Append.append, fld_append_high, fld_append_low, fld_whole, bitAt_append_high, bitAt_append_low, bitAt_ofNat, ↓reduceIte, Nat.reduceSub, BitVec.reduceGetLsb, Bool.and_false, h] <;> rfl

theorem RoundTrip.rsb (cond : BitVec 4) (s : BitVec 1) (rn : BitVec 4) (rd : BitVec 4) (op2 : Operand2) :
    RoundTrip.Statement (.rsb cond s rn rd op2) := by
  intro hw
  have h := bne_iff_ne.mp hw
  cases op2 with
  | imm rot imm8 =>
    show decodeArm (cond ++ 0b0010011#7 ++ s ++ rn ++ rd ++ rot ++ imm8) = _
    unfold decodeArm
    simp only [HAppend.hAppend]
    simp (decide := true) only [decodeDpImm, Append.append, fld_append_high, fld_append_low, fld_whole, bitAt_append_high, bitAt_append_low, bitAt_ofNat, ↓reduceIte, Nat.reduceSub, BitVec.reduceGetLsb, Bool.and_false, h] <;> rfl
  | immShift shiftImm ty rm =>
    show decodeArm (cond ++ 0b0000011#7 ++ s ++ rn ++ rd ++ shiftImm ++ ty ++ 0b0#1 ++ rm) = _
    unfold decodeArm
    simp only [HAppend.hAppend]
    simp (decide := true) only [decodeDpImmShift, Append.append, fld_append_high, fld_append_low, fld_whole, bitAt_append_high, bitAt_append_low, bitAt_ofNat, ↓reduceIte, Nat.reduceSub, BitVec.reduceGetLsb, Bool.and_false, h] <;> rfl
  | regShift rs ty rm =>
    show decodeArm (cond ++ 0b0000011#7 ++ s ++ rn ++ rd ++ rs ++ 0b0#1 ++ ty ++ 0b1#1 ++ rm) = _
    unfold decodeArm
    simp only [HAppend.hAppend]
    simp (decide := true) only [decodeDpRegShift, Append.append, fld_append_high, fld_append_low, fld_whole, bitAt_append_high, bitAt_append_low, bitAt_ofNat, ↓reduceIte, Nat.reduceSub, BitVec.reduceGetLsb, Bool.and_false, h] <;> rfl

theorem RoundTrip.add (cond : BitVec 4) (s : BitVec 1) (rn : BitVec 4) (rd : BitVec 4) (op2 : Operand2) :
    RoundTrip.Statement (.add cond s rn rd op2) := by
  intro hw
  have h := bne_iff_ne.mp hw
  cases op2 with
  | imm rot imm8 =>
    show decodeArm (cond ++ 0b0010100#7 ++ s ++ rn ++ rd ++ rot ++ imm8) = _
    unfold decodeArm
    simp only [HAppend.hAppend]
    simp (decide := true) only [decodeDpImm, Append.append, fld_append_high, fld_append_low, fld_whole, bitAt_append_high, bitAt_append_low, bitAt_ofNat, ↓reduceIte, Nat.reduceSub, BitVec.reduceGetLsb, Bool.and_false, h] <;> rfl
  | immShift shiftImm ty rm =>
    show decodeArm (cond ++ 0b0000100#7 ++ s ++ rn ++ rd ++ shiftImm ++ ty ++ 0b0#1 ++ rm) = _
    unfold decodeArm
    simp only [HAppend.hAppend]
    simp (decide := true) only [decodeDpImmShift, Append.append, fld_append_high, fld_append_low, fld_whole, bitAt_append_high, bitAt_append_low, bitAt_ofNat, ↓reduceIte, Nat.reduceSub, BitVec.reduceGetLsb, Bool.and_false, h] <;> rfl
  | regShift rs ty rm =>
    show decodeArm (cond ++ 0b0000100#7 ++ s ++ rn ++ rd ++ rs ++ 0b0#1 ++ ty ++ 0b1#1 ++ rm) = _
    unfold decodeArm
    simp only [HAppend.hAppend]
    simp (decide := true) only [decodeDpRegShift, Append.append, fld_append_high, fld_append_low, fld_whole, bitAt_append_high, bitAt_append_low, bitAt_ofNat, ↓reduceIte, Nat.reduceSub, BitVec.reduceGetLsb, Bool.and_false, h] <;> rfl

theorem RoundTrip.adc (cond : BitVec 4) (s : BitVec 1) (rn : BitVec 4) (rd : BitVec 4) (op2 : Operand2) :
    RoundTrip.Statement (.adc cond s rn rd op2) := by
  intro hw
  have h := bne_iff_ne.mp hw
  cases op2 with
  | imm rot imm8 =>
    show decodeArm (cond ++ 0b0010101#7 ++ s ++ rn ++ rd ++ rot ++ imm8) = _
    unfold decodeArm
    simp only [HAppend.hAppend]
    simp (decide := true) only [decodeDpImm, Append.append, fld_append_high, fld_append_low, fld_whole, bitAt_append_high, bitAt_append_low, bitAt_ofNat, ↓reduceIte, Nat.reduceSub, BitVec.reduceGetLsb, Bool.and_false, h] <;> rfl
  | immShift shiftImm ty rm =>
    show decodeArm (cond ++ 0b0000101#7 ++ s ++ rn ++ rd ++ shiftImm ++ ty ++ 0b0#1 ++ rm) = _
    unfold decodeArm
    simp only [HAppend.hAppend]
    simp (decide := true) only [decodeDpImmShift, Append.append, fld_append_high, fld_append_low, fld_whole, bitAt_append_high, bitAt_append_low, bitAt_ofNat, ↓reduceIte, Nat.reduceSub, BitVec.reduceGetLsb, Bool.and_false, h] <;> rfl
  | regShift rs ty rm =>
    show decodeArm (cond ++ 0b0000101#7 ++ s ++ rn ++ rd ++ rs ++ 0b0#1 ++ ty ++ 0b1#1 ++ rm) = _
    unfold decodeArm
    simp only [HAppend.hAppend]
    simp (decide := true) only [decodeDpRegShift, Append.append, fld_append_high, fld_append_low, fld_whole, bitAt_append_high, bitAt_append_low, bitAt_ofNat, ↓reduceIte, Nat.reduceSub, BitVec.reduceGetLsb, Bool.and_false, h] <;> rfl

theorem RoundTrip.sbc (cond : BitVec 4) (s : BitVec 1) (rn : BitVec 4) (rd : BitVec 4) (op2 : Operand2) :
    RoundTrip.Statement (.sbc cond s rn rd op2) := by
  intro hw
  have h := bne_iff_ne.mp hw
  cases op2 with
  | imm rot imm8 =>
    show decodeArm (cond ++ 0b0010110#7 ++ s ++ rn ++ rd ++ rot ++ imm8) = _
    unfold decodeArm
    simp only [HAppend.hAppend]
    simp (decide := true) only [decodeDpImm, Append.append, fld_append_high, fld_append_low, fld_whole, bitAt_append_high, bitAt_append_low, bitAt_ofNat, ↓reduceIte, Nat.reduceSub, BitVec.reduceGetLsb, Bool.and_false, h] <;> rfl
  | immShift shiftImm ty rm =>
    show decodeArm (cond ++ 0b0000110#7 ++ s ++ rn ++ rd ++ shiftImm ++ ty ++ 0b0#1 ++ rm) = _
    unfold decodeArm
    simp only [HAppend.hAppend]
    simp (decide := true) only [decodeDpImmShift, Append.append, fld_append_high, fld_append_low, fld_whole, bitAt_append_high, bitAt_append_low, bitAt_ofNat, ↓reduceIte, Nat.reduceSub, BitVec.reduceGetLsb, Bool.and_false, h] <;> rfl
  | regShift rs ty rm =>
    show decodeArm (cond ++ 0b0000110#7 ++ s ++ rn ++ rd ++ rs ++ 0b0#1 ++ ty ++ 0b1#1 ++ rm) = _
    unfold decodeArm
    simp only [HAppend.hAppend]
    simp (decide := true) only [decodeDpRegShift, Append.append, fld_append_high, fld_append_low, fld_whole, bitAt_append_high, bitAt_append_low, bitAt_ofNat, ↓reduceIte, Nat.reduceSub, BitVec.reduceGetLsb, Bool.and_false, h] <;> rfl

theorem RoundTrip.rsc (cond : BitVec 4) (s : BitVec 1) (rn : BitVec 4) (rd : BitVec 4) (op2 : Operand2) :
    RoundTrip.Statement (.rsc cond s rn rd op2) := by
  intro hw
  have h := bne_iff_ne.mp hw
  cases op2 with
  | imm rot imm8 =>
    show decodeArm (cond ++ 0b0010111#7 ++ s ++ rn ++ rd ++ rot ++ imm8) = _
    unfold decodeArm
    simp only [HAppend.hAppend]
    simp (decide := true) only [decodeDpImm, Append.append, fld_append_high, fld_append_low, fld_whole, bitAt_append_high, bitAt_append_low, bitAt_ofNat, ↓reduceIte, Nat.reduceSub, BitVec.reduceGetLsb, Bool.and_false, h] <;> rfl
  | immShift shiftImm ty rm =>
    show decodeArm (cond ++ 0b0000111#7 ++ s ++ rn ++ rd ++ shiftImm ++ ty ++ 0b0#1 ++ rm) = _
    unfold decodeArm
    simp only [HAppend.hAppend]
    simp (decide := true) only [decodeDpImmShift, Append.append, fld_append_high, fld_append_low, fld_whole, bitAt_append_high, bitAt_append_low, bitAt_ofNat, ↓reduceIte, Nat.reduceSub, BitVec.reduceGetLsb, Bool.and_false, h] <;> rfl
  | regShift rs ty rm =>
    show decodeArm (cond ++ 0b0000111#7 ++ s ++ rn ++ rd ++ rs ++ 0b0#1 ++ ty ++ 0b1#1 ++ rm) = _
    unfold decodeArm
    simp only [HAppend.hAppend]
    simp (decide := true) only [decodeDpRegShift, Append.append, fld_append_high, fld_append_low, fld_whole, bitAt_append_high, bitAt_append_low, bitAt_ofNat, ↓reduceIte, Nat.reduceSub, BitVec.reduceGetLsb, Bool.and_false, h] <;> rfl

theorem RoundTrip.tst (cond : BitVec 4) (rn : BitVec 4) (rd : BitVec 4) (op2 : Operand2) :
    RoundTrip.Statement (.tst cond rn rd op2) := by
  intro hw
  have h := bne_iff_ne.mp hw
  cases op2 with
  | imm rot imm8 =>
    show decodeArm (cond ++ 0b00110001#8 ++ rn ++ rd ++ rot ++ imm8) = _
    unfold decodeArm
    simp only [HAppend.hAppend]
    simp (decide := true) only [decodeDpImm, Append.append, fld_append_high, fld_append_low, fld_whole, bitAt_append_high, bitAt_append_low, bitAt_ofNat, ↓reduceIte, Nat.reduceSub, BitVec.reduceGetLsb, Bool.and_false, h] <;> rfl
  | immShift shiftImm ty rm =>
    show decodeArm (cond ++ 0b00010001#8 ++ rn ++ rd ++ shiftImm ++ ty ++ 0b0#1 ++ rm) = _
    unfold decodeArm
    simp only [HAppend.hAppend]
    simp (decide := true) only [decodeDpImmShift, Append.append, fld_append_high, fld_append_low, fld_whole, bitAt_append_high, bitAt_append_low, bitAt_ofNat, ↓reduceIte, Nat.reduceSub, BitVec.reduceGetLsb, Bool.and_false, h] <;> rfl
  | regShift rs ty rm =>
    show decodeArm (cond ++ 0b00010001#8 ++ rn ++ rd ++ rs ++ 0b0#1 ++ ty ++ 0b1#1 ++ rm) = _
    unfold decodeArm
    simp only [HAppend.hAppend]
    simp (decide := true) only [decodeDpRegShift, Append.append, fld_append_high, fld_append_low, fld_whole, bitAt_append_high, bitAt_append_low, bitAt_ofNat, ↓reduceIte, Nat.reduceSub, BitVec.reduceGetLsb, Bool.and_false, h] <;> rfl

theorem RoundTrip.teq (cond : BitVec 4) (rn : BitVec 4) (rd : BitVec 4) (op2 : Operand2) :
    RoundTrip.Statement (.teq cond rn rd op2) := by
  intro hw
  have h := bne_iff_ne.mp hw
  cases op2 with
  | imm rot imm8 =>
    show decodeArm (cond ++ 0b00110011#8 ++ rn ++ rd ++ rot ++ imm8) = _
    unfold decodeArm
    simp only [HAppend.hAppend]
    simp (decide := true) only [decodeDpImm, Append.append, fld_append_high, fld_append_low, fld_whole, bitAt_append_high, bitAt_append_low, bitAt_ofNat, ↓reduceIte, Nat.reduceSub, BitVec.reduceGetLsb, Bool.and_false, h] <;> rfl
  | immShift shiftImm ty rm =>
    show decodeArm (cond ++ 0b00010011#8 ++ rn ++ rd ++ shiftImm ++ ty ++ 0b0#1 ++ rm) = _
    unfold decodeArm
    simp only [HAppend.hAppend]
    simp (decide := true) only [decodeDpImmShift, Append.append, fld_append_high, fld_append_low, fld_whole, bitAt_append_high, bitAt_append_low, bitAt_ofNat, ↓reduceIte, Nat.reduceSub, BitVec.reduceGetLsb, Bool.and_false, h] <;> rfl
  | regShift rs ty rm =>
    show decodeArm (cond ++ 0b00010011#8 ++ rn ++ rd ++ rs ++ 0b0#1 ++ ty ++ 0b1#1 ++ rm) = _
    unfold decodeArm
    simp only [HAppend.hAppend]
    simp (decide := true) only [decodeDpRegShift, Append.append, fld_append_high, fld_append_low, fld_whole, bitAt_append_high, bitAt_append_low, bitAt_ofNat, ↓reduceIte, Nat.reduceSub, BitVec.reduceGetLsb, Bool.and_false, h] <;> rfl

theorem RoundTrip.cmp (cond : BitVec 4) (rn : BitVec 4) (rd : BitVec 4) (op2 : Operand2) :
    RoundTrip.Statement (.cmp cond rn rd op2) := by
  intro hw
  have h := bne_iff_ne.mp hw
  cases op2 with
  | imm rot imm8 =>
    show decodeArm (cond ++ 0b00110101#8 ++ rn ++ rd ++ rot ++ imm8) = _
    unfold decodeArm
    simp only [HAppend.hAppend]
    simp (decide := true) only [decodeDpImm, Append.append, fld_append_high, fld_append_low, fld_whole, bitAt_append_high, bitAt_append_low, bitAt_ofNat, ↓reduceIte, Nat.reduceSub, BitVec.reduceGetLsb, Bool.and_false, h] <;> rfl
  | immShift shiftImm ty rm =>
    show decodeArm (cond ++ 0b00010101#8 ++ rn ++ rd ++ shiftImm ++ ty ++ 0b0#1 ++ rm) = _
    unfold decodeArm
    simp only [HAppend.hAppend]
    simp (decide := true) only [decodeDpImmShift, Append.append, fld_append_high, fld_append_low, fld_whole, bitAt_append_high, bitAt_append_low, bitAt_ofNat, ↓reduceIte, Nat.reduceSub, BitVec.reduceGetLsb, Bool.and_false, h] <;> rfl
  | regShift rs ty rm =>
    show decodeArm (cond ++ 0b00010101#8 ++ rn ++ rd ++ rs ++ 0b0#1 ++ ty ++ 0b1#1 ++ rm) = _
    unfold decodeArm
    simp only [HAppend.hAppend]
    simp (decide := true) only [decodeDpRegShift, Append.append, fld_append_high, fld_append_low, fld_whole, bitAt_append_high, bitAt_append_low, bitAt_ofNat, ↓reduceIte, Nat.reduceSub, BitVec.reduceGetLsb, Bool.and_false, h] <;> rfl

theorem RoundTrip.cmn (cond : BitVec 4) (rn : BitVec 4) (rd : BitVec 4) (op2 : Operand2) :
    RoundTrip.Statement (.cmn cond rn rd op2) := by
  intro hw
  have h := bne_iff_ne.mp hw
  cases op2 with
  | imm rot imm8 =>
    show decodeArm (cond ++ 0b00110111#8 ++ rn ++ rd ++ rot ++ imm8) = _
    unfold decodeArm
    simp only [HAppend.hAppend]
    simp (decide := true) only [decodeDpImm, Append.append, fld_append_high, fld_append_low, fld_whole, bitAt_append_high, bitAt_append_low, bitAt_ofNat, ↓reduceIte, Nat.reduceSub, BitVec.reduceGetLsb, Bool.and_false, h] <;> rfl
  | immShift shiftImm ty rm =>
    show decodeArm (cond ++ 0b00010111#8 ++ rn ++ rd ++ shiftImm ++ ty ++ 0b0#1 ++ rm) = _
    unfold decodeArm
    simp only [HAppend.hAppend]
    simp (decide := true) only [decodeDpImmShift, Append.append, fld_append_high, fld_append_low, fld_whole, bitAt_append_high, bitAt_append_low, bitAt_ofNat, ↓reduceIte, Nat.reduceSub, BitVec.reduceGetLsb, Bool.and_false, h] <;> rfl
  | regShift rs ty rm =>
    show decodeArm (cond ++ 0b00010111#8 ++ rn ++ rd ++ rs ++ 0b0#1 ++ ty ++ 0b1#1 ++ rm) = _
    unfold decodeArm
    simp only [HAppend.hAppend]
    simp (decide := true) only [decodeDpRegShift, Append.append, fld_append_high, fld_append_low, fld_whole, bitAt_append_high, bitAt_append_low, bitAt_ofNat, ↓reduceIte, Nat.reduceSub, BitVec.reduceGetLsb, Bool.and_false, h] <;> rfl

theorem RoundTrip.orr (cond : BitVec 4) (s : BitVec 1) (rn : BitVec 4) (rd : BitVec 4) (op2 : Operand2) :
    RoundTrip.Statement (.orr cond s rn rd op2) := by
  intro hw
  have h := bne_iff_ne.mp hw
  cases op2 with
  | imm rot imm8 =>
    show decodeArm (cond ++ 0b0011100#7 ++ s ++ rn ++ rd ++ rot ++ imm8) = _
    unfold decodeArm
    simp only [HAppend.hAppend]
    simp (decide := true) only [decodeDpImm, Append.append, fld_append_high, fld_append_low, fld_whole, bitAt_append_high, bitAt_append_low, bitAt_ofNat, ↓reduceIte, Nat.reduceSub, BitVec.reduceGetLsb, Bool.and_false, h] <;> rfl
  | immShift shiftImm ty rm =>
    show decodeArm (cond ++ 0b0001100#7 ++ s ++ rn ++ rd ++ shiftImm ++ ty ++ 0b0#1 ++ rm) = _
    unfold decodeArm
    simp only [HAppend.hAppend]
    simp (decide := true) only [decodeDpImmShift, Append.append, fld_append_high, fld_append_low, fld_whole, bitAt_append_high, bitAt_append_low, bitAt_ofNat, ↓reduceIte, Nat.reduceSub, BitVec.reduceGetLsb, Bool.and_false, h] <;> rfl
  | regShift rs ty rm =>
    show decodeArm (cond ++ 0b0001100#7 ++ s ++ rn ++ rd ++ rs ++ 0b0#1 ++ ty ++ 0b1#1 ++ rm) = _
    unfold decodeArm
    simp only [HAppend.hAppend]
    simp (decide := true) only [decodeDpRegShift, Append.append, fld_append_high, fld_append_low, fld_whole, bitAt_append_high, bitAt_append_low, bitAt_ofNat, ↓reduceIte, Nat.reduceSub, BitVec.reduceGetLsb, Bool.and_false, h] <;> rfl

theorem RoundTrip.mov (cond : BitVec 4) (s : BitVec 1) (rn : BitVec 4) (rd : BitVec 4) (op2 : Operand2) :
    RoundTrip.Statement (.mov cond s rn rd op2) := by
  intro hw
  have h := bne_iff_ne.mp hw
  cases op2 with
  | imm rot imm8 =>
    show decodeArm (cond ++ 0b0011101#7 ++ s ++ rn ++ rd ++ rot ++ imm8) = _
    unfold decodeArm
    simp only [HAppend.hAppend]
    simp (decide := true) only [decodeDpImm, Append.append, fld_append_high, fld_append_low, fld_whole, bitAt_append_high, bitAt_append_low, bitAt_ofNat, ↓reduceIte, Nat.reduceSub, BitVec.reduceGetLsb, Bool.and_false, h] <;> rfl
  | immShift shiftImm ty rm =>
    show decodeArm (cond ++ 0b0001101#7 ++ s ++ rn ++ rd ++ shiftImm ++ ty ++ 0b0#1 ++ rm) = _
    unfold decodeArm
    simp only [HAppend.hAppend]
    simp (decide := true) only [decodeDpImmShift, Append.append, fld_append_high, fld_append_low, fld_whole, bitAt_append_high, bitAt_append_low, bitAt_ofNat, ↓reduceIte, Nat.reduceSub, BitVec.reduceGetLsb, Bool.and_false, h] <;> rfl
  | regShift rs ty rm =>
    show decodeArm (cond ++ 0b0001101#7 ++ s ++ rn ++ rd ++ rs ++ 0b0#1 ++ ty ++ 0b1#1 ++ rm) = _
    unfold decodeArm
    simp only [HAppend.hAppend]
    simp (decide := true) only [decodeDpRegShift, Append.append, fld_append_high, fld_append_low, fld_whole, bitAt_append_high, bitAt_append_low, bitAt_ofNat, ↓reduceIte, Nat.reduceSub, BitVec.reduceGetLsb, Bool.and_false, h] <;> rfl

theorem RoundTrip.bic (cond : BitVec 4) (s : BitVec 1) (rn : BitVec 4) (rd : BitVec 4) (op2 : Operand2) :
    RoundTrip.Statement (.bic cond s rn rd op2) := by
  intro hw
  have h := bne_iff_ne.mp hw
  cases op2 with
  | imm rot imm8 =>
    show decodeArm (cond ++ 0b0011110#7 ++ s ++ rn ++ rd ++ rot ++ imm8) = _
    unfold decodeArm
    simp only [HAppend.hAppend]
    simp (decide := true) only [decodeDpImm, Append.append, fld_append_high, fld_append_low, fld_whole, bitAt_append_high, bitAt_append_low, bitAt_ofNat, ↓reduceIte, Nat.reduceSub, BitVec.reduceGetLsb, Bool.and_false, h] <;> rfl
  | immShift shiftImm ty rm =>
    show decodeArm (cond ++ 0b0001110#7 ++ s ++ rn ++ rd ++ shiftImm ++ ty ++ 0b0#1 ++ rm) = _
    unfold decodeArm
    simp only [HAppend.hAppend]
    simp (decide := true) only [decodeDpImmShift, Append.append, fld_append_high, fld_append_low, fld_whole, bitAt_append_high, bitAt_append_low, bitAt_ofNat, ↓reduceIte, Nat.reduceSub, BitVec.reduceGetLsb, Bool.and_false, h] <;> rfl
  | regShift rs ty rm =>
    show decodeArm (cond ++ 0b0001110#7 ++ s ++ rn ++ rd ++ rs ++ 0b0#1 ++ ty ++ 0b1#1 ++ rm) = _
    unfold decodeArm
    simp only [HAppend.hAppend]
    simp (decide := true) only [decodeDpRegShift, Append.append, fld_append_high, fld_append_low, fld_whole, bitAt_append_high, bitAt_append_low, bitAt_ofNat, ↓reduceIte, Nat.reduceSub, BitVec.reduceGetLsb, Bool.and_false, h] <;> rfl

theorem RoundTrip.mvn (cond : BitVec 4) (s : BitVec 1) (rn : BitVec 4) (rd : BitVec 4) (op2 : Operand2) :
    RoundTrip.Statement (.mvn cond s rn rd op2) := by
  intro hw
  have h := bne_iff_ne.mp hw
  cases op2 with
  | imm rot imm8 =>
    show decodeArm (cond ++ 0b0011111#7 ++ s ++ rn ++ rd ++ rot ++ imm8) = _
    unfold decodeArm
    simp only [HAppend.hAppend]
    simp (decide := true) only [decodeDpImm, Append.append, fld_append_high, fld_append_low, fld_whole, bitAt_append_high, bitAt_append_low, bitAt_ofNat, ↓reduceIte, Nat.reduceSub, BitVec.reduceGetLsb, Bool.and_false, h] <;> rfl
  | immShift shiftImm ty rm =>
    show decodeArm (cond ++ 0b0001111#7 ++ s ++ rn ++ rd ++ shiftImm ++ ty ++ 0b0#1 ++ rm) = _
    unfold decodeArm
    simp only [HAppend.hAppend]
    simp (decide := true) only [decodeDpImmShift, Append.append, fld_append_high, fld_append_low, fld_whole, bitAt_append_high, bitAt_append_low, bitAt_ofNat, ↓reduceIte, Nat.reduceSub, BitVec.reduceGetLsb, Bool.and_false, h] <;> rfl
  | regShift rs ty rm =>
    show decodeArm (cond ++ 0b0001111#7 ++ s ++ rn ++ rd ++ rs ++ 0b0#1 ++ ty ++ 0b1#1 ++ rm) = _
    unfold decodeArm
    simp only [HAppend.hAppend]
    simp (decide := true) only [decodeDpRegShift, Append.append, fld_append_high, fld_append_low, fld_whole, bitAt_append_high, bitAt_append_low, bitAt_ofNat, ↓reduceIte, Nat.reduceSub, BitVec.reduceGetLsb, Bool.and_false, h] <;> rfl

theorem RoundTrip.mrs (cond : BitVec 4) (r : BitVec 1) (sbo : BitVec 4) (rd : BitVec 4) (sbzHi : BitVec 4) (sbzLo : BitVec 4) :
    RoundTrip.Statement (.mrs cond r sbo rd sbzHi sbzLo) := by
  intro hw
  have h := bne_iff_ne.mp hw
  show decodeArm (cond ++ 0b00010#5 ++ r ++ 0b00#2 ++ sbo ++ rd ++ sbzHi ++ 0b0000#4 ++ sbzLo) = _
  unfold decodeArm
  simp only [HAppend.hAppend]
  simp (decide := true) only [decodeControl, Append.append, fld_append_high, fld_append_low, fld_whole, bitAt_append_high, bitAt_append_low, bitAt_ofNat, ↓reduceIte, Nat.reduceSub, BitVec.reduceGetLsb, Bool.and_false, h] <;> rfl

theorem RoundTrip.msrReg (cond : BitVec 4) (r : BitVec 1) (fieldMask : BitVec 4) (sbo : BitVec 4) (sbz : BitVec 4) (rm : BitVec 4) :
    RoundTrip.Statement (.msrReg cond r fieldMask sbo sbz rm) := by
  intro hw
  have h := bne_iff_ne.mp hw
  show decodeArm (cond ++ 0b00010#5 ++ r ++ 0b10#2 ++ fieldMask ++ sbo ++ sbz ++ 0b0000#4 ++ rm) = _
  unfold decodeArm
  simp only [HAppend.hAppend]
  simp (decide := true) only [decodeControl, Append.append, fld_append_high, fld_append_low, fld_whole, bitAt_append_high, bitAt_append_low, bitAt_ofNat, ↓reduceIte, Nat.reduceSub, BitVec.reduceGetLsb, Bool.and_false, h] <;> rfl

theorem RoundTrip.msrImm (cond : BitVec 4) (r : BitVec 1) (fieldMask : BitVec 4) (sbo : BitVec 4) (rot : BitVec 4) (imm8 : BitVec 8) :
    RoundTrip.Statement (.msrImm cond r fieldMask sbo rot imm8) := by
  intro hw
  have h := bne_iff_ne.mp hw
  show decodeArm (cond ++ 0b00110#5 ++ r ++ 0b10#2 ++ fieldMask ++ sbo ++ rot ++ imm8) = _
  unfold decodeArm
  simp only [HAppend.hAppend]
  simp (decide := true) only [decodeControl, Append.append, fld_append_high, fld_append_low, fld_whole, bitAt_append_high, bitAt_append_low, bitAt_ofNat, ↓reduceIte, Nat.reduceSub, BitVec.reduceGetLsb, Bool.and_false, h] <;> rfl

theorem RoundTrip.bx (cond : BitVec 4) (sboA : BitVec 4) (sboB : BitVec 4) (sboC : BitVec 4) (rm : BitVec 4) :
    RoundTrip.Statement (.bx cond sboA sboB sboC rm) := by
  intro hw
  have h := bne_iff_ne.mp hw
  show decodeArm (cond ++ 0b00010010#8 ++ sboA ++ sboB ++ sboC ++ 0b0001#4 ++ rm) = _
  unfold decodeArm
  simp only [HAppend.hAppend]
  simp (decide := true) only [decodeControl, Append.append, fld_append_high, fld_append_low, fld_whole, bitAt_append_high, bitAt_append_low, bitAt_ofNat, ↓reduceIte, Nat.reduceSub, BitVec.reduceGetLsb, Bool.and_false, h] <;> rfl

theorem RoundTrip.undControlImm (cond : BitVec 4) (x22 : BitVec 1) (rest : BitVec 20) :
    RoundTrip.Statement (.undControlImm cond x22 rest) := by
  intro hw
  have h := bne_iff_ne.mp hw
  show decodeArm (cond ++ 0b00110#5 ++ x22 ++ 0b00#2 ++ rest) = _
  unfold decodeArm
  simp only [HAppend.hAppend]
  simp (decide := true) only [decodeControl, Append.append, fld_append_high, fld_append_low, fld_whole, bitAt_append_high, bitAt_append_low, bitAt_ofNat, ↓reduceIte, Nat.reduceSub, BitVec.reduceGetLsb, Bool.and_false, h] <;> rfl

theorem RoundTrip.undControlOne (cond : BitVec 4) (x22 : BitVec 1) (rest : BitVec 12) (low : BitVec 4) :
    RoundTrip.Statement (.undControlOne cond x22 rest low) := by
  intro hw
  have h := bne_iff_ne.mp hw
  show decodeArm (cond ++ 0b00010#5 ++ x22 ++ 0b00#2 ++ rest ++ 0b0001#4 ++ low) = _
  unfold decodeArm
  simp only [HAppend.hAppend]
  simp (decide := true) only [decodeControl, Append.append, fld_append_high, fld_append_low, fld_whole, bitAt_append_high, bitAt_append_low, bitAt_ofNat, ↓reduceIte, Nat.reduceSub, BitVec.reduceGetLsb, Bool.and_false, h] <;> rfl

theorem RoundTrip.undControlOneR (cond : BitVec 4) (rest : BitVec 12) (low : BitVec 4) :
    RoundTrip.Statement (.undControlOneR cond rest low) := by
  intro hw
  have h := bne_iff_ne.mp hw
  show decodeArm (cond ++ 0b00010110#8 ++ rest ++ 0b0001#4 ++ low) = _
  unfold decodeArm
  simp only [HAppend.hAppend]
  simp (decide := true) only [decodeControl, Append.append, fld_append_high, fld_append_low, fld_whole, bitAt_append_high, bitAt_append_low, bitAt_ofNat, ↓reduceIte, Nat.reduceSub, BitVec.reduceGetLsb, Bool.and_false, h] <;> rfl

theorem RoundTrip.undControlHigh (cond : BitVec 4) (x22to21 : BitVec 2) (rest : BitVec 12) (x5 : BitVec 1) (x4 : BitVec 1) (low : BitVec 4) :
    RoundTrip.Statement (.undControlHigh cond x22to21 rest x5 x4 low) := by
  intro hw
  have h := bne_iff_ne.mp hw
  show decodeArm (cond ++ 0b00010#5 ++ x22to21 ++ 0b0#1 ++ rest ++ 0b01#2 ++ x5 ++ x4 ++ low) = _
  unfold decodeArm
  simp only [HAppend.hAppend]
  simp (decide := true) only [decodeControl, Append.append, fld_append_high, fld_append_low, fld_whole, bitAt_append_high, bitAt_append_low, bitAt_ofNat, ↓reduceIte, Nat.reduceSub, BitVec.reduceGetLsb, Bool.and_false, h] <;> rfl

theorem RoundTrip.undControlLow (cond : BitVec 4) (x22to21 : BitVec 2) (rest : BitVec 12) (x4 : BitVec 1) (low : BitVec 4) :
    RoundTrip.Statement (.undControlLow cond x22to21 rest x4 low) := by
  intro hw
  have h := bne_iff_ne.mp hw
  show decodeArm (cond ++ 0b00010#5 ++ x22to21 ++ 0b0#1 ++ rest ++ 0b001#3 ++ x4 ++ low) = _
  unfold decodeArm
  simp only [HAppend.hAppend]
  simp (decide := true) only [decodeControl, Append.append, fld_append_high, fld_append_low, fld_whole, bitAt_append_high, bitAt_append_low, bitAt_ofNat, ↓reduceIte, Nat.reduceSub, BitVec.reduceGetLsb, Bool.and_false, h] <;> rfl

theorem RoundTrip.undControlEven (cond : BitVec 4) (x22to21 : BitVec 2) (rest : BitVec 12) (x6to5 : BitVec 2) (low : BitVec 4) :
    RoundTrip.Statement (.undControlEven cond x22to21 rest x6to5 low) := by
  intro hw
  have h := bne_iff_ne.mp hw
  show decodeArm (cond ++ 0b00010#5 ++ x22to21 ++ 0b0#1 ++ rest ++ 0b1#1 ++ x6to5 ++ 0b0#1 ++ low) = _
  unfold decodeArm
  simp only [HAppend.hAppend]
  simp (decide := true) only [decodeControl, Append.append, fld_append_high, fld_append_low, fld_whole, bitAt_append_high, bitAt_append_low, bitAt_ofNat, ↓reduceIte, Nat.reduceSub, BitVec.reduceGetLsb, Bool.and_false, h] <;> rfl

theorem RoundTrip.mul (cond : BitVec 4) (s : BitVec 1) (rd : BitVec 4) (sbz : BitVec 4) (rs : BitVec 4) (rm : BitVec 4) :
    RoundTrip.Statement (.mul cond s rd sbz rs rm) := by
  intro hw
  have h := bne_iff_ne.mp hw
  show decodeArm (cond ++ 0b0000000#7 ++ s ++ rd ++ sbz ++ rs ++ 0b1001#4 ++ rm) = _
  unfold decodeArm
  simp only [HAppend.hAppend]
  simp (decide := true) only [decodeMultiply, Append.append, fld_append_high, fld_append_low, fld_whole, bitAt_append_high, bitAt_append_low, bitAt_ofNat, ↓reduceIte, Nat.reduceSub, BitVec.reduceGetLsb, Bool.and_false, h] <;> rfl

theorem RoundTrip.mla (cond : BitVec 4) (s : BitVec 1) (rd : BitVec 4) (rn : BitVec 4) (rs : BitVec 4) (rm : BitVec 4) :
    RoundTrip.Statement (.mla cond s rd rn rs rm) := by
  intro hw
  have h := bne_iff_ne.mp hw
  show decodeArm (cond ++ 0b0000001#7 ++ s ++ rd ++ rn ++ rs ++ 0b1001#4 ++ rm) = _
  unfold decodeArm
  simp only [HAppend.hAppend]
  simp (decide := true) only [decodeMultiply, Append.append, fld_append_high, fld_append_low, fld_whole, bitAt_append_high, bitAt_append_low, bitAt_ofNat, ↓reduceIte, Nat.reduceSub, BitVec.reduceGetLsb, Bool.and_false, h] <;> rfl

theorem RoundTrip.umull (cond : BitVec 4) (s : BitVec 1) (rdHi : BitVec 4) (rdLo : BitVec 4) (rs : BitVec 4) (rm : BitVec 4) :
    RoundTrip.Statement (.umull cond s rdHi rdLo rs rm) := by
  intro hw
  have h := bne_iff_ne.mp hw
  show decodeArm (cond ++ 0b0000100#7 ++ s ++ rdHi ++ rdLo ++ rs ++ 0b1001#4 ++ rm) = _
  unfold decodeArm
  simp only [HAppend.hAppend]
  simp (decide := true) only [decodeMultiply, Append.append, fld_append_high, fld_append_low, fld_whole, bitAt_append_high, bitAt_append_low, bitAt_ofNat, ↓reduceIte, Nat.reduceSub, BitVec.reduceGetLsb, Bool.and_false, h] <;> rfl

theorem RoundTrip.umlal (cond : BitVec 4) (s : BitVec 1) (rdHi : BitVec 4) (rdLo : BitVec 4) (rs : BitVec 4) (rm : BitVec 4) :
    RoundTrip.Statement (.umlal cond s rdHi rdLo rs rm) := by
  intro hw
  have h := bne_iff_ne.mp hw
  show decodeArm (cond ++ 0b0000101#7 ++ s ++ rdHi ++ rdLo ++ rs ++ 0b1001#4 ++ rm) = _
  unfold decodeArm
  simp only [HAppend.hAppend]
  simp (decide := true) only [decodeMultiply, Append.append, fld_append_high, fld_append_low, fld_whole, bitAt_append_high, bitAt_append_low, bitAt_ofNat, ↓reduceIte, Nat.reduceSub, BitVec.reduceGetLsb, Bool.and_false, h] <;> rfl

theorem RoundTrip.smull (cond : BitVec 4) (s : BitVec 1) (rdHi : BitVec 4) (rdLo : BitVec 4) (rs : BitVec 4) (rm : BitVec 4) :
    RoundTrip.Statement (.smull cond s rdHi rdLo rs rm) := by
  intro hw
  have h := bne_iff_ne.mp hw
  show decodeArm (cond ++ 0b0000110#7 ++ s ++ rdHi ++ rdLo ++ rs ++ 0b1001#4 ++ rm) = _
  unfold decodeArm
  simp only [HAppend.hAppend]
  simp (decide := true) only [decodeMultiply, Append.append, fld_append_high, fld_append_low, fld_whole, bitAt_append_high, bitAt_append_low, bitAt_ofNat, ↓reduceIte, Nat.reduceSub, BitVec.reduceGetLsb, Bool.and_false, h] <;> rfl

theorem RoundTrip.smlal (cond : BitVec 4) (s : BitVec 1) (rdHi : BitVec 4) (rdLo : BitVec 4) (rs : BitVec 4) (rm : BitVec 4) :
    RoundTrip.Statement (.smlal cond s rdHi rdLo rs rm) := by
  intro hw
  have h := bne_iff_ne.mp hw
  show decodeArm (cond ++ 0b0000111#7 ++ s ++ rdHi ++ rdLo ++ rs ++ 0b1001#4 ++ rm) = _
  unfold decodeArm
  simp only [HAppend.hAppend]
  simp (decide := true) only [decodeMultiply, Append.append, fld_append_high, fld_append_low, fld_whole, bitAt_append_high, bitAt_append_low, bitAt_ofNat, ↓reduceIte, Nat.reduceSub, BitVec.reduceGetLsb, Bool.and_false, h] <;> rfl

theorem RoundTrip.undMultiply (cond : BitVec 4) (x21to20 : BitVec 2) (rest : BitVec 12) (low : BitVec 4) :
    RoundTrip.Statement (.undMultiply cond x21to20 rest low) := by
  intro hw
  have h := bne_iff_ne.mp hw
  show decodeArm (cond ++ 0b000001#6 ++ x21to20 ++ rest ++ 0b1001#4 ++ low) = _
  unfold decodeArm
  simp only [HAppend.hAppend]
  simp (decide := true) only [decodeMultiply, Append.append, fld_append_high, fld_append_low, fld_whole, bitAt_append_high, bitAt_append_low, bitAt_ofNat, ↓reduceIte, Nat.reduceSub, BitVec.reduceGetLsb, Bool.and_false, h] <;> rfl

theorem RoundTrip.swp (cond : BitVec 4) (rn : BitVec 4) (rd : BitVec 4) (sbz : BitVec 4) (rm : BitVec 4) :
    RoundTrip.Statement (.swp cond rn rd sbz rm) := by
  intro hw
  have h := bne_iff_ne.mp hw
  show decodeArm (cond ++ 0b00010000#8 ++ rn ++ rd ++ sbz ++ 0b1001#4 ++ rm) = _
  unfold decodeArm
  simp only [HAppend.hAppend]
  simp (decide := true) only [decodeSwap, Append.append, fld_append_high, fld_append_low, fld_whole, bitAt_append_high, bitAt_append_low, bitAt_ofNat, ↓reduceIte, Nat.reduceSub, BitVec.reduceGetLsb, Bool.and_false, h] <;> rfl

theorem RoundTrip.swpb (cond : BitVec 4) (rn : BitVec 4) (rd : BitVec 4) (sbz : BitVec 4) (rm : BitVec 4) :
    RoundTrip.Statement (.swpb cond rn rd sbz rm) := by
  intro hw
  have h := bne_iff_ne.mp hw
  show decodeArm (cond ++ 0b00010100#8 ++ rn ++ rd ++ sbz ++ 0b1001#4 ++ rm) = _
  unfold decodeArm
  simp only [HAppend.hAppend]
  simp (decide := true) only [decodeSwap, Append.append, fld_append_high, fld_append_low, fld_whole, bitAt_append_high, bitAt_append_low, bitAt_ofNat, ↓reduceIte, Nat.reduceSub, BitVec.reduceGetLsb, Bool.and_false, h] <;> rfl

theorem RoundTrip.undSwapHigh (cond : BitVec 4) (x22to20 : BitVec 3) (rest : BitVec 12) (low : BitVec 4) :
    RoundTrip.Statement (.undSwapHigh cond x22to20 rest low) := by
  intro hw
  have h := bne_iff_ne.mp hw
  show decodeArm (cond ++ 0b00011#5 ++ x22to20 ++ rest ++ 0b1001#4 ++ low) = _
  unfold decodeArm
  simp only [HAppend.hAppend]
  simp (decide := true) only [decodeSwap, Append.append, fld_append_high, fld_append_low, fld_whole, bitAt_append_high, bitAt_append_low, bitAt_ofNat, ↓reduceIte, Nat.reduceSub, BitVec.reduceGetLsb, Bool.and_false, h] <;> rfl

theorem RoundTrip.undSwapOdd (cond : BitVec 4) (x22to21 : BitVec 2) (rest : BitVec 12) (low : BitVec 4) :
    RoundTrip.Statement (.undSwapOdd cond x22to21 rest low) := by
  intro hw
  have h := bne_iff_ne.mp hw
  show decodeArm (cond ++ 0b00010#5 ++ x22to21 ++ 0b1#1 ++ rest ++ 0b1001#4 ++ low) = _
  unfold decodeArm
  simp only [HAppend.hAppend]
  simp (decide := true) only [decodeSwap, Append.append, fld_append_high, fld_append_low, fld_whole, bitAt_append_high, bitAt_append_low, bitAt_ofNat, ↓reduceIte, Nat.reduceSub, BitVec.reduceGetLsb, Bool.and_false, h] <;> rfl

theorem RoundTrip.undSwapEven (cond : BitVec 4) (x22 : BitVec 1) (rest : BitVec 12) (low : BitVec 4) :
    RoundTrip.Statement (.undSwapEven cond x22 rest low) := by
  intro hw
  have h := bne_iff_ne.mp hw
  show decodeArm (cond ++ 0b00010#5 ++ x22 ++ 0b10#2 ++ rest ++ 0b1001#4 ++ low) = _
  unfold decodeArm
  simp only [HAppend.hAppend]
  simp (decide := true) only [decodeSwap, Append.append, fld_append_high, fld_append_low, fld_whole, bitAt_append_high, bitAt_append_low, bitAt_ofNat, ↓reduceIte, Nat.reduceSub, BitVec.reduceGetLsb, Bool.and_false, h] <;> rfl

theorem RoundTrip.strh (cond : BitVec 4) (p : BitVec 1) (u : BitVec 1) (w : BitVec 1) (rn : BitVec 4) (rd : BitVec 4) (off : Offset3) :
    RoundTrip.Statement (.strh cond p u w rn rd off) := by
  intro hw
  have h := bne_iff_ne.mp hw
  cases off with
  | reg sbz rm =>
    show decodeArm (cond ++ 0b000#3 ++ p ++ u ++ 0b0#1 ++ w ++ 0b0#1 ++ rn ++ rd ++ sbz ++ 0b1011#4 ++ rm) = _
    unfold decodeArm
    simp only [HAppend.hAppend]
    simp (decide := true) only [decodeHalf, decodeHalf, Append.append, fld_append_high, fld_append_low, fld_whole, bitAt_append_high, bitAt_append_low, bitAt_ofNat, ↓reduceIte, Nat.reduceSub, BitVec.reduceGetLsb, Bool.and_false, h] <;> rfl
  | imm immH immL =>
    show decodeArm (cond ++ 0b000#3 ++ p ++ u ++ 0b1#1 ++ w ++ 0b0#1 ++ rn ++ rd ++ immH ++ 0b1011#4 ++ immL) = _
    unfold decodeArm
    simp only [HAppend.hAppend]
    simp (decide := true) only [decodeHalf, decodeHalf, Append.append, fld_append_high, fld_append_low, fld_whole, bitAt_append_high, bitAt_append_low, bitAt_ofNat, ↓reduceIte, Nat.reduceSub, BitVec.reduceGetLsb, Bool.and_false, h] <;> rfl

theorem RoundTrip.ldrh (cond : BitVec 4) (p : BitVec 1) (u : BitVec 1) (w : BitVec 1) (rn : BitVec 4) (rd : BitVec 4) (off : Offset3) :
    RoundTrip.Statement (.ldrh cond p u w rn rd off) := by
  intro hw
  have h := bne_iff_ne.mp hw
  cases off with
  | reg sbz rm =>
    show decodeArm (cond ++ 0b000#3 ++ p ++ u ++ 0b0#1 ++ w ++ 0b1#1 ++ rn ++ rd ++ sbz ++ 0b1011#4 ++ rm) = _
    unfold decodeArm
    simp only [HAppend.hAppend]
    simp (decide := true) only [decodeHalf, decodeHalf, Append.append, fld_append_high, fld_append_low, fld_whole, bitAt_append_high, bitAt_append_low, bitAt_ofNat, ↓reduceIte, Nat.reduceSub, BitVec.reduceGetLsb, Bool.and_false, h] <;> rfl
  | imm immH immL =>
    show decodeArm (cond ++ 0b000#3 ++ p ++ u ++ 0b1#1 ++ w ++ 0b1#1 ++ rn ++ rd ++ immH ++ 0b1011#4 ++ immL) = _
    unfold decodeArm
    simp only [HAppend.hAppend]
    simp (decide := true) only [decodeHalf, decodeHalf, Append.append, fld_append_high, fld_append_low, fld_whole, bitAt_append_high, bitAt_append_low, bitAt_ofNat, ↓reduceIte, Nat.reduceSub, BitVec.reduceGetLsb, Bool.and_false, h] <;> rfl

theorem RoundTrip.ldrsb (cond : BitVec 4) (p : BitVec 1) (u : BitVec 1) (w : BitVec 1) (rn : BitVec 4) (rd : BitVec 4) (off : Offset3) :
    RoundTrip.Statement (.ldrsb cond p u w rn rd off) := by
  intro hw
  have h := bne_iff_ne.mp hw
  cases off with
  | reg sbz rm =>
    show decodeArm (cond ++ 0b000#3 ++ p ++ u ++ 0b0#1 ++ w ++ 0b1#1 ++ rn ++ rd ++ sbz ++ 0b1101#4 ++ rm) = _
    unfold decodeArm
    simp only [HAppend.hAppend]
    simp (decide := true) only [decodeHalf, decodeHalf, Append.append, fld_append_high, fld_append_low, fld_whole, bitAt_append_high, bitAt_append_low, bitAt_ofNat, ↓reduceIte, Nat.reduceSub, BitVec.reduceGetLsb, Bool.and_false, h] <;> rfl
  | imm immH immL =>
    show decodeArm (cond ++ 0b000#3 ++ p ++ u ++ 0b1#1 ++ w ++ 0b1#1 ++ rn ++ rd ++ immH ++ 0b1101#4 ++ immL) = _
    unfold decodeArm
    simp only [HAppend.hAppend]
    simp (decide := true) only [decodeHalf, decodeHalf, Append.append, fld_append_high, fld_append_low, fld_whole, bitAt_append_high, bitAt_append_low, bitAt_ofNat, ↓reduceIte, Nat.reduceSub, BitVec.reduceGetLsb, Bool.and_false, h] <;> rfl

theorem RoundTrip.ldrsh (cond : BitVec 4) (p : BitVec 1) (u : BitVec 1) (w : BitVec 1) (rn : BitVec 4) (rd : BitVec 4) (off : Offset3) :
    RoundTrip.Statement (.ldrsh cond p u w rn rd off) := by
  intro hw
  have h := bne_iff_ne.mp hw
  cases off with
  | reg sbz rm =>
    show decodeArm (cond ++ 0b000#3 ++ p ++ u ++ 0b0#1 ++ w ++ 0b1#1 ++ rn ++ rd ++ sbz ++ 0b1111#4 ++ rm) = _
    unfold decodeArm
    simp only [HAppend.hAppend]
    simp (decide := true) only [decodeHalf, decodeHalf, Append.append, fld_append_high, fld_append_low, fld_whole, bitAt_append_high, bitAt_append_low, bitAt_ofNat, ↓reduceIte, Nat.reduceSub, BitVec.reduceGetLsb, Bool.and_false, h] <;> rfl
  | imm immH immL =>
    show decodeArm (cond ++ 0b000#3 ++ p ++ u ++ 0b1#1 ++ w ++ 0b1#1 ++ rn ++ rd ++ immH ++ 0b1111#4 ++ immL) = _
    unfold decodeArm
    simp only [HAppend.hAppend]
    simp (decide := true) only [decodeHalf, decodeHalf, Append.append, fld_append_high, fld_append_low, fld_whole, bitAt_append_high, bitAt_append_low, bitAt_ofNat, ↓reduceIte, Nat.reduceSub, BitVec.reduceGetLsb, Bool.and_false, h] <;> rfl

theorem RoundTrip.undSignedStore (cond : BitVec 4) (x24to21 : BitVec 4) (rest : BitVec 12) (x5 : BitVec 1) (low : BitVec 4) :
    RoundTrip.Statement (.undSignedStore cond x24to21 rest x5 low) := by
  intro hw
  have h := bne_iff_ne.mp hw
  show decodeArm (cond ++ 0b000#3 ++ x24to21 ++ 0b0#1 ++ rest ++ 0b11#2 ++ x5 ++ 0b1#1 ++ low) = _
  unfold decodeArm
  simp only [HAppend.hAppend]
  simp (decide := true) only [decodeHalf, Append.append, fld_append_high, fld_append_low, fld_whole, bitAt_append_high, bitAt_append_low, bitAt_ofNat, ↓reduceIte, Nat.reduceSub, BitVec.reduceGetLsb, Bool.and_false, h] <;> rfl

theorem RoundTrip.ldr (cond : BitVec 4) (u : BitVec 1) (w : BitVec 1) (rn : BitVec 4) (rd : BitVec 4) (off : Offset2) :
    RoundTrip.Statement (.ldr cond u w rn rd off) := by
  intro hw
  have h := bne_iff_ne.mp hw
  cases off with
  | imm imm12 =>
    show decodeArm (cond ++ 0b0101#4 ++ u ++ 0b0#1 ++ w ++ 0b1#1 ++ rn ++ rd ++ imm12) = _
    unfold decodeArm
    simp only [HAppend.hAppend]
    simp (decide := true) only [decodeLsImm, Append.append, fld_append_high, fld_append_low, fld_whole, bitAt_append_high, bitAt_append_low, bitAt_ofNat, ↓reduceIte, Nat.reduceSub, BitVec.reduceGetLsb, Bool.and_false, h] <;> rfl
  | reg shiftImm ty rm =>
    show decodeArm (cond ++ 0b0111#4 ++ u ++ 0b0#1 ++ w ++ 0b1#1 ++ rn ++ rd ++ shiftImm ++ ty ++ 0b0#1 ++ rm) = _
    unfold decodeArm
    simp only [HAppend.hAppend]
    simp (decide := true) only [decodeLsReg, Append.append, fld_append_high, fld_append_low, fld_whole, bitAt_append_high, bitAt_append_low, bitAt_ofNat, ↓reduceIte, Nat.reduceSub, BitVec.reduceGetLsb, Bool.and_false, h] <;> rfl

theorem RoundTrip.ldrPost (cond : BitVec 4) (u : BitVec 1) (rn : BitVec 4) (rd : BitVec 4) (off : Offset2) :
    RoundTrip.Statement (.ldrPost cond u rn rd off) := by
  intro hw
  have h := bne_iff_ne.mp hw
  cases off with
  | imm imm12 =>
    show decodeArm (cond ++ 0b0100#4 ++ u ++ 0b001#3 ++ rn ++ rd ++ imm12) = _
    unfold decodeArm
    simp only [HAppend.hAppend]
    simp (decide := true) only [decodeLsImm, Append.append, fld_append_high, fld_append_low, fld_whole, bitAt_append_high, bitAt_append_low, bitAt_ofNat, ↓reduceIte, Nat.reduceSub, BitVec.reduceGetLsb, Bool.and_false, h] <;> rfl
  | reg shiftImm ty rm =>
    show decodeArm (cond ++ 0b0110#4 ++ u ++ 0b001#3 ++ rn ++ rd ++ shiftImm ++ ty ++ 0b0#1 ++ rm) = _
    unfold decodeArm
    simp only [HAppend.hAppend]
    simp (decide := true) only [decodeLsReg, Append.append, fld_append_high, fld_append_low, fld_whole, bitAt_append_high, bitAt_append_low, bitAt_ofNat, ↓reduceIte, Nat.reduceSub, BitVec.reduceGetLsb, Bool.and_false, h] <;> rfl

theorem RoundTrip.ldrt (cond : BitVec 4) (u : BitVec 1) (rn : BitVec 4) (rd : BitVec 4) (off : Offset2) :
    RoundTrip.Statement (.ldrt cond u rn rd off) := by
  intro hw
  have h := bne_iff_ne.mp hw
  cases off with
  | imm imm12 =>
    show decodeArm (cond ++ 0b0100#4 ++ u ++ 0b011#3 ++ rn ++ rd ++ imm12) = _
    unfold decodeArm
    simp only [HAppend.hAppend]
    simp (decide := true) only [decodeLsImm, Append.append, fld_append_high, fld_append_low, fld_whole, bitAt_append_high, bitAt_append_low, bitAt_ofNat, ↓reduceIte, Nat.reduceSub, BitVec.reduceGetLsb, Bool.and_false, h] <;> rfl
  | reg shiftImm ty rm =>
    show decodeArm (cond ++ 0b0110#4 ++ u ++ 0b011#3 ++ rn ++ rd ++ shiftImm ++ ty ++ 0b0#1 ++ rm) = _
    unfold decodeArm
    simp only [HAppend.hAppend]
    simp (decide := true) only [decodeLsReg, Append.append, fld_append_high, fld_append_low, fld_whole, bitAt_append_high, bitAt_append_low, bitAt_ofNat, ↓reduceIte, Nat.reduceSub, BitVec.reduceGetLsb, Bool.and_false, h] <;> rfl

theorem RoundTrip.str (cond : BitVec 4) (u : BitVec 1) (w : BitVec 1) (rn : BitVec 4) (rd : BitVec 4) (off : Offset2) :
    RoundTrip.Statement (.str cond u w rn rd off) := by
  intro hw
  have h := bne_iff_ne.mp hw
  cases off with
  | imm imm12 =>
    show decodeArm (cond ++ 0b0101#4 ++ u ++ 0b0#1 ++ w ++ 0b0#1 ++ rn ++ rd ++ imm12) = _
    unfold decodeArm
    simp only [HAppend.hAppend]
    simp (decide := true) only [decodeLsImm, Append.append, fld_append_high, fld_append_low, fld_whole, bitAt_append_high, bitAt_append_low, bitAt_ofNat, ↓reduceIte, Nat.reduceSub, BitVec.reduceGetLsb, Bool.and_false, h] <;> rfl
  | reg shiftImm ty rm =>
    show decodeArm (cond ++ 0b0111#4 ++ u ++ 0b0#1 ++ w ++ 0b0#1 ++ rn ++ rd ++ shiftImm ++ ty ++ 0b0#1 ++ rm) = _
    unfold decodeArm
    simp only [HAppend.hAppend]
    simp (decide := true) only [decodeLsReg, Append.append, fld_append_high, fld_append_low, fld_whole, bitAt_append_high, bitAt_append_low, bitAt_ofNat, ↓reduceIte, Nat.reduceSub, BitVec.reduceGetLsb, Bool.and_false, h] <;> rfl

theorem RoundTrip.strPost (cond : BitVec 4) (u : BitVec 1) (rn : BitVec 4) (rd : BitVec 4) (off : Offset2) :
    RoundTrip.Statement (.strPost cond u rn rd off) := by
  intro hw
  have h := bne_iff_ne.mp hw
  cases off with
  | imm imm12 =>
    show decodeArm (cond ++ 0b0100#4 ++ u ++ 0b000#3 ++ rn ++ rd ++ imm12) = _
    unfold decodeArm
    simp only [HAppend.hAppend]
    simp (decide := true) only [decodeLsImm, Append.append, fld_append_high, fld_append_low, fld_whole, bitAt_append_high, bitAt_append_low, bitAt_ofNat, ↓reduceIte, Nat.reduceSub, BitVec.reduceGetLsb, Bool.and_false, h] <;> rfl
  | reg shiftImm ty rm =>
    show decodeArm (cond ++ 0b0110#4 ++ u ++ 0b000#3 ++ rn ++ rd ++ shiftImm ++ ty ++ 0b0#1 ++ rm) = _
    unfold decodeArm
    simp only [HAppend.hAppend]
    simp (decide := true) only [decodeLsReg, Append.append, fld_append_high, fld_append_low, fld_whole, bitAt_append_high, bitAt_append_low, bitAt_ofNat, ↓reduceIte, Nat.reduceSub, BitVec.reduceGetLsb, Bool.and_false, h] <;> rfl

theorem RoundTrip.strt (cond : BitVec 4) (u : BitVec 1) (rn : BitVec 4) (rd : BitVec 4) (off : Offset2) :
    RoundTrip.Statement (.strt cond u rn rd off) := by
  intro hw
  have h := bne_iff_ne.mp hw
  cases off with
  | imm imm12 =>
    show decodeArm (cond ++ 0b0100#4 ++ u ++ 0b010#3 ++ rn ++ rd ++ imm12) = _
    unfold decodeArm
    simp only [HAppend.hAppend]
    simp (decide := true) only [decodeLsImm, Append.append, fld_append_high, fld_append_low, fld_whole, bitAt_append_high, bitAt_append_low, bitAt_ofNat, ↓reduceIte, Nat.reduceSub, BitVec.reduceGetLsb, Bool.and_false, h] <;> rfl
  | reg shiftImm ty rm =>
    show decodeArm (cond ++ 0b0110#4 ++ u ++ 0b010#3 ++ rn ++ rd ++ shiftImm ++ ty ++ 0b0#1 ++ rm) = _
    unfold decodeArm
    simp only [HAppend.hAppend]
    simp (decide := true) only [decodeLsReg, Append.append, fld_append_high, fld_append_low, fld_whole, bitAt_append_high, bitAt_append_low, bitAt_ofNat, ↓reduceIte, Nat.reduceSub, BitVec.reduceGetLsb, Bool.and_false, h] <;> rfl

theorem RoundTrip.ldrb (cond : BitVec 4) (u : BitVec 1) (w : BitVec 1) (rn : BitVec 4) (rd : BitVec 4) (off : Offset2) :
    RoundTrip.Statement (.ldrb cond u w rn rd off) := by
  intro hw
  have h := bne_iff_ne.mp hw
  cases off with
  | imm imm12 =>
    show decodeArm (cond ++ 0b0101#4 ++ u ++ 0b1#1 ++ w ++ 0b1#1 ++ rn ++ rd ++ imm12) = _
    unfold decodeArm
    simp only [HAppend.hAppend]
    simp (decide := true) only [decodeLsImm, Append.append, fld_append_high, fld_append_low, fld_whole, bitAt_append_high, bitAt_append_low, bitAt_ofNat, ↓reduceIte, Nat.reduceSub, BitVec.reduceGetLsb, Bool.and_false, h] <;> rfl
  | reg shiftImm ty rm =>
    show decodeArm (cond ++ 0b0111#4 ++ u ++ 0b1#1 ++ w ++ 0b1#1 ++ rn ++ rd ++ shiftImm ++ ty ++ 0b0#1 ++ rm) = _
    unfold decodeArm
    simp only [HAppend.hAppend]
    simp (decide := true) only [decodeLsReg, Append.append, fld_append_high, fld_append_low, fld_whole, bitAt_append_high, bitAt_append_low, bitAt_ofNat, ↓reduceIte, Nat.reduceSub, BitVec.reduceGetLsb, Bool.and_false, h] <;> rfl

theorem RoundTrip.ldrbPost (cond : BitVec 4) (u : BitVec 1) (rn : BitVec 4) (rd : BitVec 4) (off : Offset2) :
    RoundTrip.Statement (.ldrbPost cond u rn rd off) := by
  intro hw
  have h := bne_iff_ne.mp hw
  cases off with
  | imm imm12 =>
    show decodeArm (cond ++ 0b0100#4 ++ u ++ 0b101#3 ++ rn ++ rd ++ imm12) = _
    unfold decodeArm
    simp only [HAppend.hAppend]
    simp (decide := true) only [decodeLsImm, Append.append, fld_append_high, fld_append_low, fld_whole, bitAt_append_high, bitAt_append_low, bitAt_ofNat, ↓reduceIte, Nat.reduceSub, BitVec.reduceGetLsb, Bool.and_false, h] <;> rfl
  | reg shiftImm ty rm =>
    show decodeArm (cond ++ 0b0110#4 ++ u ++ 0b101#3 ++ rn ++ rd ++ shiftImm ++ ty ++ 0b0#1 ++ rm) = _
    unfold decodeArm
    simp only [HAppend.hAppend]
    simp (decide := true) only [decodeLsReg, Append.append, fld_append_high, fld_append_low, fld_whole, bitAt_append_high, bitAt_append_low, bitAt_ofNat, ↓reduceIte, Nat.reduceSub, BitVec.reduceGetLsb, Bool.and_false, h] <;> rfl

theorem RoundTrip.ldrbt (cond : BitVec 4) (u : BitVec 1) (rn : BitVec 4) (rd : BitVec 4) (off : Offset2) :
    RoundTrip.Statement (.ldrbt cond u rn rd off) := by
  intro hw
  have h := bne_iff_ne.mp hw
  cases off with
  | imm imm12 =>
    show decodeArm (cond ++ 0b0100#4 ++ u ++ 0b111#3 ++ rn ++ rd ++ imm12) = _
    unfold decodeArm
    simp only [HAppend.hAppend]
    simp (decide := true) only [decodeLsImm, Append.append, fld_append_high, fld_append_low, fld_whole, bitAt_append_high, bitAt_append_low, bitAt_ofNat, ↓reduceIte, Nat.reduceSub, BitVec.reduceGetLsb, Bool.and_false, h] <;> rfl
  | reg shiftImm ty rm =>
    show decodeArm (cond ++ 0b0110#4 ++ u ++ 0b111#3 ++ rn ++ rd ++ shiftImm ++ ty ++ 0b0#1 ++ rm) = _
    unfold decodeArm
    simp only [HAppend.hAppend]
    simp (decide := true) only [decodeLsReg, Append.append, fld_append_high, fld_append_low, fld_whole, bitAt_append_high, bitAt_append_low, bitAt_ofNat, ↓reduceIte, Nat.reduceSub, BitVec.reduceGetLsb, Bool.and_false, h] <;> rfl

theorem RoundTrip.strb (cond : BitVec 4) (u : BitVec 1) (w : BitVec 1) (rn : BitVec 4) (rd : BitVec 4) (off : Offset2) :
    RoundTrip.Statement (.strb cond u w rn rd off) := by
  intro hw
  have h := bne_iff_ne.mp hw
  cases off with
  | imm imm12 =>
    show decodeArm (cond ++ 0b0101#4 ++ u ++ 0b1#1 ++ w ++ 0b0#1 ++ rn ++ rd ++ imm12) = _
    unfold decodeArm
    simp only [HAppend.hAppend]
    simp (decide := true) only [decodeLsImm, Append.append, fld_append_high, fld_append_low, fld_whole, bitAt_append_high, bitAt_append_low, bitAt_ofNat, ↓reduceIte, Nat.reduceSub, BitVec.reduceGetLsb, Bool.and_false, h] <;> rfl
  | reg shiftImm ty rm =>
    show decodeArm (cond ++ 0b0111#4 ++ u ++ 0b1#1 ++ w ++ 0b0#1 ++ rn ++ rd ++ shiftImm ++ ty ++ 0b0#1 ++ rm) = _
    unfold decodeArm
    simp only [HAppend.hAppend]
    simp (decide := true) only [decodeLsReg, Append.append, fld_append_high, fld_append_low, fld_whole, bitAt_append_high, bitAt_append_low, bitAt_ofNat, ↓reduceIte, Nat.reduceSub, BitVec.reduceGetLsb, Bool.and_false, h] <;> rfl

theorem RoundTrip.strbPost (cond : BitVec 4) (u : BitVec 1) (rn : BitVec 4) (rd : BitVec 4) (off : Offset2) :
    RoundTrip.Statement (.strbPost cond u rn rd off) := by
  intro hw
  have h := bne_iff_ne.mp hw
  cases off with
  | imm imm12 =>
    show decodeArm (cond ++ 0b0100#4 ++ u ++ 0b100#3 ++ rn ++ rd ++ imm12) = _
    unfold decodeArm
    simp only [HAppend.hAppend]
    simp (decide := true) only [decodeLsImm, Append.append, fld_append_high, fld_append_low, fld_whole, bitAt_append_high, bitAt_append_low, bitAt_ofNat, ↓reduceIte, Nat.reduceSub, BitVec.reduceGetLsb, Bool.and_false, h] <;> rfl
  | reg shiftImm ty rm =>
    show decodeArm (cond ++ 0b0110#4 ++ u ++ 0b100#3 ++ rn ++ rd ++ shiftImm ++ ty ++ 0b0#1 ++ rm) = _
    unfold decodeArm
    simp only [HAppend.hAppend]
    simp (decide := true) only [decodeLsReg, Append.append, fld_append_high, fld_append_low, fld_whole, bitAt_append_high, bitAt_append_low, bitAt_ofNat, ↓reduceIte, Nat.reduceSub, BitVec.reduceGetLsb, Bool.and_false, h] <;> rfl

theorem RoundTrip.strbt (cond : BitVec 4) (u : BitVec 1) (rn : BitVec 4) (rd : BitVec 4) (off : Offset2) :
    RoundTrip.Statement (.strbt cond u rn rd off) := by
  intro hw
  have h := bne_iff_ne.mp hw
  cases off with
  | imm imm12 =>
    show decodeArm (cond ++ 0b0100#4 ++ u ++ 0b110#3 ++ rn ++ rd ++ imm12) = _
    unfold decodeArm
    simp only [HAppend.hAppend]
    simp (decide := true) only [decodeLsImm, Append.append, fld_append_high, fld_append_low, fld_whole, bitAt_append_high, bitAt_append_low, bitAt_ofNat, ↓reduceIte, Nat.reduceSub, BitVec.reduceGetLsb, Bool.and_false, h] <;> rfl
  | reg shiftImm ty rm =>
    show decodeArm (cond ++ 0b0110#4 ++ u ++ 0b110#3 ++ rn ++ rd ++ shiftImm ++ ty ++ 0b0#1 ++ rm) = _
    unfold decodeArm
    simp only [HAppend.hAppend]
    simp (decide := true) only [decodeLsReg, Append.append, fld_append_high, fld_append_low, fld_whole, bitAt_append_high, bitAt_append_low, bitAt_ofNat, ↓reduceIte, Nat.reduceSub, BitVec.reduceGetLsb, Bool.and_false, h] <;> rfl

theorem RoundTrip.undSpace (cond : BitVec 4) (rest : BitVec 20) (low : BitVec 4) :
    RoundTrip.Statement (.undSpace cond rest low) := by
  intro hw
  have h := bne_iff_ne.mp hw
  show decodeArm (cond ++ 0b011#3 ++ rest ++ 0b1#1 ++ low) = _
  unfold decodeArm
  simp only [HAppend.hAppend]
  simp (decide := true) only [Append.append, fld_append_high, fld_append_low, fld_whole, bitAt_append_high, bitAt_append_low, bitAt_ofNat, ↓reduceIte, Nat.reduceSub, BitVec.reduceGetLsb, Bool.and_false, h] <;> rfl

theorem RoundTrip.ldm (cond : BitVec 4) (p : BitVec 1) (u : BitVec 1) (w : BitVec 1) (rn : BitVec 4) (regList : BitVec 16) :
    RoundTrip.Statement (.ldm cond p u w rn regList) := by
  intro hw
  have h := bne_iff_ne.mp hw
  show decodeArm (cond ++ 0b100#3 ++ p ++ u ++ 0b0#1 ++ w ++ 0b1#1 ++ rn ++ regList) = _
  unfold decodeArm
  simp only [HAppend.hAppend]
  simp (decide := true) only [decodeLsm, Append.append, fld_append_high, fld_append_low, fld_whole, bitAt_append_high, bitAt_append_low, bitAt_ofNat, ↓reduceIte, Nat.reduceSub, BitVec.reduceGetLsb, Bool.and_false, h] <;> rfl

theorem RoundTrip.ldmUser (cond : BitVec 4) (p : BitVec 1) (u : BitVec 1) (w : BitVec 1) (rn : BitVec 4) (regList : BitVec 15) :
    RoundTrip.Statement (.ldmUser cond p u w rn regList) := by
  intro hw
  have h := bne_iff_ne.mp hw
  show decodeArm (cond ++ 0b100#3 ++ p ++ u ++ 0b1#1 ++ w ++ 0b1#1 ++ rn ++ 0b0#1 ++ regList) = _
  unfold decodeArm
  simp only [HAppend.hAppend]
  simp (decide := true) only [decodeLsm, Append.append, fld_append_high, fld_append_low, fld_whole, bitAt_append_high, bitAt_append_low, bitAt_ofNat, ↓reduceIte, Nat.reduceSub, BitVec.reduceGetLsb, Bool.and_false, h] <;> rfl

theorem RoundTrip.ldmRestore (cond : BitVec 4) (p : BitVec 1) (u : BitVec 1) (w : BitVec 1) (rn : BitVec 4) (regList : BitVec 15) :
    RoundTrip.Statement (.ldmRestore cond p u w rn regList) := by
  intro hw
  have h := bne_iff_ne.mp hw
  show decodeArm (cond ++ 0b100#3 ++ p ++ u ++ 0b1#1 ++ w ++ 0b1#1 ++ rn ++ 0b1#1 ++ regList) = _
  unfold decodeArm
  simp only [HAppend.hAppend]
  simp (decide := true) only [decodeLsm, Append.append, fld_append_high, fld_append_low, fld_whole, bitAt_append_high, bitAt_append_low, bitAt_ofNat, ↓reduceIte, Nat.reduceSub, BitVec.reduceGetLsb, Bool.and_false, h] <;> rfl

theorem RoundTrip.stm (cond : BitVec 4) (p : BitVec 1) (u : BitVec 1) (w : BitVec 1) (rn : BitVec 4) (regList : BitVec 16) :
    RoundTrip.Statement (.stm cond p u w rn regList) := by
  intro hw
  have h := bne_iff_ne.mp hw
  show decodeArm (cond ++ 0b100#3 ++ p ++ u ++ 0b0#1 ++ w ++ 0b0#1 ++ rn ++ regList) = _
  unfold decodeArm
  simp only [HAppend.hAppend]
  simp (decide := true) only [decodeLsm, Append.append, fld_append_high, fld_append_low, fld_whole, bitAt_append_high, bitAt_append_low, bitAt_ofNat, ↓reduceIte, Nat.reduceSub, BitVec.reduceGetLsb, Bool.and_false, h] <;> rfl

theorem RoundTrip.stmUser (cond : BitVec 4) (p : BitVec 1) (u : BitVec 1) (w : BitVec 1) (rn : BitVec 4) (regList : BitVec 16) :
    RoundTrip.Statement (.stmUser cond p u w rn regList) := by
  intro hw
  have h := bne_iff_ne.mp hw
  show decodeArm (cond ++ 0b100#3 ++ p ++ u ++ 0b1#1 ++ w ++ 0b0#1 ++ rn ++ regList) = _
  unfold decodeArm
  simp only [HAppend.hAppend]
  simp (decide := true) only [decodeLsm, Append.append, fld_append_high, fld_append_low, fld_whole, bitAt_append_high, bitAt_append_low, bitAt_ofNat, ↓reduceIte, Nat.reduceSub, BitVec.reduceGetLsb, Bool.and_false, h] <;> rfl

theorem RoundTrip.b (cond : BitVec 4) (imm24 : BitVec 24) :
    RoundTrip.Statement (.b cond imm24) := by
  intro hw
  have h := bne_iff_ne.mp hw
  show decodeArm (cond ++ 0b1010#4 ++ imm24) = _
  unfold decodeArm
  simp only [HAppend.hAppend]
  simp (decide := true) only [Append.append, fld_append_high, fld_append_low, fld_whole, bitAt_append_high, bitAt_append_low, bitAt_ofNat, ↓reduceIte, Nat.reduceSub, BitVec.reduceGetLsb, Bool.and_false, h] <;> rfl

theorem RoundTrip.bl (cond : BitVec 4) (imm24 : BitVec 24) :
    RoundTrip.Statement (.bl cond imm24) := by
  intro hw
  have h := bne_iff_ne.mp hw
  show decodeArm (cond ++ 0b1011#4 ++ imm24) = _
  unfold decodeArm
  simp only [HAppend.hAppend]
  simp (decide := true) only [Append.append, fld_append_high, fld_append_low, fld_whole, bitAt_append_high, bitAt_append_low, bitAt_ofNat, ↓reduceIte, Nat.reduceSub, BitVec.reduceGetLsb, Bool.and_false, h] <;> rfl

theorem RoundTrip.ldcPre (cond : BitVec 4) (u : BitVec 1) (n : BitVec 1) (w : BitVec 1) (rn : BitVec 4) (crd : BitVec 4) (cpNum : BitVec 4) (imm8 : BitVec 8) :
    RoundTrip.Statement (.ldcPre cond u n w rn crd cpNum imm8) := by
  intro hw
  have h := bne_iff_ne.mp hw
  show decodeArm (cond ++ 0b1101#4 ++ u ++ n ++ w ++ 0b1#1 ++ rn ++ crd ++ cpNum ++ imm8) = _
  unfold decodeArm
  simp only [HAppend.hAppend]
  simp (decide := true) only [decodeLsc, Append.append, fld_append_high, fld_append_low, fld_whole, bitAt_append_high, bitAt_append_low, bitAt_ofNat, ↓reduceIte, Nat.reduceSub, BitVec.reduceGetLsb, Bool.and_false, h] <;> rfl

theorem RoundTrip.ldcUp (cond : BitVec 4) (n : BitVec 1) (w : BitVec 1) (rn : BitVec 4) (crd : BitVec 4) (cpNum : BitVec 4) (imm8 : BitVec 8) :
    RoundTrip.Statement (.ldcUp cond n w rn crd cpNum imm8) := by
  intro hw
  have h := bne_iff_ne.mp hw
  show decodeArm (cond ++ 0b11001#5 ++ n ++ w ++ 0b1#1 ++ rn ++ crd ++ cpNum ++ imm8) = _
  unfold decodeArm
  simp only [HAppend.hAppend]
  simp (decide := true) only [decodeLsc, Append.append, fld_append_high, fld_append_low, fld_whole, bitAt_append_high, bitAt_append_low, bitAt_ofNat, ↓reduceIte, Nat.reduceSub, BitVec.reduceGetLsb, Bool.and_false, h] <;> rfl

theorem RoundTrip.ldcDown (cond : BitVec 4) (n : BitVec 1) (rn : BitVec 4) (crd : BitVec 4) (cpNum : BitVec 4) (imm8 : BitVec 8) :
    RoundTrip.Statement (.ldcDown cond n rn crd cpNum imm8) := by
  intro hw
  have h := bne_iff_ne.mp hw
  show decodeArm (cond ++ 0b11000#5 ++ n ++ 0b11#2 ++ rn ++ crd ++ cpNum ++ imm8) = _
  unfold decodeArm
  simp only [HAppend.hAppend]
  simp (decide := true) only [decodeLsc, Append.append, fld_append_high, fld_append_low, fld_whole, bitAt_append_high, bitAt_append_low, bitAt_ofNat, ↓reduceIte, Nat.reduceSub, BitVec.reduceGetLsb, Bool.and_false, h] <;> rfl

theorem RoundTrip.stcPre (cond : BitVec 4) (u : BitVec 1) (n : BitVec 1) (w : BitVec 1) (rn : BitVec 4) (crd : BitVec 4) (cpNum : BitVec 4) (imm8 : BitVec 8) :
    RoundTrip.Statement (.stcPre cond u n w rn crd cpNum imm8) := by
  intro hw
  have h := bne_iff_ne.mp hw
  show decodeArm (cond ++ 0b1101#4 ++ u ++ n ++ w ++ 0b0#1 ++ rn ++ crd ++ cpNum ++ imm8) = _
  unfold decodeArm
  simp only [HAppend.hAppend]
  simp (decide := true) only [decodeLsc, Append.append, fld_append_high, fld_append_low, fld_whole, bitAt_append_high, bitAt_append_low, bitAt_ofNat, ↓reduceIte, Nat.reduceSub, BitVec.reduceGetLsb, Bool.and_false, h] <;> rfl

theorem RoundTrip.stcUp (cond : BitVec 4) (n : BitVec 1) (w : BitVec 1) (rn : BitVec 4) (crd : BitVec 4) (cpNum : BitVec 4) (imm8 : BitVec 8) :
    RoundTrip.Statement (.stcUp cond n w rn crd cpNum imm8) := by
  intro hw
  have h := bne_iff_ne.mp hw
  show decodeArm (cond ++ 0b11001#5 ++ n ++ w ++ 0b0#1 ++ rn ++ crd ++ cpNum ++ imm8) = _
  unfold decodeArm
  simp only [HAppend.hAppend]
  simp (decide := true) only [decodeLsc, Append.append, fld_append_high, fld_append_low, fld_whole, bitAt_append_high, bitAt_append_low, bitAt_ofNat, ↓reduceIte, Nat.reduceSub, BitVec.reduceGetLsb, Bool.and_false, h] <;> rfl

theorem RoundTrip.stcDown (cond : BitVec 4) (n : BitVec 1) (rn : BitVec 4) (crd : BitVec 4) (cpNum : BitVec 4) (imm8 : BitVec 8) :
    RoundTrip.Statement (.stcDown cond n rn crd cpNum imm8) := by
  intro hw
  have h := bne_iff_ne.mp hw
  show decodeArm (cond ++ 0b11000#5 ++ n ++ 0b10#2 ++ rn ++ crd ++ cpNum ++ imm8) = _
  unfold decodeArm
  simp only [HAppend.hAppend]
  simp (decide := true) only [decodeLsc, Append.append, fld_append_high, fld_append_low, fld_whole, bitAt_append_high, bitAt_append_low, bitAt_ofNat, ↓reduceIte, Nat.reduceSub, BitVec.reduceGetLsb, Bool.and_false, h] <;> rfl

theorem RoundTrip.undCoproc (cond : BitVec 4) (n : BitVec 1) (l : BitVec 1) (rest : BitVec 20) :
    RoundTrip.Statement (.undCoproc cond n l rest) := by
  intro hw
  have h := bne_iff_ne.mp hw
  show decodeArm (cond ++ 0b11000#5 ++ n ++ 0b0#1 ++ l ++ rest) = _
  unfold decodeArm
  simp only [HAppend.hAppend]
  simp (decide := true) only [decodeLsc, Append.append, fld_append_high, fld_append_low, fld_whole, bitAt_append_high, bitAt_append_low, bitAt_ofNat, ↓reduceIte, Nat.reduceSub, BitVec.reduceGetLsb, Bool.and_false, h] <;> rfl

theorem RoundTrip.cdp (cond : BitVec 4) (opcode1 : BitVec 4) (crn : BitVec 4) (crd : BitVec 4) (cpNum : BitVec 4) (opcode2 : BitVec 3) (crm : BitVec 4) :
    RoundTrip.Statement (.cdp cond opcode1 crn crd cpNum opcode2 crm) := by
  intro hw
  have h := bne_iff_ne.mp hw
  show decodeArm (cond ++ 0b1110#4 ++ opcode1 ++ crn ++ crd ++ cpNum ++ opcode2 ++ 0b0#1 ++ crm) = _
  unfold decodeArm
  simp only [HAppend.hAppend]
  simp (decide := true) only [decodeCoproc, Append.append, fld_append_high, fld_append_low, fld_whole, bitAt_append_high, bitAt_append_low, bitAt_ofNat, ↓reduceIte, Nat.reduceSub, BitVec.reduceGetLsb, Bool.and_false, h] <;> rfl

theorem RoundTrip.mcr (cond : BitVec 4) (opcode1 : BitVec 3) (crn : BitVec 4) (rd : BitVec 4) (cpNum : BitVec 4) (opcode2 : BitVec 3) (crm : BitVec 4) :
    RoundTrip.Statement (.mcr cond opcode1 crn rd cpNum opcode2 crm) := by
  intro hw
  obtain ⟨hc, hg⟩ := Bool.and_eq_true_iff.mp hw
  have h := bne_iff_ne.mp hc
  show decodeArm (cond ++ 0b1110#4 ++ opcode1 ++ 0b0#1 ++ crn ++ rd ++ cpNum ++ opcode2 ++ 0b1#1 ++ crm) = _
  unfold decodeArm
  simp only [HAppend.hAppend]
  simp (decide := true) only [decodeCoproc, Append.append, fld_append_high, fld_append_low, fld_whole, bitAt_append_high, bitAt_append_low, bitAt_ofNat, ↓reduceIte, Nat.reduceSub, BitVec.reduceGetLsb, Bool.and_false, h, hg] <;> rfl

theorem RoundTrip.mrc (cond : BitVec 4) (opcode1 : BitVec 3) (crn : BitVec 4) (rd : BitVec 4) (cpNum : BitVec 4) (opcode2 : BitVec 3) (crm : BitVec 4) :
    RoundTrip.Statement (.mrc cond opcode1 crn rd cpNum opcode2 crm) := by
  intro hw
  obtain ⟨hc, hg⟩ := Bool.and_eq_true_iff.mp hw
  have h := bne_iff_ne.mp hc
  show decodeArm (cond ++ 0b1110#4 ++ opcode1 ++ 0b1#1 ++ crn ++ rd ++ cpNum ++ opcode2 ++ 0b1#1 ++ crm) = _
  unfold decodeArm
  simp only [HAppend.hAppend]
  simp (decide := true) only [decodeCoproc, Append.append, fld_append_high, fld_append_low, fld_whole, bitAt_append_high, bitAt_append_low, bitAt_ofNat, ↓reduceIte, Nat.reduceSub, BitVec.reduceGetLsb, Bool.and_false, h, hg] <;> rfl

theorem RoundTrip.swi (cond : BitVec 4) (imm24 : BitVec 24) :
    RoundTrip.Statement (.swi cond imm24) := by
  intro hw
  have h := bne_iff_ne.mp hw
  show decodeArm (cond ++ 0b1111#4 ++ imm24) = _
  unfold decodeArm
  simp only [HAppend.hAppend]
  simp (decide := true) only [decodeCoproc, Append.append, fld_append_high, fld_append_low, fld_whole, bitAt_append_high, bitAt_append_low, bitAt_ofNat, ↓reduceIte, Nat.reduceSub, BitVec.reduceGetLsb, Bool.and_false, h] <;> rfl

theorem RoundTrip.mrcP15c0c0o0 (cond : BitVec 4) (rd : BitVec 4) :
    RoundTrip.Statement (.mrcP15c0c0o0 cond rd) := by
  intro hw
  show decodeArm (cond ++ 0b111000010000#12 ++ rd ++ 0b111100010000#12) = _
  rw [transfer_decode _ _ _ _ (bne_iff_ne.mp hw) (by decide) (by decide)]
  show decodeMrc15 _ = _
  obtain ⟨h28, h12, h16, -, -, h5, h0⟩ := transfer_fields cond rd 0b111000010000#12 0b111100010000#12
  unfold decodeMrc15
  rw [h28, h12, h16, h5, h0]
  rfl

theorem RoundTrip.mrcP15c0c0o2 (cond : BitVec 4) (rd : BitVec 4) :
    RoundTrip.Statement (.mrcP15c0c0o2 cond rd) := by
  intro hw
  show decodeArm (cond ++ 0b111000010000#12 ++ rd ++ 0b111101010000#12) = _
  rw [transfer_decode _ _ _ _ (bne_iff_ne.mp hw) (by decide) (by decide)]
  show decodeMrc15 _ = _
  obtain ⟨h28, h12, h16, -, -, h5, h0⟩ := transfer_fields cond rd 0b111000010000#12 0b111101010000#12
  unfold decodeMrc15
  rw [h28, h12, h16, h5, h0]
  rfl

theorem RoundTrip.mrcP15c0c0o3 (cond : BitVec 4) (rd : BitVec 4) :
    RoundTrip.Statement (.mrcP15c0c0o3 cond rd) := by
  intro hw
  show decodeArm (cond ++ 0b111000010000#12 ++ rd ++ 0b111101110000#12) = _
  rw [transfer_decode _ _ _ _ (bne_iff_ne.mp hw) (by decide) (by decide)]
  show decodeMrc15 _ = _
  obtain ⟨h28, h12, h16, -, -, h5, h0⟩ := transfer_fields cond rd 0b111000010000#12 0b111101110000#12
  unfold decodeMrc15
  rw [h28, h12, h16, h5, h0]
  rfl

theorem RoundTrip.mrcP15c0c0o4 (cond : BitVec 4) (rd : BitVec 4) :
    RoundTrip.Statement (.mrcP15c0c0o4 cond rd) := by
  intro hw
  show decodeArm (cond ++ 0b111000010000#12 ++ rd ++ 0b111110010000#12) = _
  rw [transfer_decode _ _ _ _ (bne_iff_ne.mp hw) (by decide) (by decide)]
  show decodeMrc15 _ = _
  obtain ⟨h28, h12, h16, -, -, h5, h0⟩ := transfer_fields cond rd 0b111000010000#12 0b111110010000#12
  unfold decodeMrc15
  rw [h28, h12, h16, h5, h0]
  rfl

theorem RoundTrip.mrcP15c0c0o5 (cond : BitVec 4) (rd : BitVec 4) :
    RoundTrip.Statement (.mrcP15c0c0o5 cond rd) := by
  intro hw
  show decodeArm (cond ++ 0b111000010000#12 ++ rd ++ 0b111110110000#12) = _
  rw [transfer_decode _ _ _ _ (bne_iff_ne.mp hw) (by decide) (by decide)]
  show decodeMrc15 _ = _
  obtain ⟨h28, h12, h16, -, -, h5, h0⟩ := transfer_fields cond rd 0b111000010000#12 0b111110110000#12
  unfold decodeMrc15
  rw [h28, h12, h16, h5, h0]
  rfl

theorem RoundTrip.mrcP15c0c0o6 (cond : BitVec 4) (rd : BitVec 4) :
    RoundTrip.Statement (.mrcP15c0c0o6 cond rd) := by
  intro hw
  show decodeArm (cond ++ 0b111000010000#12 ++ rd ++ 0b111111010000#12) = _
  rw [transfer_decode _ _ _ _ (bne_iff_ne.mp hw) (by decide) (by decide)]
  show decodeMrc15 _ = _
  obtain ⟨h28, h12, h16, -, -, h5, h0⟩ := transfer_fields cond rd 0b111000010000#12 0b111111010000#12
  unfold decodeMrc15
  rw [h28, h12, h16, h5, h0]
  rfl

theorem RoundTrip.mrcP15c0c0o7 (cond : BitVec 4) (rd : BitVec 4) :
    RoundTrip.Statement (.mrcP15c0c0o7 cond rd) := by
  intro hw
  show decodeArm (cond ++ 0b111000010000#12 ++ rd ++ 0b111111110000#12) = _
  rw [transfer_decode _ _ _ _ (bne_iff_ne.mp hw) (by decide) (by decide)]
  show decodeMrc15 _ = _
  obtain ⟨h28, h12, h16, -, -, h5, h0⟩ := transfer_fields cond rd 0b111000010000#12 0b111111110000#12
  unfold decodeMrc15
  rw [h28, h12, h16, h5, h0]
  rfl

theorem RoundTrip.mrcP15c0c0o1 (cond : BitVec 4) (rd : BitVec 4) :
    RoundTrip.Statement (.mrcP15c0c0o1 cond rd) := by
  intro hw
  show decodeArm (cond ++ 0b111000010000#12 ++ rd ++ 0b111100110000#12) = _
  rw [transfer_decode _ _ _ _ (bne_iff_ne.mp hw) (by decide) (by decide)]
  show decodeMrc15 _ = _
  obtain ⟨h28, h12, h16, -, -, h5, h0⟩ := transfer_fields cond rd 0b111000010000#12 0b111100110000#12
  unfold decodeMrc15
  rw [h28, h12, h16, h5, h0]
  rfl

theorem RoundTrip.mrcP15c1c0o0 (cond : BitVec 4) (rd : BitVec 4) :
    RoundTrip.Statement (.mrcP15c1c0o0 cond rd) := by
  intro hw
  show decodeArm (cond ++ 0b111000010001#12 ++ rd ++ 0b111100010000#12) = _
  rw [transfer_decode _ _ _ _ (bne_iff_ne.mp hw) (by decide) (by decide)]
  show decodeMrc15 _ = _
  obtain ⟨h28, h12, h16, -, -, h5, h0⟩ := transfer_fields cond rd 0b111000010001#12 0b111100010000#12
  unfold decodeMrc15
  rw [h28, h12, h16, h5, h0]
  rfl

theorem RoundTrip.mrcP15c2c0o0 (cond : BitVec 4) (rd : BitVec 4) :
    RoundTrip.Statement (.mrcP15c2c0o0 cond rd) := by
  intro hw
  show decodeArm (cond ++ 0b111000010010#12 ++ rd ++ 0b111100010000#12) = _
  rw [transfer_decode _ _ _ _ (bne_iff_ne.mp hw) (by decide) (by decide)]
  show decodeMrc15 _ = _
  obtain ⟨h28, h12, h16, -, -, h5, h0⟩ := transfer_fields cond rd 0b111000010010#12 0b111100010000#12
  unfold decodeMrc15
  rw [h28, h12, h16, h5, h0]
  rfl

theorem RoundTrip.mrcP15c2c0o1 (cond : BitVec 4) (rd : BitVec 4) :
    RoundTrip.Statement (.mrcP15c2c0o1 cond rd) := by
  intro hw
  show decodeArm (cond ++ 0b111000010010#12 ++ rd ++ 0b111100110000#12) = _
  rw [transfer_decode _ _ _ _ (bne_iff_ne.mp hw) (by decide) (by decide)]
  show decodeMrc15 _ = _
  obtain ⟨h28, h12, h16, -, -, h5, h0⟩ := transfer_fields cond rd 0b111000010010#12 0b111100110000#12
  unfold decodeMrc15
  rw [h28, h12, h16, h5, h0]
  rfl

theorem RoundTrip.mrcP15c3c0o0 (cond : BitVec 4) (rd : BitVec 4) :
    RoundTrip.Statement (.mrcP15c3c0o0 cond rd) := by
  intro hw
  show decodeArm (cond ++ 0b111000010011#12 ++ rd ++ 0b111100010000#12) = _
  rw [transfer_decode _ _ _ _ (bne_iff_ne.mp hw) (by decide) (by decide)]
  show decodeMrc15 _ = _
  obtain ⟨h28, h12, h16, -, -, h5, h0⟩ := transfer_fields cond rd 0b111000010011#12 0b111100010000#12
  unfold decodeMrc15
  rw [h28, h12, h16, h5, h0]
  rfl

theorem RoundTrip.mrcP15c5c0o0 (cond : BitVec 4) (rd : BitVec 4) :
    RoundTrip.Statement (.mrcP15c5c0o0 cond rd) := by
  intro hw
  show decodeArm (cond ++ 0b111000010101#12 ++ rd ++ 0b111100010000#12) = _
  rw [transfer_decode _ _ _ _ (bne_iff_ne.mp hw) (by decide) (by decide)]
  show decodeMrc15 _ = _
  obtain ⟨h28, h12, h16, -, -, h5, h0⟩ := transfer_fields cond rd 0b111000010101#12 0b111100010000#12
  unfold decodeMrc15
  rw [h28, h12, h16, h5, h0]
  rfl

theorem RoundTrip.mrcP15c5c0o1 (cond : BitVec 4) (rd : BitVec 4) :
    RoundTrip.Statement (.mrcP15c5c0o1 cond rd) := by
  intro hw
  show decodeArm (cond ++ 0b111000010101#12 ++ rd ++ 0b111100110000#12) = _
  rw [transfer_decode _ _ _ _ (bne_iff_ne.mp hw) (by decide) (by decide)]
  show decodeMrc15 _ = _
  obtain ⟨h28, h12, h16, -, -, h5, h0⟩ := transfer_fields cond rd 0b111000010101#12 0b111100110000#12
  unfold decodeMrc15
  rw [h28, h12, h16, h5, h0]
  rfl

theorem RoundTrip.mrcP15c6c0o0 (cond : BitVec 4) (rd : BitVec 4) :
    RoundTrip.Statement (.mrcP15c6c0o0 cond rd) := by
  intro hw
  show decodeArm (cond ++ 0b111000010110#12 ++ rd ++ 0b111100010000#12) = _
  rw [transfer_decode _ _ _ _ (bne_iff_ne.mp hw) (by decide) (by decide)]
  show decodeMrc15 _ = _
  obtain ⟨h28, h12, h16, -, -, h5, h0⟩ := transfer_fields cond rd 0b111000010110#12 0b111100010000#12
  unfold decodeMrc15
  rw [h28, h12, h16, h5, h0]
  rfl

theorem RoundTrip.mrcP15c6c0o1 (cond : BitVec 4) (rd : BitVec 4) :
    RoundTrip.Statement (.mrcP15c6c0o1 cond rd) := by
  intro hw
  show decodeArm (cond ++ 0b111000010110#12 ++ rd ++ 0b111100110000#12) = _
  rw [transfer_decode _ _ _ _ (bne_iff_ne.mp hw) (by decide) (by decide)]
  show decodeMrc15 _ = _
  obtain ⟨h28, h12, h16, -, -, h5, h0⟩ := transfer_fields cond rd 0b111000010110#12 0b111100110000#12
  unfold decodeMrc15
  rw [h28, h12, h16, h5, h0]
  rfl

theorem RoundTrip.mrcP15c6c1o0 (cond : BitVec 4) (rd : BitVec 4) :
    RoundTrip.Statement (.mrcP15c6c1o0 cond rd) := by
  intro hw
  show decodeArm (cond ++ 0b111000010110#12 ++ rd ++ 0b111100010001#12) = _
  rw [transfer_decode _ _ _ _ (bne_iff_ne.mp hw) (by decide) (by decide)]
  show decodeMrc15 _ = _
  obtain ⟨h28, h12, h16, -, -, h5, h0⟩ := transfer_fields cond rd 0b111000010110#12 0b111100010001#12
  unfold decodeMrc15
  rw [h28, h12, h16, h5, h0]
  rfl

theorem RoundTrip.mrcP15c6c1o1 (cond : BitVec 4) (rd : BitVec 4) :
    RoundTrip.Statement (.mrcP15c6c1o1 cond rd) := by
  intro hw
  show decodeArm (cond ++ 0b111000010110#12 ++ rd ++ 0b111100110001#12) = _
  rw [transfer_decode _ _ _ _ (bne_iff_ne.mp hw) (by decide) (by decide)]
  show decodeMrc15 _ = _
  obtain ⟨h28, h12, h16, -, -, h5, h0⟩ := transfer_fields cond rd 0b111000010110#12 0b111100110001#12
  unfold decodeMrc15
  rw [h28, h12, h16, h5, h0]
  rfl

theorem RoundTrip.mrcP15c6c2o0 (cond : BitVec 4) (rd : BitVec 4) :
    RoundTrip.Statement (.mrcP15c6c2o0 cond rd) := by
  intro hw
  show decodeArm (cond ++ 0b111000010110#12 ++ rd ++ 0b111100010010#12) = _
  rw [transfer_decode _ _ _ _ (bne_iff_ne.mp hw) (by decide) (by decide)]
  show decodeMrc15 _ = _
  obtain ⟨h28, h12, h16, -, -, h5, h0⟩ := transfer_fields cond rd 0b111000010110#12 0b111100010010#12
  unfold decodeMrc15
  rw [h28, h12, h16, h5, h0]
  rfl

theorem RoundTrip.mrcP15c6c2o1 (cond : BitVec 4) (rd : BitVec 4) :
    RoundTrip.Statement (.mrcP15c6c2o1 cond rd) := by
  intro hw
  show decodeArm (cond ++ 0b111000010110#12 ++ rd ++ 0b111100110010#12) = _
  rw [transfer_decode _ _ _ _ (bne_iff_ne.mp hw) (by decide) (by decide)]
  show decodeMrc15 _ = _
  obtain ⟨h28, h12, h16, -, -, h5, h0⟩ := transfer_fields cond rd 0b111000010110#12 0b111100110010#12
  unfold decodeMrc15
  rw [h28, h12, h16, h5, h0]
  rfl

theorem RoundTrip.mrcP15c6c3o0 (cond : BitVec 4) (rd : BitVec 4) :
    RoundTrip.Statement (.mrcP15c6c3o0 cond rd) := by
  intro hw
  show decodeArm (cond ++ 0b111000010110#12 ++ rd ++ 0b111100010011#12) = _
  rw [transfer_decode _ _ _ _ (bne_iff_ne.mp hw) (by decide) (by decide)]
  show decodeMrc15 _ = _
  obtain ⟨h28, h12, h16, -, -, h5, h0⟩ := transfer_fields cond rd 0b111000010110#12 0b111100010011#12
  unfold decodeMrc15
  rw [h28, h12, h16, h5, h0]
  rfl

theorem RoundTrip.mrcP15c6c3o1 (cond : BitVec 4) (rd : BitVec 4) :
    RoundTrip.Statement (.mrcP15c6c3o1 cond rd) := by
  intro hw
  show decodeArm (cond ++ 0b111000010110#12 ++ rd ++ 0b111100110011#12) = _
  rw [transfer_decode _ _ _ _ (bne_iff_ne.mp hw) (by decide) (by decide)]
  show decodeMrc15 _ = _
  obtain ⟨h28, h12, h16, -, -, h5, h0⟩ := transfer_fields cond rd 0b111000010110#12 0b111100110011#12
  unfold decodeMrc15
  rw [h28, h12, h16, h5, h0]
  rfl

theorem RoundTrip.mrcP15c6c4o0 (cond : BitVec 4) (rd : BitVec 4) :
    RoundTrip.Statement (.mrcP15c6c4o0 cond rd) := by
  intro hw
  show decodeArm (cond ++ 0b111000010110#12 ++ rd ++ 0b111100010100#12) = _
  rw [transfer_decode _ _ _ _ (bne_iff_ne.mp hw) (by decide) (by decide)]
  show decodeMrc15 _ = _
  obtain ⟨h28, h12, h16, -, -, h5, h0⟩ := transfer_fields cond rd 0b111000010110#12 0b111100010100#12
  unfold decodeMrc15
  rw [h28, h12, h16, h5, h0]
  rfl

theorem RoundTrip.mrcP15c6c4o1 (cond : BitVec 4) (rd : BitVec 4) :
    RoundTrip.Statement (.mrcP15c6c4o1 cond rd) := by
  intro hw
  show decodeArm (cond ++ 0b111000010110#12 ++ rd ++ 0b111100110100#12) = _
  rw [transfer_decode _ _ _ _ (bne_iff_ne.mp hw) (by decide) (by decide)]
  show decodeMrc15 _ = _
  obtain ⟨h28, h12, h16, -, -, h5, h0⟩ := transfer_fields cond rd 0b111000010110#12 0b111100110100#12
  unfold decodeMrc15
  rw [h28, h12, h16, h5, h0]
  rfl

theorem RoundTrip.mrcP15c6c5o0 (cond : BitVec 4) (rd : BitVec 4) :
    RoundTrip.Statement (.mrcP15c6c5o0 cond rd) := by
  intro hw
  show decodeArm (cond ++ 0b111000010110#12 ++ rd ++ 0b111100010101#12) = _
  rw [transfer_decode _ _ _ _ (bne_iff_ne.mp hw) (by decide) (by decide)]
  show decodeMrc15 _ = _
  obtain ⟨h28, h12, h16, -, -, h5, h0⟩ := transfer_fields cond rd 0b111000010110#12 0b111100010101#12
  unfold decodeMrc15
  rw [h28, h12, h16, h5, h0]
  rfl

theorem RoundTrip.mrcP15c6c5o1 (cond : BitVec 4) (rd : BitVec 4) :
    RoundTrip.Statement (.mrcP15c6c5o1 cond rd) := by
  intro hw
  show decodeArm (cond ++ 0b111000010110#12 ++ rd ++ 0b111100110101#12) = _
  rw [transfer_decode _ _ _ _ (bne_iff_ne.mp hw) (by decide) (by decide)]
  show decodeMrc15 _ = _
  obtain ⟨h28, h12, h16, -, -, h5, h0⟩ := transfer_fields cond rd 0b111000010110#12 0b111100110101#12
  unfold decodeMrc15
  rw [h28, h12, h16, h5, h0]
  rfl

theorem RoundTrip.mrcP15c6c6o0 (cond : BitVec 4) (rd : BitVec 4) :
    RoundTrip.Statement (.mrcP15c6c6o0 cond rd) := by
  intro hw
  show decodeArm (cond ++ 0b111000010110#12 ++ rd ++ 0b111100010110#12) = _
  rw [transfer_decode _ _ _ _ (bne_iff_ne.mp hw) (by decide) (by decide)]
  show decodeMrc15 _ = _
  obtain ⟨h28, h12, h16, -, -, h5, h0⟩ := transfer_fields cond rd 0b111000010110#12 0b111100010110#12
  unfold decodeMrc15
  rw [h28, h12, h16, h5, h0]
  rfl

theorem RoundTrip.mrcP15c6c6o1 (cond : BitVec 4) (rd : BitVec 4) :
    RoundTrip.Statement (.mrcP15c6c6o1 cond rd) := by
  intro hw
  show decodeArm (cond ++ 0b111000010110#12 ++ rd ++ 0b111100110110#12) = _
  rw [transfer_decode _ _ _ _ (bne_iff_ne.mp hw) (by decide) (by decide)]
  show decodeMrc15 _ = _
  obtain ⟨h28, h12, h16, -, -, h5, h0⟩ := transfer_fields cond rd 0b111000010110#12 0b111100110110#12
  unfold decodeMrc15
  rw [h28, h12, h16, h5, h0]
  rfl

theorem RoundTrip.mrcP15c6c7o0 (cond : BitVec 4) (rd : BitVec 4) :
    RoundTrip.Statement (.mrcP15c6c7o0 cond rd) := by
  intro hw
  show decodeArm (cond ++ 0b111000010110#12 ++ rd ++ 0b111100010111#12) = _
  rw [transfer_decode _ _ _ _ (bne_iff_ne.mp hw) (by decide) (by decide)]
  show decodeMrc15 _ = _
  obtain ⟨h28, h12, h16, -, -, h5, h0⟩ := transfer_fields cond rd 0b111000010110#12 0b111100010111#12
  unfold decodeMrc15
  rw [h28, h12, h16, h5, h0]
  rfl

theorem RoundTrip.mrcP15c6c7o1 (cond : BitVec 4) (rd : BitVec 4) :
    RoundTrip.Statement (.mrcP15c6c7o1 cond rd) := by
  intro hw
  show decodeArm (cond ++ 0b111000010110#12 ++ rd ++ 0b111100110111#12) = _
  rw [transfer_decode _ _ _ _ (bne_iff_ne.mp hw) (by decide) (by decide)]
  show decodeMrc15 _ = _
  obtain ⟨h28, h12, h16, -, -, h5, h0⟩ := transfer_fields cond rd 0b111000010110#12 0b111100110111#12
  unfold decodeMrc15
  rw [h28, h12, h16, h5, h0]
  rfl

theorem RoundTrip.mrcP15c9c0o0 (cond : BitVec 4) (rd : BitVec 4) :
    RoundTrip.Statement (.mrcP15c9c0o0 cond rd) := by
  intro hw
  show decodeArm (cond ++ 0b111000011001#12 ++ rd ++ 0b111100010000#12) = _
  rw [transfer_decode _ _ _ _ (bne_iff_ne.mp hw) (by decide) (by decide)]
  show decodeMrc15 _ = _
  obtain ⟨h28, h12, h16, -, -, h5, h0⟩ := transfer_fields cond rd 0b111000011001#12 0b111100010000#12
  unfold decodeMrc15
  rw [h28, h12, h16, h5, h0]
  rfl

theorem RoundTrip.mrcP15c9c0o1 (cond : BitVec 4) (rd : BitVec 4) :
    RoundTrip.Statement (.mrcP15c9c0o1 cond rd) := by
  intro hw
  show decodeArm (cond ++ 0b111000011001#12 ++ rd ++ 0b111100110000#12) = _
  rw [transfer_decode _ _ _ _ (bne_iff_ne.mp hw) (by decide) (by decide)]
  show decodeMrc15 _ = _
  obtain ⟨h28, h12, h16, -, -, h5, h0⟩ := transfer_fields cond rd 0b111000011001#12 0b111100110000#12
  unfold decodeMrc15
  rw [h28, h12, h16, h5, h0]
  rfl

theorem RoundTrip.mrcP15c15c0o0 (cond : BitVec 4) (rd : BitVec 4) :
    RoundTrip.Statement (.mrcP15c15c0o0 cond rd) := by
  intro hw
  show decodeArm (cond ++ 0b111000011111#12 ++ rd ++ 0b111100010000#12) = _
  rw [transfer_decode _ _ _ _ (bne_iff_ne.mp hw) (by decide) (by decide)]
  show decodeMrc15 _ = _
  obtain ⟨h28, h12, h16, -, -, h5, h0⟩ := transfer_fields cond rd 0b111000011111#12 0b111100010000#12
  unfold decodeMrc15
  rw [h28, h12, h16, h5, h0]
  rfl

theorem RoundTrip.mcrP15c1c0o0 (cond : BitVec 4) (rd : BitVec 4) :
    RoundTrip.Statement (.mcrP15c1c0o0 cond rd) := by
  intro hw
  show decodeArm (cond ++ 0b111000000001#12 ++ rd ++ 0b111100010000#12) = _
  rw [transfer_decode _ _ _ _ (bne_iff_ne.mp hw) (by decide) (by decide)]
  show decodeMcr15 _ = _
  obtain ⟨h28, h12, h16, -, -, h5, h0⟩ := transfer_fields cond rd 0b111000000001#12 0b111100010000#12
  unfold decodeMcr15
  rw [h28, h12, h16, h5, h0]
  rfl

theorem RoundTrip.mcrP15c2c0o0 (cond : BitVec 4) (rd : BitVec 4) :
    RoundTrip.Statement (.mcrP15c2c0o0 cond rd) := by
  intro hw
  show decodeArm (cond ++ 0b111000000010#12 ++ rd ++ 0b111100010000#12) = _
  rw [transfer_decode _ _ _ _ (bne_iff_ne.mp hw) (by decide) (by decide)]
  show decodeMcr15 _ = _
  obtain ⟨h28, h12, h16, -, -, h5, h0⟩ := transfer_fields cond rd 0b111000000010#12 0b111100010000#12
  unfold decodeMcr15
  rw [h28, h12, h16, h5, h0]
  rfl

theorem RoundTrip.mcrP15c2c0o1 (cond : BitVec 4) (rd : BitVec 4) :
    RoundTrip.Statement (.mcrP15c2c0o1 cond rd) := by
  intro hw
  show decodeArm (cond ++ 0b111000000010#12 ++ rd ++ 0b111100110000#12) = _
  rw [transfer_decode _ _ _ _ (bne_iff_ne.mp hw) (by decide) (by decide)]
  show decodeMcr15 _ = _
  obtain ⟨h28, h12, h16, -, -, h5, h0⟩ := transfer_fields cond rd 0b111000000010#12 0b111100110000#12
  unfold decodeMcr15
  rw [h28, h12, h16, h5, h0]
  rfl

theorem RoundTrip.mcrP15c3c0o0 (cond : BitVec 4) (rd : BitVec 4) :
    RoundTrip.Statement (.mcrP15c3c0o0 cond rd) := by
  intro hw
  show decodeArm (cond ++ 0b111000000011#12 ++ rd ++ 0b111100010000#12) = _
  rw [transfer_decode _ _ _ _ (bne_iff_ne.mp hw) (by decide) (by decide)]
  show decodeMcr15 _ = _
  obtain ⟨h28, h12, h16, -, -, h5, h0⟩ := transfer_fields cond rd 0b111000000011#12 0b111100010000#12
  unfold decodeMcr15
  rw [h28, h12, h16, h5, h0]
  rfl

theorem RoundTrip.mcrP15c5c0o0 (cond : BitVec 4) (rd : BitVec 4) :
    RoundTrip.Statement (.mcrP15c5c0o0 cond rd) := by
  intro hw
  show decodeArm (cond ++ 0b111000000101#12 ++ rd ++ 0b111100010000#12) = _
  rw [transfer_decode _ _ _ _ (bne_iff_ne.mp hw) (by decide) (by decide)]
  show decodeMcr15 _ = _
  obtain ⟨h28, h12, h16, -, -, h5, h0⟩ := transfer_fields cond rd 0b111000000101#12 0b111100010000#12
  unfold decodeMcr15
  rw [h28, h12, h16, h5, h0]
  rfl

theorem RoundTrip.mcrP15c5c0o1 (cond : BitVec 4) (rd : BitVec 4) :
    RoundTrip.Statement (.mcrP15c5c0o1 cond rd) := by
  intro hw
  show decodeArm (cond ++ 0b111000000101#12 ++ rd ++ 0b111100110000#12) = _
  rw [transfer_decode _ _ _ _ (bne_iff_ne.mp hw) (by decide) (by decide)]
  show decodeMcr15 _ = _
  obtain ⟨h28, h12, h16, -, -, h5, h0⟩ := transfer_fields cond rd 0b111000000101#12 0b111100110000#12
  unfold decodeMcr15
  rw [h28, h12, h16, h5, h0]
  rfl

theorem RoundTrip.mcrP15c6c0o0 (cond : BitVec 4) (rd : BitVec 4) :
    RoundTrip.Statement (.mcrP15c6c0o0 cond rd) := by
  intro hw
  show decodeArm (cond ++ 0b111000000110#12 ++ rd ++ 0b111100010000#12) = _
  rw [transfer_decode _ _ _ _ (bne_iff_ne.mp hw) (by decide) (by decide)]
  show decodeMcr15 _ = _
  obtain ⟨h28, h12, h16, -, -, h5, h0⟩ := transfer_fields cond rd 0b111000000110#12 0b111100010000#12
  unfold decodeMcr15
  rw [h28, h12, h16, h5, h0]
  rfl

theorem RoundTrip.mcrP15c6c0o1 (cond : BitVec 4) (rd : BitVec 4) :
    RoundTrip.Statement (.mcrP15c6c0o1 cond rd) := by
  intro hw
  show decodeArm (cond ++ 0b111000000110#12 ++ rd ++ 0b111100110000#12) = _
  rw [transfer_decode _ _ _ _ (bne_iff_ne.mp hw) (by decide) (by decide)]
  show decodeMcr15 _ = _
  obtain ⟨h28, h12, h16, -, -, h5, h0⟩ := transfer_fields cond rd 0b111000000110#12 0b111100110000#12
  unfold decodeMcr15
  rw [h28, h12, h16, h5, h0]
  rfl

theorem RoundTrip.mcrP15c6c1o0 (cond : BitVec 4) (rd : BitVec 4) :
    RoundTrip.Statement (.mcrP15c6c1o0 cond rd) := by
  intro hw
  show decodeArm (cond ++ 0b111000000110#12 ++ rd ++ 0b111100010001#12) = _
  rw [transfer_decode _ _ _ _ (bne_iff_ne.mp hw) (by decide) (by decide)]
  show decodeMcr15 _ = _
  obtain ⟨h28, h12, h16, -, -, h5, h0⟩ := transfer_fields cond rd 0b111000000110#12 0b111100010001#12
  unfold decodeMcr15
  rw [h28, h12, h16, h5, h0]
  rfl

theorem RoundTrip.mcrP15c6c1o1 (cond : BitVec 4) (rd : BitVec 4) :
    RoundTrip.Statement (.mcrP15c6c1o1 cond rd) := by
  intro hw
  show decodeArm (cond ++ 0b111000000110#12 ++ rd ++ 0b111100110001#12) = _
  rw [transfer_decode _ _ _ _ (bne_iff_ne.mp hw) (by decide) (by decide)]
  show decodeMcr15 _ = _
  obtain ⟨h28, h12, h16, -, -, h5, h0⟩ := transfer_fields cond rd 0b111000000110#12 0b111100110001#12
  unfold decodeMcr15
  rw [h28, h12, h16, h5, h0]
  rfl

theorem RoundTrip.mcrP15c6c2o0 (cond : BitVec 4) (rd : BitVec 4) :
    RoundTrip.Statement (.mcrP15c6c2o0 cond rd) := by
  intro hw
  show decodeArm (cond ++ 0b111000000110#12 ++ rd ++ 0b111100010010#12) = _
  rw [transfer_decode _ _ _ _ (bne_iff_ne.mp hw) (by decide) (by decide)]
  show decodeMcr15 _ = _
  obtain ⟨h28, h12, h16, -, -, h5, h0⟩ := transfer_fields cond rd 0b111000000110#12 0b111100010010#12
  unfold decodeMcr15
  rw [h28, h12, h16, h5, h0]
  rfl

theorem RoundTrip.mcrP15c6c2o1 (cond : BitVec 4) (rd : BitVec 4) :
    RoundTrip.Statement (.mcrP15c6c2o1 cond rd) := by
  intro hw
  show decodeArm (cond ++ 0b111000000110#12 ++ rd ++ 0b111100110010#12) = _
  rw [transfer_decode _ _ _ _ (bne_iff_ne.mp hw) (by decide) (by decide)]
  show decodeMcr15 _ = _
  obtain ⟨h28, h12, h16, -, -, h5, h0⟩ := transfer_fields cond rd 0b111000000110#12 0b111100110010#12
  unfold decodeMcr15
  rw [h28, h12, h16, h5, h0]
  rfl

theorem RoundTrip.mcrP15c6c3o0 (cond : BitVec 4) (rd : BitVec 4) :
    RoundTrip.Statement (.mcrP15c6c3o0 cond rd) := by
  intro hw
  show decodeArm (cond ++ 0b111000000110#12 ++ rd ++ 0b111100010011#12) = _
  rw [transfer_decode _ _ _ _ (bne_iff_ne.mp hw) (by decide) (by decide)]
  show decodeMcr15 _ = _
  obtain ⟨h28, h12, h16, -, -, h5, h0⟩ := transfer_fields cond rd 0b111000000110#12 0b111100010011#12
  unfold decodeMcr15
  rw [h28, h12, h16, h5, h0]
  rfl

theorem RoundTrip.mcrP15c6c3o1 (cond : BitVec 4) (rd : BitVec 4) :
    RoundTrip.Statement (.mcrP15c6c3o1 cond rd) := by
  intro hw
  show decodeArm (cond ++ 0b111000000110#12 ++ rd ++ 0b111100110011#12) = _
  rw [transfer_decode _ _ _ _ (bne_iff_ne.mp hw) (by decide) (by decide)]
  show decodeMcr15 _ = _
  obtain ⟨h28, h12, h16, -, -, h5, h0⟩ := transfer_fields cond rd 0b111000000110#12 0b111100110011#12
  unfold decodeMcr15
  rw [h28, h12, h16, h5, h0]
  rfl

theorem RoundTrip.mcrP15c6c4o0 (cond : BitVec 4) (rd : BitVec 4) :
    RoundTrip.Statement (.mcrP15c6c4o0 cond rd) := by
  intro hw
  show decodeArm (cond ++ 0b111000000110#12 ++ rd ++ 0b111100010100#12) = _
  rw [transfer_decode _ _ _ _ (bne_iff_ne.mp hw) (by decide) (by decide)]
  show decodeMcr15 _ = _
  obtain ⟨h28, h12, h16, -, -, h5, h0⟩ := transfer_fields cond rd 0b111000000110#12 0b111100010100#12
  unfold decodeMcr15
  rw [h28, h12, h16, h5, h0]
  rfl

theorem RoundTrip.mcrP15c6c4o1 (cond : BitVec 4) (rd : BitVec 4) :
    RoundTrip.Statement (.mcrP15c6c4o1 cond rd) := by
  intro hw
  show decodeArm (cond ++ 0b111000000110#12 ++ rd ++ 0b111100110100#12) = _
  rw [transfer_decode _ _ _ _ (bne_iff_ne.mp hw) (by decide) (by decide)]
  show decodeMcr15 _ = _
  obtain ⟨h28, h12, h16, -, -, h5, h0⟩ := transfer_fields cond rd 0b111000000110#12 0b111100110100#12
  unfold decodeMcr15
  rw [h28, h12, h16, h5, h0]
  rfl

theorem RoundTrip.mcrP15c6c5o0 (cond : BitVec 4) (rd : BitVec 4) :
    RoundTrip.Statement (.mcrP15c6c5o0 cond rd) := by
  intro hw
  show decodeArm (cond ++ 0b111000000110#12 ++ rd ++ 0b111100010101#12) = _
  rw [transfer_decode _ _ _ _ (bne_iff_ne.mp hw) (by decide) (by decide)]
  show decodeMcr15 _ = _
  obtain ⟨h28, h12, h16, -, -, h5, h0⟩ := transfer_fields cond rd 0b111000000110#12 0b111100010101#12
  unfold decodeMcr15
  rw [h28, h12, h16, h5, h0]
  rfl

theorem RoundTrip.mcrP15c6c5o1 (cond : BitVec 4) (rd : BitVec 4) :
    RoundTrip.Statement (.mcrP15c6c5o1 cond rd) := by
  intro hw
  show decodeArm (cond ++ 0b111000000110#12 ++ rd ++ 0b111100110101#12) = _
  rw [transfer_decode _ _ _ _ (bne_iff_ne.mp hw) (by decide) (by decide)]
  show decodeMcr15 _ = _
  obtain ⟨h28, h12, h16, -, -, h5, h0⟩ := transfer_fields cond rd 0b111000000110#12 0b111100110101#12
  unfold decodeMcr15
  rw [h28, h12, h16, h5, h0]
  rfl

theorem RoundTrip.mcrP15c6c6o0 (cond : BitVec 4) (rd : BitVec 4) :
    RoundTrip.Statement (.mcrP15c6c6o0 cond rd) := by
  intro hw
  show decodeArm (cond ++ 0b111000000110#12 ++ rd ++ 0b111100010110#12) = _
  rw [transfer_decode _ _ _ _ (bne_iff_ne.mp hw) (by decide) (by decide)]
  show decodeMcr15 _ = _
  obtain ⟨h28, h12, h16, -, -, h5, h0⟩ := transfer_fields cond rd 0b111000000110#12 0b111100010110#12
  unfold decodeMcr15
  rw [h28, h12, h16, h5, h0]
  rfl

theorem RoundTrip.mcrP15c6c6o1 (cond : BitVec 4) (rd : BitVec 4) :
    RoundTrip.Statement (.mcrP15c6c6o1 cond rd) := by
  intro hw
  show decodeArm (cond ++ 0b111000000110#12 ++ rd ++ 0b111100110110#12) = _
  rw [transfer_decode _ _ _ _ (bne_iff_ne.mp hw) (by decide) (by decide)]
  show decodeMcr15 _ = _
  obtain ⟨h28, h12, h16, -, -, h5, h0⟩ := transfer_fields cond rd 0b111000000110#12 0b111100110110#12
  unfold decodeMcr15
  rw [h28, h12, h16, h5, h0]
  rfl

theorem RoundTrip.mcrP15c6c7o0 (cond : BitVec 4) (rd : BitVec 4) :
    RoundTrip.Statement (.mcrP15c6c7o0 cond rd) := by
  intro hw
  show decodeArm (cond ++ 0b111000000110#12 ++ rd ++ 0b111100010111#12) = _
  rw [transfer_decode _ _ _ _ (bne_iff_ne.mp hw) (by decide) (by decide)]
  show decodeMcr15 _ = _
  obtain ⟨h28, h12, h16, -, -, h5, h0⟩ := transfer_fields cond rd 0b111000000110#12 0b111100010111#12
  unfold decodeMcr15
  rw [h28, h12, h16, h5, h0]
  rfl

theorem RoundTrip.mcrP15c6c7o1 (cond : BitVec 4) (rd : BitVec 4) :
    RoundTrip.Statement (.mcrP15c6c7o1 cond rd) := by
  intro hw
  show decodeArm (cond ++ 0b111000000110#12 ++ rd ++ 0b111100110111#12) = _
  rw [transfer_decode _ _ _ _ (bne_iff_ne.mp hw) (by decide) (by decide)]
  show decodeMcr15 _ = _
  obtain ⟨h28, h12, h16, -, -, h5, h0⟩ := transfer_fields cond rd 0b111000000110#12 0b111100110111#12
  unfold decodeMcr15
  rw [h28, h12, h16, h5, h0]
  rfl

theorem RoundTrip.mcrP15c9c0o0 (cond : BitVec 4) (rd : BitVec 4) :
    RoundTrip.Statement (.mcrP15c9c0o0 cond rd) := by
  intro hw
  show decodeArm (cond ++ 0b111000001001#12 ++ rd ++ 0b111100010000#12) = _
  rw [transfer_decode _ _ _ _ (bne_iff_ne.mp hw) (by decide) (by decide)]
  show decodeMcr15 _ = _
  obtain ⟨h28, h12, h16, -, -, h5, h0⟩ := transfer_fields cond rd 0b111000001001#12 0b111100010000#12
  unfold decodeMcr15
  rw [h28, h12, h16, h5, h0]
  rfl

theorem RoundTrip.mcrP15c9c0o1 (cond : BitVec 4) (rd : BitVec 4) :
    RoundTrip.Statement (.mcrP15c9c0o1 cond rd) := by
  intro hw
  show decodeArm (cond ++ 0b111000001001#12 ++ rd ++ 0b111100110000#12) = _
  rw [transfer_decode _ _ _ _ (bne_iff_ne.mp hw) (by decide) (by decide)]
  show decodeMcr15 _ = _
  obtain ⟨h28, h12, h16, -, -, h5, h0⟩ := transfer_fields cond rd 0b111000001001#12 0b111100110000#12
  unfold decodeMcr15
  rw [h28, h12, h16, h5, h0]
  rfl

theorem RoundTrip.mcrP15c15c0o0 (cond : BitVec 4) (rd : BitVec 4) :
    RoundTrip.Statement (.mcrP15c15c0o0 cond rd) := by
  intro hw
  show decodeArm (cond ++ 0b111000001111#12 ++ rd ++ 0b111100010000#12) = _
  rw [transfer_decode _ _ _ _ (bne_iff_ne.mp hw) (by decide) (by decide)]
  show decodeMcr15 _ = _
  obtain ⟨h28, h12, h16, -, -, h5, h0⟩ := transfer_fields cond rd 0b111000001111#12 0b111100010000#12
  unfold decodeMcr15
  rw [h28, h12, h16, h5, h0]
  rfl

theorem RoundTrip.mcrP15c7c5o0 (cond : BitVec 4) (rd : BitVec 4) :
    RoundTrip.Statement (.mcrP15c7c5o0 cond rd) := by
  intro hw
  show decodeArm (cond ++ 0b111000000111#12 ++ rd ++ 0b111100010101#12) = _
  rw [transfer_decode _ _ _ _ (bne_iff_ne.mp hw) (by decide) (by decide)]
  show decodeMcr15 _ = _
  obtain ⟨h28, h12, h16, -, -, h5, h0⟩ := transfer_fields cond rd 0b111000000111#12 0b111100010101#12
  unfold decodeMcr15
  rw [h28, h12, h16, h5, h0]
  rfl

theorem RoundTrip.mcrP15c7c5o2 (cond : BitVec 4) (rd : BitVec 4) :
    RoundTrip.Statement (.mcrP15c7c5o2 cond rd) := by
  intro hw
  show decodeArm (cond ++ 0b111000000111#12 ++ rd ++ 0b111101010101#12) = _
  rw [transfer_decode _ _ _ _ (bne_iff_ne.mp hw) (by decide) (by decide)]
  show decodeMcr15 _ = _
  obtain ⟨h28, h12, h16, -, -, h5, h0⟩ := transfer_fields cond rd 0b111000000111#12 0b111101010101#12
  unfold decodeMcr15
  rw [h28, h12, h16, h5, h0]
  rfl

theorem RoundTrip.mcrP15c7c6o0 (cond : BitVec 4) (rd : BitVec 4) :
    RoundTrip.Statement (.mcrP15c7c6o0 cond rd) := by
  intro hw
  show decodeArm (cond ++ 0b111000000111#12 ++ rd ++ 0b111100010110#12) = _
  rw [transfer_decode _ _ _ _ (bne_iff_ne.mp hw) (by decide) (by decide)]
  show decodeMcr15 _ = _
  obtain ⟨h28, h12, h16, -, -, h5, h0⟩ := transfer_fields cond rd 0b111000000111#12 0b111100010110#12
  unfold decodeMcr15
  rw [h28, h12, h16, h5, h0]
  rfl

theorem RoundTrip.mcrP15c7c6o2 (cond : BitVec 4) (rd : BitVec 4) :
    RoundTrip.Statement (.mcrP15c7c6o2 cond rd) := by
  intro hw
  show decodeArm (cond ++ 0b111000000111#12 ++ rd ++ 0b111101010110#12) = _
  rw [transfer_decode _ _ _ _ (bne_iff_ne.mp hw) (by decide) (by decide)]
  show decodeMcr15 _ = _
  obtain ⟨h28, h12, h16, -, -, h5, h0⟩ := transfer_fields cond rd 0b111000000111#12 0b111101010110#12
  unfold decodeMcr15
  rw [h28, h12, h16, h5, h0]
  rfl

theorem RoundTrip.mcrP15c7c10o2 (cond : BitVec 4) (rd : BitVec 4) :
    RoundTrip.Statement (.mcrP15c7c10o2 cond rd) := by
  intro hw
  show decodeArm (cond ++ 0b111000000111#12 ++ rd ++ 0b111101011010#12) = _
  rw [transfer_decode _ _ _ _ (bne_iff_ne.mp hw) (by decide) (by decide)]
  show decodeMcr15 _ = _
  obtain ⟨h28, h12, h16, -, -, h5, h0⟩ := transfer_fields cond rd 0b111000000111#12 0b111101011010#12
  unfold decodeMcr15
  rw [h28, h12, h16, h5, h0]
  rfl

theorem RoundTrip.mcrP15c7c13o1 (cond : BitVec 4) (rd : BitVec 4) :
    RoundTrip.Statement (.mcrP15c7c13o1 cond rd) := by
  intro hw
  show decodeArm (cond ++ 0b111000000111#12 ++ rd ++ 0b111100111101#12) = _
  rw [transfer_decode _ _ _ _ (bne_iff_ne.mp hw) (by decide) (by decide)]
  show decodeMcr15 _ = _
  obtain ⟨h28, h12, h16, -, -, h5, h0⟩ := transfer_fields cond rd 0b111000000111#12 0b111100111101#12
  unfold decodeMcr15
  rw [h28, h12, h16, h5, h0]
  rfl

theorem RoundTrip.mcrP15c7c14o2 (cond : BitVec 4) (rd : BitVec 4) :
    RoundTrip.Statement (.mcrP15c7c14o2 cond rd) := by
  intro hw
  show decodeArm (cond ++ 0b111000000111#12 ++ rd ++ 0b111101011110#12) = _
  rw [transfer_decode _ _ _ _ (bne_iff_ne.mp hw) (by decide) (by decide)]
  show decodeMcr15 _ = _
  obtain ⟨h28, h12, h16, -, -, h5, h0⟩ := transfer_fields cond rd 0b111000000111#12 0b111101011110#12
  unfold decodeMcr15
  rw [h28, h12, h16, h5, h0]
  rfl

theorem RoundTrip.mcrP15c7c0o4 (cond : BitVec 4) (rd : BitVec 4) :
    RoundTrip.Statement (.mcrP15c7c0o4 cond rd) := by
  intro hw
  show decodeArm (cond ++ 0b111000000111#12 ++ rd ++ 0b111110010000#12) = _
  rw [transfer_decode _ _ _ _ (bne_iff_ne.mp hw) (by decide) (by decide)]
  show decodeMcr15 _ = _
  obtain ⟨h28, h12, h16, -, -, h5, h0⟩ := transfer_fields cond rd 0b111000000111#12 0b111110010000#12
  unfold decodeMcr15
  rw [h28, h12, h16, h5, h0]
  rfl

theorem RoundTrip.mcrP15c15c8o2 (cond : BitVec 4) (rd : BitVec 4) :
    RoundTrip.Statement (.mcrP15c15c8o2 cond rd) := by
  intro hw
  show decodeArm (cond ++ 0b111000001111#12 ++ rd ++ 0b111101011000#12) = _
  rw [transfer_decode _ _ _ _ (bne_iff_ne.mp hw) (by decide) (by decide)]
  show decodeMcr15 _ = _
  obtain ⟨h28, h12, h16, -, -, h5, h0⟩ := transfer_fields cond rd 0b111000001111#12 0b111101011000#12
  unfold decodeMcr15
  rw [h28, h12, h16, h5, h0]
  rfl

theorem RoundTrip.mcrP15c7c10o4 (cond : BitVec 4) (rd : BitVec 4) :
    RoundTrip.Statement (.mcrP15c7c10o4 cond rd) := by
  intro hw
  show decodeArm (cond ++ 0b111000000111#12 ++ rd ++ 0b111110011010#12) = _
  rw [transfer_decode _ _ _ _ (bne_iff_ne.mp hw) (by decide) (by decide)]
  show decodeMcr15 _ = _
  obtain ⟨h28, h12, h16, -, -, h5, h0⟩ := transfer_fields cond rd 0b111000000111#12 0b111110011010#12
  unfold decodeMcr15
  rw [h28, h12, h16, h5, h0]
  rfl

theorem RoundTrip.mcrP15c7c8o2 (cond : BitVec 4) (rd : BitVec 4) :
    RoundTrip.Statement (.mcrP15c7c8o2 cond rd) := by
  intro hw
  show decodeArm (cond ++ 0b111000000111#12 ++ rd ++ 0b111101011000#12) = _
  rw [transfer_decode _ _ _ _ (bne_iff_ne.mp hw) (by decide) (by decide)]
  show decodeMcr15 _ = _
  obtain ⟨h28, h12, h16, -, -, h5, h0⟩ := transfer_fields cond rd 0b111000000111#12 0b111101011000#12
  unfold decodeMcr15
  rw [h28, h12, h16, h5, h0]
  rfl

theorem RoundTrip.mcrP15c7c5o1 (cond : BitVec 4) (rd : BitVec 4) :
    RoundTrip.Statement (.mcrP15c7c5o1 cond rd) := by
  intro hw
  show decodeArm (cond ++ 0b111000000111#12 ++ rd ++ 0b111100110101#12) = _
  rw [transfer_decode _ _ _ _ (bne_iff_ne.mp hw) (by decide) (by decide)]
  show decodeMcr15 _ = _
  obtain ⟨h28, h12, h16, -, -, h5, h0⟩ := transfer_fields cond rd 0b111000000111#12 0b111100110101#12
  unfold decodeMcr15
  rw [h28, h12, h16, h5, h0]
  rfl

theorem RoundTrip.mrcP14c0c0o0 (cond : BitVec 4) (rd : BitVec 4) :
    RoundTrip.Statement (.mrcP14c0c0o0 cond rd) := by
  intro hw
  show decodeArm (cond ++ 0b111000010000#12 ++ rd ++ 0b111000010000#12) = _
  rw [transfer_decode _ _ _ _ (bne_iff_ne.mp hw) (by decide) (by decide)]
  show decodeMrc14 _ = _
  obtain ⟨h28, h12, h16, -, -, h5, h0⟩ := transfer_fields cond rd 0b111000010000#12 0b111000010000#12
  unfold decodeMrc14
  rw [h28, h12, h16, h5, h0]
  rfl

theorem RoundTrip.mcrP14c1c0o0 (cond : BitVec 4) (rd : BitVec 4) :
    RoundTrip.Statement (.mcrP14c1c0o0 cond rd) := by
  intro hw
  show decodeArm (cond ++ 0b111000000001#12 ++ rd ++ 0b111000010000#12) = _
  rw [transfer_decode _ _ _ _ (bne_iff_ne.mp hw) (by decide) (by decide)]
  show decodeMcr14 _ = _
  obtain ⟨h28, h12, h16, -, -, h5, h0⟩ := transfer_fields cond rd 0b111000000001#12 0b111000010000#12
  unfold decodeMcr14
  rw [h28, h12, h16, h5, h0]
  rfl

theorem RoundTrip.mrcP14c1c0o0 (cond : BitVec 4) (rd : BitVec 4) :
    RoundTrip.Statement (.mrcP14c1c0o0 cond rd) := by
  intro hw
  show decodeArm (cond ++ 0b111000010001#12 ++ rd ++ 0b111000010000#12) = _
  rw [transfer_decode _ _ _ _ (bne_iff_ne.mp hw) (by decide) (by decide)]
  show decodeMrc14 _ = _
  obtain ⟨h28, h12, h16, -, -, h5, h0⟩ := transfer_fields cond rd 0b111000010001#12 0b111000010000#12
  unfold decodeMrc14
  rw [h28, h12, h16, h5, h0]
  rfl

theorem RoundTrip.tLslImm (imm5 : BitVec 5) (rs : BitVec 3) (rd : BitVec 3) :
    RoundTrip.Statement (.tLslImm imm5 rs rd) := by
  intro _
  show decodeThumb (0b00000#5 ++ imm5 ++ rs ++ rd) = _
  unfold decodeThumb
  simp only [HAppend.hAppend]
  simp (decide := true) only [Append.append, fld_append_high, fld_append_low, fld_whole, bitAt_append_high, bitAt_append_low, bitAt_ofNat, ↓reduceIte, Nat.reduceSub, BitVec.reduceGetLsb, Bool.and_false] <;> rfl

theorem RoundTrip.tLsrImm (imm5 : BitVec 5) (rs : BitVec 3) (rd : BitVec 3) :
    RoundTrip.Statement (.tLsrImm imm5 rs rd) := by
  intro _
  show decodeThumb (0b00001#5 ++ imm5 ++ rs ++ rd) = _
  unfold decodeThumb
  simp only [HAppend.hAppend]
  simp (decide := true) only [Append.append, fld_append_high, fld_append_low, fld_whole, bitAt_append_high, bitAt_append_low, bitAt_ofNat, ↓reduceIte, Nat.reduceSub, BitVec.reduceGetLsb, Bool.and_false] <;> rfl

theorem RoundTrip.tAsrImm (imm5 : BitVec 5) (rs : BitVec 3) (rd : BitVec 3) :
    RoundTrip.Statement (.tAsrImm imm5 rs rd) := by
  intro _
  show decodeThumb (0b00010#5 ++ imm5 ++ rs ++ rd) = _
  unfold decodeThumb
  simp only [HAppend.hAppend]
  simp (decide := true) only [Append.append, fld_append_high, fld_append_low, fld_whole, bitAt_append_high, bitAt_append_low, bitAt_ofNat, ↓reduceIte, Nat.reduceSub, BitVec.reduceGetLsb, Bool.and_false] <;> rfl

theorem RoundTrip.tAddReg (rn : BitVec 3) (rs : BitVec 3) (rd : BitVec 3) :
    RoundTrip.Statement (.tAddReg rn rs rd) := by
  intro _
  show decodeThumb (0b0001100#7 ++ rn ++ rs ++ rd) = _
  unfold decodeThumb
  simp only [HAppend.hAppend]
  simp (decide := true) only [decodeThumbAddSub, Append.append, fld_append_high, fld_append_low, fld_whole, bitAt_append_high, bitAt_append_low, bitAt_ofNat, ↓reduceIte, Nat.reduceSub, BitVec.reduceGetLsb, Bool.and_false] <;> rfl

theorem RoundTrip.tSubReg (rn : BitVec 3) (rs : BitVec 3) (rd : BitVec 3) :
    RoundTrip.Statement (.tSubReg rn rs rd) := by
  intro _
  show decodeThumb (0b0001101#7 ++ rn ++ rs ++ rd) = _
  unfold decodeThumb
  simp only [HAppend.hAppend]
  simp (decide := true) only [decodeThumbAddSub, Append.append, fld_append_high, fld_append_low, fld_whole, bitAt_append_high, bitAt_append_low, bitAt_ofNat, ↓reduceIte, Nat.reduceSub, BitVec.reduceGetLsb, Bool.and_false] <;> rfl

theorem RoundTrip.tAddImm3 (imm3 : BitVec 3) (rs : BitVec 3) (rd : BitVec 3) :
    RoundTrip.Statement (.tAddImm3 imm3 rs rd) := by
  intro _
  show decodeThumb (0b0001110#7 ++ imm3 ++ rs ++ rd) = _
  unfold decodeThumb
  simp only [HAppend.hAppend]
  simp (decide := true) only [decodeThumbAddSub, Append.append, fld_append_high, fld_append_low, fld_whole, bitAt_append_high, bitAt_append_low, bitAt_ofNat, ↓reduceIte, Nat.reduceSub, BitVec.reduceGetLsb, Bool.and_false] <;> rfl

theorem RoundTrip.tSubImm3 (imm3 : BitVec 3) (rs : BitVec 3) (rd : BitVec 3) :
    RoundTrip.Statement (.tSubImm3 imm3 rs rd) := by
  intro _
  show decodeThumb (0b0001111#7 ++ imm3 ++ rs ++ rd) = _
  unfold decodeThumb
  simp only [HAppend.hAppend]
  simp (decide := true) only [decodeThumbAddSub, Append.append, fld_append_high, fld_append_low, fld_whole, bitAt_append_high, bitAt_append_low, bitAt_ofNat, ↓reduceIte, Nat.reduceSub, BitVec.reduceGetLsb, Bool.and_false] <;> rfl

theorem RoundTrip.tMovImm (rd : BitVec 3) (imm8 : BitVec 8) :
    RoundTrip.Statement (.tMovImm rd imm8) := by
  intro _
  show decodeThumb (0b00100#5 ++ rd ++ imm8) = _
  unfold decodeThumb
  simp only [HAppend.hAppend]
  simp (decide := true) only [Append.append, fld_append_high, fld_append_low, fld_whole, bitAt_append_high, bitAt_append_low, bitAt_ofNat, ↓reduceIte, Nat.reduceSub, BitVec.reduceGetLsb, Bool.and_false] <;> rfl

theorem RoundTrip.tCmpImm (rd : BitVec 3) (imm8 : BitVec 8) :
    RoundTrip.Statement (.tCmpImm rd imm8) := by
  intro _
  show decodeThumb (0b00101#5 ++ rd ++ imm8) = _
  unfold decodeThumb
  simp only [HAppend.hAppend]
  simp (decide := true) only [Append.append, fld_append_high, fld_append_low, fld_whole, bitAt_append_high, bitAt_append_low, bitAt_ofNat, ↓reduceIte, Nat.reduceSub, BitVec.reduceGetLsb, Bool.and_false] <;> rfl

theorem RoundTrip.tAddImm8 (rd : BitVec 3) (imm8 : BitVec 8) :
    RoundTrip.Statement (.tAddImm8 rd imm8) := by
  intro _
  show decodeThumb (0b00110#5 ++ rd ++ imm8) = _
  unfold decodeThumb
  simp only [HAppend.hAppend]
  simp (decide := true) only [Append.append, fld_append_high, fld_append_low, fld_whole, bitAt_append_high, bitAt_append_low, bitAt_ofNat, ↓reduceIte, Nat.reduceSub, BitVec.reduceGetLsb, Bool.and_false] <;> rfl

theorem RoundTrip.tSubImm8 (rd : BitVec 3) (imm8 : BitVec 8) :
    RoundTrip.Statement (.tSubImm8 rd imm8) := by
  intro _
  show decodeThumb (0b00111#5 ++ rd ++ imm8) = _
  unfold decodeThumb
  simp only [HAppend.hAppend]
  simp (decide := true) only [Append.append, fld_append_high, fld_append_low, fld_whole, bitAt_append_high, bitAt_append_low, bitAt_ofNat, ↓reduceIte, Nat.reduceSub, BitVec.reduceGetLsb, Bool.and_false] <;> rfl

theorem RoundTrip.tAnd (rs : BitVec 3) (rd : BitVec 3) :
    RoundTrip.Statement (.tAnd rs rd) := by
  intro _
  show decodeThumb (0b0100000000#10 ++ rs ++ rd) = _
  unfold decodeThumb
  simp only [HAppend.hAppend]
  simp (decide := true) only [decodeThumbAlu, Append.append, fld_append_high, fld_append_low, fld_whole, bitAt_append_high, bitAt_append_low, bitAt_ofNat, ↓reduceIte, Nat.reduceSub, BitVec.reduceGetLsb, Bool.and_false] <;> rfl

theorem RoundTrip.tEor (rs : BitVec 3) (rd : BitVec 3) :
    RoundTrip.Statement (.tEor rs rd) := by
  intro _
  show decodeThumb (0b0100000001#10 ++ rs ++ rd) = _
  unfold decodeThumb
  simp only [HAppend.hAppend]
  simp (decide := true) only [decodeThumbAlu, Append.append, fld_append_high, fld_append_low, fld_whole, bitAt_append_high, bitAt_append_low, bitAt_ofNat, ↓reduceIte, Nat.reduceSub, BitVec.reduceGetLsb, Bool.and_false] <;> rfl

theorem RoundTrip.tLslReg (rs : BitVec 3) (rd : BitVec 3) :
    RoundTrip.Statement (.tLslReg rs rd) := by
  intro _
  show decodeThumb (0b0100000010#10 ++ rs ++ rd) = _
  unfold decodeThumb
  simp only [HAppend.hAppend]
  simp (decide := true) only [decodeThumbAlu, Append.append, fld_append_high, fld_append_low, fld_whole, bitAt_append_high, bitAt_append_low, bitAt_ofNat, ↓reduceIte, Nat.reduceSub, BitVec.reduceGetLsb, Bool.and_false] <;> rfl

theorem RoundTrip.tLsrReg (rs : BitVec 3) (rd : BitVec 3) :
    RoundTrip.Statement (.tLsrReg rs rd) := by
  intro _
  show decodeThumb (0b0100000011#10 ++ rs ++ rd) = _
  unfold decodeThumb
  simp only [HAppend.hAppend]
  simp (decide := true) only [decodeThumbAlu, Append.append, fld_append_high, fld_append_low, fld_whole, bitAt_append_high, bitAt_append_low, bitAt_ofNat, ↓reduceIte, Nat.reduceSub, BitVec.reduceGetLsb, Bool.and_false] <;> rfl

theorem RoundTrip.tAsrReg (rs : BitVec 3) (rd : BitVec 3) :
    RoundTrip.Statement (.tAsrReg rs rd) := by
  intro _
  show decodeThumb (0b0100000100#10 ++ rs ++ rd) = _
  unfold decodeThumb
  simp only [HAppend.hAppend]
  simp (decide := true) only [decodeThumbAlu, Append.append, fld_append_high, fld_append_low, fld_whole, bitAt_append_high, bitAt_append_low, bitAt_ofNat, ↓reduceIte, Nat.reduceSub, BitVec.reduceGetLsb, Bool.and_false] <;> rfl

theorem RoundTrip.tAdc (rs : BitVec 3) (rd : BitVec 3) :
    RoundTrip.Statement (.tAdc rs rd) := by
  intro _
  show decodeThumb (0b0100000101#10 ++ rs ++ rd) = _
  unfold decodeThumb
  simp only [HAppend.hAppend]
  simp (decide := true) only [decodeThumbAlu, Append.append, fld_append_high, fld_append_low, fld_whole, bitAt_append_high, bitAt_append_low, bitAt_ofNat, ↓reduceIte, Nat.reduceSub, BitVec.reduceGetLsb, Bool.and_false] <;> rfl

theorem RoundTrip.tSbc (rs : BitVec 3) (rd : BitVec 3) :
    RoundTrip.Statement (.tSbc rs rd) := by
  intro _
  show decodeThumb (0b0100000110#10 ++ rs ++ rd) = _
  unfold decodeThumb
  simp only [HAppend.hAppend]
  simp (decide := true) only [decodeThumbAlu, Append.append, fld_append_high, fld_append_low, fld_whole, bitAt_append_high, bitAt_append_low, bitAt_ofNat, ↓reduceIte, Nat.reduceSub, BitVec.reduceGetLsb, Bool.and_false] <;> rfl

theorem RoundTrip.tRorReg (rs : BitVec 3) (rd : BitVec 3) :
    RoundTrip.Statement (.tRorReg rs rd) := by
  intro _
  show decodeThumb (0b0100000111#10 ++ rs ++ rd) = _
  unfold decodeThumb
  simp only [HAppend.hAppend]
  simp (decide := true) only [decodeThumbAlu, Append.append, fld_append_high, fld_append_low, fld_whole, bitAt_append_high, bitAt_append_low, bitAt_ofNat, ↓reduceIte, Nat.reduceSub, BitVec.reduceGetLsb, Bool.and_false] <;> rfl

theorem RoundTrip.tTst (rs : BitVec 3) (rd : BitVec 3) :
    RoundTrip.Statement (.tTst rs rd) := by
  intro _
  show decodeThumb (0b0100001000#10 ++ rs ++ rd) = _
  unfold decodeThumb
  simp only [HAppend.hAppend]
  simp (decide := true) only [decodeThumbAlu, Append.append, fld_append_high, fld_append_low, fld_whole, bitAt_append_high, bitAt_append_low, bitAt_ofNat, ↓reduceIte, Nat.reduceSub, BitVec.reduceGetLsb, Bool.and_false] <;> rfl

theorem RoundTrip.tNeg (rs : BitVec 3) (rd : BitVec 3) :
    RoundTrip.Statement (.tNeg rs rd) := by
  intro _
  show decodeThumb (0b0100001001#10 ++ rs ++ rd) = _
  unfold decodeThumb
  simp only [HAppend.hAppend]
  simp (decide := true) only [decodeThumbAlu, Append.append, fld_append_high, fld_append_low, fld_whole, bitAt_append_high, bitAt_append_low, bitAt_ofNat, ↓reduceIte, Nat.reduceSub, BitVec.reduceGetLsb, Bool.and_false] <;> rfl

theorem RoundTrip.tCmpReg (rs : BitVec 3) (rd : BitVec 3) :
    RoundTrip.Statement (.tCmpReg rs rd) := by
  intro _
  show decodeThumb (0b0100001010#10 ++ rs ++ rd) = _
  unfold decodeThumb
  simp only [HAppend.hAppend]
  simp (decide := true) only [decodeThumbAlu, Append.append, fld_append_high, fld_append_low, fld_whole, bitAt_append_high, bitAt_append_low, bitAt_ofNat, ↓reduceIte, Nat.reduceSub, BitVec.reduceGetLsb, Bool.and_false] <;> rfl

theorem RoundTrip.tCmn (rs : BitVec 3) (rd : BitVec 3) :
    RoundTrip.Statement (.tCmn rs rd) := by
  intro _
  show decodeThumb (0b0100001011#10 ++ rs ++ rd) = _
  unfold decodeThumb
  simp only [HAppend.hAppend]
  simp (decide := true) only [decodeThumbAlu, Append.append, fld_append_high, fld_append_low, fld_whole, bitAt_append_high, bitAt_append_low, bitAt_ofNat, ↓reduceIte, Nat.reduceSub, BitVec.reduceGetLsb, Bool.and_false] <;> rfl

theorem RoundTrip.tOrr (rs : BitVec 3) (rd : BitVec 3) :
    RoundTrip.Statement (.tOrr rs rd) := by
  intro _
  show decodeThumb (0b0100001100#10 ++ rs ++ rd) = _
  unfold decodeThumb
  simp only [HAppend.hAppend]
  simp (decide := true) only [decodeThumbAlu, Append.append, fld_append_high, fld_append_low, fld_whole, bitAt_append_high, bitAt_append_low, bitAt_ofNat, ↓reduceIte, Nat.reduceSub, BitVec.reduceGetLsb, Bool.and_false] <;> rfl

theorem RoundTrip.tMul (rs : BitVec 3) (rd : BitVec 3) :
    RoundTrip.Statement (.tMul rs rd) := by
  intro _
  show decodeThumb (0b0100001101#10 ++ rs ++ rd) = _
  unfold decodeThumb
  simp only [HAppend.hAppend]
  simp (decide := true) only [decodeThumbAlu, Append.append, fld_append_high, fld_append_low, fld_whole, bitAt_append_high, bitAt_append_low, bitAt_ofNat, ↓reduceIte, Nat.reduceSub, BitVec.reduceGetLsb, Bool.and_false] <;> rfl

theorem RoundTrip.tBic (rs : BitVec 3) (rd : BitVec 3) :
    RoundTrip.Statement (.tBic rs rd) := by
  intro _
  show decodeThumb (0b0100001110#10 ++ rs ++ rd) = _
  unfold decodeThumb
  simp only [HAppend.hAppend]
  simp (decide := true) only [decodeThumbAlu, Append.append, fld_append_high, fld_append_low, fld_whole, bitAt_append_high, bitAt_append_low, bitAt_ofNat, ↓reduceIte, Nat.reduceSub, BitVec.reduceGetLsb, Bool.and_false] <;> rfl

theorem RoundTrip.tMvn (rs : BitVec 3) (rd : BitVec 3) :
    RoundTrip.Statement (.tMvn rs rd) := by
  intro _
  show decodeThumb (0b0100001111#10 ++ rs ++ rd) = _
  unfold decodeThumb
  simp only [HAppend.hAppend]
  simp (decide := true) only [decodeThumbAlu, Append.append, fld_append_high, fld_append_low, fld_whole, bitAt_append_high, bitAt_append_low, bitAt_ofNat, ↓reduceIte, Nat.reduceSub, BitVec.reduceGetLsb, Bool.and_false] <;> rfl

theorem RoundTrip.tAddHi (h2 : BitVec 1) (rs : BitVec 3) (rd : BitVec 3) :
    RoundTrip.Statement (.tAddHi h2 rs rd) := by
  intro _
  show decodeThumb (0b010001001#9 ++ h2 ++ rs ++ rd) = _
  unfold decodeThumb
  simp only [HAppend.hAppend]
  simp (decide := true) only [decodeThumbHigh, Append.append, fld_append_high, fld_append_low, fld_whole, bitAt_append_high, bitAt_append_low, bitAt_ofNat, ↓reduceIte, Nat.reduceSub, BitVec.reduceGetLsb, Bool.and_false] <;> rfl

theorem RoundTrip.tAddLoHi (rs : BitVec 3) (rd : BitVec 3) :
    RoundTrip.Statement (.tAddLoHi rs rd) := by
  intro _
  show decodeThumb (0b0100010001#10 ++ rs ++ rd) = _
  unfold decodeThumb
  simp only [HAppend.hAppend]
  simp (decide := true) only [decodeThumbHigh, Append.append, fld_append_high, fld_append_low, fld_whole, bitAt_append_high, bitAt_append_low, bitAt_ofNat, ↓reduceIte, Nat.reduceSub, BitVec.reduceGetLsb, Bool.and_false] <;> rfl

theorem RoundTrip.tAddLow (rs : BitVec 3) (rd : BitVec 3) :
    RoundTrip.Statement (.tAddLow rs rd) := by
  intro _
  show decodeThumb (0b0100010000#10 ++ rs ++ rd) = _
  unfold decodeThumb
  simp only [HAppend.hAppend]
  simp (decide := true) only [decodeThumbHigh, Append.append, fld_append_high, fld_append_low, fld_whole, bitAt_append_high, bitAt_append_low, bitAt_ofNat, ↓reduceIte, Nat.reduceSub, BitVec.reduceGetLsb, Bool.and_false] <;> rfl

theorem RoundTrip.tCmpHi (h2 : BitVec 1) (rs : BitVec 3) (rd : BitVec 3) :
    RoundTrip.Statement (.tCmpHi h2 rs rd) := by
  intro _
  show decodeThumb (0b010001011#9 ++ h2 ++ rs ++ rd) = _
  unfold decodeThumb
  simp only [HAppend.hAppend]
  simp (decide := true) only [decodeThumbHigh, Append.append, fld_append_high, fld_append_low, fld_whole, bitAt_append_high, bitAt_append_low, bitAt_ofNat, ↓reduceIte, Nat.reduceSub, BitVec.reduceGetLsb, Bool.and_false] <;> rfl

theorem RoundTrip.tCmpLoHi (rs : BitVec 3) (rd : BitVec 3) :
    RoundTrip.Statement (.tCmpLoHi rs rd) := by
  intro _
  show decodeThumb (0b0100010101#10 ++ rs ++ rd) = _
  unfold decodeThumb
  simp only [HAppend.hAppend]
  simp (decide := true) only [decodeThumbHigh, Append.append, fld_append_high, fld_append_low, fld_whole, bitAt_append_high, bitAt_append_low, bitAt_ofNat, ↓reduceIte, Nat.reduceSub, BitVec.reduceGetLsb, Bool.and_false] <;> rfl

theorem RoundTrip.tCmpLow (rs : BitVec 3) (rd : BitVec 3) :
    RoundTrip.Statement (.tCmpLow rs rd) := by
  intro _
  show decodeThumb (0b0100010100#10 ++ rs ++ rd) = _
  unfold decodeThumb
  simp only [HAppend.hAppend]
  simp (decide := true) only [decodeThumbHigh, Append.append, fld_append_high, fld_append_low, fld_whole, bitAt_append_high, bitAt_append_low, bitAt_ofNat, ↓reduceIte, Nat.reduceSub, BitVec.reduceGetLsb, Bool.and_false] <;> rfl

theorem RoundTrip.tMovHi (h2 : BitVec 1) (rs : BitVec 3) (rd : BitVec 3) :
    RoundTrip.Statement (.tMovHi h2 rs rd) := by
  intro _
  show decodeThumb (0b010001101#9 ++ h2 ++ rs ++ rd) = _
  unfold decodeThumb
  simp only [HAppend.hAppend]
  simp (decide := true) only [decodeThumbHigh, Append.append, fld_append_high, fld_append_low, fld_whole, bitAt_append_high, bitAt_append_low, bitAt_ofNat, ↓reduceIte, Nat.reduceSub, BitVec.reduceGetLsb, Bool.and_false] <;> rfl

theorem RoundTrip.tMovLoHi (rs : BitVec 3) (rd : BitVec 3) :
    RoundTrip.Statement (.tMovLoHi rs rd) := by
  intro _
  show decodeThumb (0b0100011001#10 ++ rs ++ rd) = _
  unfold decodeThumb
  simp only [HAppend.hAppend]
  simp (decide := true) only [decodeThumbHigh, Append.append, fld_append_high, fld_append_low, fld_whole, bitAt_append_high, bitAt_append_low, bitAt_ofNat, ↓reduceIte, Nat.reduceSub, BitVec.reduceGetLsb, Bool.and_false] <;> rfl

theorem RoundTrip.tMovLow (rs : BitVec 3) (rd : BitVec 3) :
    RoundTrip.Statement (.tMovLow rs rd) := by
  intro _
  show decodeThumb (0b0100011000#10 ++ rs ++ rd) = _
  unfold decodeThumb
  simp only [HAppend.hAppend]
  simp (decide := true) only [decodeThumbHigh, Append.append, fld_append_high, fld_append_low, fld_whole, bitAt_append_high, bitAt_append_low, bitAt_ofNat, ↓reduceIte, Nat.reduceSub, BitVec.reduceGetLsb, Bool.and_false] <;> rfl

theorem RoundTrip.tBx (h2 : BitVec 1) (rs : BitVec 3) (sbz : BitVec 3) :
    RoundTrip.Statement (.tBx h2 rs sbz) := by
  intro _
  show decodeThumb (0b010001110#9 ++ h2 ++ rs ++ sbz) = _
  unfold decodeThumb
  simp only [HAppend.hAppend]
  simp (decide := true) only [decodeThumbHigh, Append.append, fld_append_high, fld_append_low, fld_whole, bitAt_append_high, bitAt_append_low, bitAt_ofNat, ↓reduceIte, Nat.reduceSub, BitVec.reduceGetLsb, Bool.and_false] <;> rfl

theorem RoundTrip.tBxHigh (h2 : BitVec 1) (rs : BitVec 3) (sbz : BitVec 3) :
    RoundTrip.Statement (.tBxHigh h2 rs sbz) := by
  intro _
  show decodeThumb (0b010001111#9 ++ h2 ++ rs ++ sbz) = _
  unfold decodeThumb
  simp only [HAppend.hAppend]
  simp (decide := true) only [decodeThumbHigh, Append.append, fld_append_high, fld_append_low, fld_whole, bitAt_append_high, bitAt_append_low, bitAt_ofNat, ↓reduceIte, Nat.reduceSub, BitVec.reduceGetLsb, Bool.and_false] <;> rfl

theorem RoundTrip.tLdrPc (rd : BitVec 3) (imm8 : BitVec 8) :
    RoundTrip.Statement (.tLdrPc rd imm8) := by
  intro _
  show decodeThumb (0b01001#5 ++ rd ++ imm8) = _
  unfold decodeThumb
  simp only [HAppend.hAppend]
  simp (decide := true) only [Append.append, fld_append_high, fld_append_low, fld_whole, bitAt_append_high, bitAt_append_low, bitAt_ofNat, ↓reduceIte, Nat.reduceSub, BitVec.reduceGetLsb, Bool.and_false] <;> rfl

theorem RoundTrip.tStrReg (ro : BitVec 3) (rb : BitVec 3) (rd : BitVec 3) :
    RoundTrip.Statement (.tStrReg ro rb rd) := by
  intro _
  show decodeThumb (0b0101000#7 ++ ro ++ rb ++ rd) = _
  unfold decodeThumb
  simp only [HAppend.hAppend]
  simp (decide := true) only [decodeThumbLsReg, Append.append, fld_append_high, fld_append_low, fld_whole, bitAt_append_high, bitAt_append_low, bitAt_ofNat, ↓reduceIte, Nat.reduceSub, BitVec.reduceGetLsb, Bool.and_false] <;> rfl

theorem RoundTrip.tStrbReg (ro : BitVec 3) (rb : BitVec 3) (rd : BitVec 3) :
    RoundTrip.Statement (.tStrbReg ro rb rd) := by
  intro _
  show decodeThumb (0b0101010#7 ++ ro ++ rb ++ rd) = _
  unfold decodeThumb
  simp only [HAppend.hAppend]
  simp (decide := true) only [decodeThumbLsReg, Append.append, fld_append_high, fld_append_low, fld_whole, bitAt_append_high, bitAt_append_low, bitAt_ofNat, ↓reduceIte, Nat.reduceSub, BitVec.reduceGetLsb, Bool.and_false] <;> rfl

theorem RoundTrip.tLdrReg (ro : BitVec 3) (rb : BitVec 3) (rd : BitVec 3) :
    RoundTrip.Statement (.tLdrReg ro rb rd) := by
  intro _
  show decodeThumb (0b0101100#7 ++ ro ++ rb ++ rd) = _
  unfold decodeThumb
  simp only [HAppend.hAppend]
  simp (decide := true) only [decodeThumbLsReg, Append.append, fld_append_high, fld_append_low, fld_whole, bitAt_append_high, bitAt_append_low, bitAt_ofNat, ↓reduceIte, Nat.reduceSub, BitVec.reduceGetLsb, Bool.and_false] <;> rfl

theorem RoundTrip.tLdrbReg (ro : BitVec 3) (rb : BitVec 3) (rd : BitVec 3) :
    RoundTrip.Statement (.tLdrbReg ro rb rd) := by
  intro _
  show decodeThumb (0b0101110#7 ++ ro ++ rb ++ rd) = _
  unfold decodeThumb
  simp only [HAppend.hAppend]
  simp (decide := true) only [decodeThumbLsReg, Append.append, fld_append_high, fld_append_low, fld_whole, bitAt_append_high, bitAt_append_low, bitAt_ofNat, ↓reduceIte, Nat.reduceSub, BitVec.reduceGetLsb, Bool.and_false] <;> rfl

theorem RoundTrip.tStrhReg (ro : BitVec 3) (rb : BitVec 3) (rd : BitVec 3) :
    RoundTrip.Statement (.tStrhReg ro rb rd) := by
  intro _
  show decodeThumb (0b0101001#7 ++ ro ++ rb ++ rd) = _
  unfold decodeThumb
  simp only [HAppend.hAppend]
  simp (decide := true) only [decodeThumbLsReg, Append.append, fld_append_high, fld_append_low, fld_whole, bitAt_append_high, bitAt_append_low, bitAt_ofNat, ↓reduceIte, Nat.reduceSub, BitVec.reduceGetLsb, Bool.and_false] <;> rfl

theorem RoundTrip.tLdrhReg (ro : BitVec 3) (rb : BitVec 3) (rd : BitVec 3) :
    RoundTrip.Statement (.tLdrhReg ro rb rd) := by
  intro _
  show decodeThumb (0b0101101#7 ++ ro ++ rb ++ rd) = _
  unfold decodeThumb
  simp only [HAppend.hAppend]
  simp (decide := true) only [decodeThumbLsReg, Append.append, fld_append_high, fld_append_low, fld_whole, bitAt_append_high, bitAt_append_low, bitAt_ofNat, ↓reduceIte, Nat.reduceSub, BitVec.reduceGetLsb, Bool.and_false] <;> rfl

theorem RoundTrip.tLdsbReg (ro : BitVec 3) (rb : BitVec 3) (rd : BitVec 3) :
    RoundTrip.Statement (.tLdsbReg ro rb rd) := by
  intro _
  show decodeThumb (0b0101011#7 ++ ro ++ rb ++ rd) = _
  unfold decodeThumb
  simp only [HAppend.hAppend]
  simp (decide := true) only [decodeThumbLsReg, Append.append, fld_append_high, fld_append_low, fld_whole, bitAt_append_high, bitAt_append_low, bitAt_ofNat, ↓reduceIte, Nat.reduceSub, BitVec.reduceGetLsb, Bool.and_false] <;> rfl

theorem RoundTrip.tLdshReg (ro : BitVec 3) (rb : BitVec 3) (rd : BitVec 3) :
    RoundTrip.Statement (.tLdshReg ro rb rd) := by
  intro _
  show decodeThumb (0b0101111#7 ++ ro ++ rb ++ rd) = _
  unfold decodeThumb
  simp only [HAppend.hAppend]
  simp (decide := true) only [decodeThumbLsReg, Append.append, fld_append_high, fld_append_low, fld_whole, bitAt_append_high, bitAt_append_low, bitAt_ofNat, ↓reduceIte, Nat.reduceSub, BitVec.reduceGetLsb, Bool.and_false] <;> rfl

theorem RoundTrip.tStrImm (imm5 : BitVec 5) (rb : BitVec 3) (rd : BitVec 3) :
    RoundTrip.Statement (.tStrImm imm5 rb rd) := by
  intro _
  show decodeThumb (0b01100#5 ++ imm5 ++ rb ++ rd) = _
  unfold decodeThumb
  simp only [HAppend.hAppend]
  simp (decide := true) only [Append.append, fld_append_high, fld_append_low, fld_whole, bitAt_append_high, bitAt_append_low, bitAt_ofNat, ↓reduceIte, Nat.reduceSub, BitVec.reduceGetLsb, Bool.and_false] <;> rfl

theorem RoundTrip.tLdrImm (imm5 : BitVec 5) (rb : BitVec 3) (rd : BitVec 3) :
    RoundTrip.Statement (.tLdrImm imm5 rb rd) := by
  intro _
  show decodeThumb (0b01101#5 ++ imm5 ++ rb ++ rd) = _
  unfold decodeThumb
  simp only [HAppend.hAppend]
  simp (decide := true) only [Append.append, fld_append_high, fld_append_low, fld_whole, bitAt_append_high, bitAt_append_low, bitAt_ofNat, ↓reduceIte, Nat.reduceSub, BitVec.reduceGetLsb, Bool.and_false] <;> rfl

theorem RoundTrip.tStrbImm (imm5 : BitVec 5) (rb : BitVec 3) (rd : BitVec 3) :
    RoundTrip.Statement (.tStrbImm imm5 rb rd) := by
  intro _
  show decodeThumb (0b01110#5 ++ imm5 ++ rb ++ rd) = _
  unfold decodeThumb
  simp only [HAppend.hAppend]
  simp (decide := true) only [Append.append, fld_append_high, fld_append_low, fld_whole, bitAt_append_high, bitAt_append_low, bitAt_ofNat, ↓reduceIte, Nat.reduceSub, BitVec.reduceGetLsb, Bool.and_false] <;> rfl

theorem RoundTrip.tLdrbImm (imm5 : BitVec 5) (rb : BitVec 3) (rd : BitVec 3) :
    RoundTrip.Statement (.tLdrbImm imm5 rb rd) := by
  intro _
  show decodeThumb (0b01111#5 ++ imm5 ++ rb ++ rd) = _
  unfold decodeThumb
  simp only [HAppend.hAppend]
  simp (decide := true) only [Append.append, fld_append_high, fld_append_low, fld_whole, bitAt_append_high, bitAt_append_low, bitAt_ofNat, ↓reduceIte, Nat.reduceSub, BitVec.reduceGetLsb, Bool.and_false] <;> rfl

theorem RoundTrip.tStrhImm (imm5 : BitVec 5) (rb : BitVec 3) (rd : BitVec 3) :
    RoundTrip.Statement (.tStrhImm imm5 rb rd) := by
  intro _
  show decodeThumb (0b10000#5 ++ imm5 ++ rb ++ rd) = _
  unfold decodeThumb
  simp only [HAppend.hAppend]
  simp (decide := true) only [Append.append, fld_append_high, fld_append_low, fld_whole, bitAt_append_high, bitAt_append_low, bitAt_ofNat, ↓reduceIte, Nat.reduceSub, BitVec.reduceGetLsb, Bool.and_false] <;> rfl

theorem RoundTrip.tLdrhImm (imm5 : BitVec 5) (rb : BitVec 3) (rd : BitVec 3) :
    RoundTrip.Statement (.tLdrhImm imm5 rb rd) := by
  intro _
  show decodeThumb (0b10001#5 ++ imm5 ++ rb ++ rd) = _
  unfold decodeThumb
  simp only [HAppend.hAppend]
  simp (decide := true) only [Append.append, fld_append_high, fld_append_low, fld_whole, bitAt_append_high, bitAt_append_low, bitAt_ofNat, ↓reduceIte, Nat.reduceSub, BitVec.reduceGetLsb, Bool.and_false] <;> rfl

theorem RoundTrip.tStrSp (rd : BitVec 3) (imm8 : BitVec 8) :
    RoundTrip.Statement (.tStrSp rd imm8) := by
  intro _
  show decodeThumb (0b10010#5 ++ rd ++ imm8) = _
  unfold decodeThumb
  simp only [HAppend.hAppend]
  simp (decide := true) only [Append.append, fld_append_high, fld_append_low, fld_whole, bitAt_append_high, bitAt_append_low, bitAt_ofNat, ↓reduceIte, Nat.reduceSub, BitVec.reduceGetLsb, Bool.and_false] <;> rfl

theorem RoundTrip.tLdrSp (rd : BitVec 3) (imm8 : BitVec 8) :
    RoundTrip.Statement (.tLdrSp rd imm8) := by
  intro _
  show decodeThumb (0b10011#5 ++ rd ++ imm8) = _
  unfold decodeThumb
  simp only [HAppend.hAppend]
  simp (decide := true) only [Append.append, fld_append_high, fld_append_low, fld_whole, bitAt_append_high, bitAt_append_low, bitAt_ofNat, ↓reduceIte, Nat.reduceSub, BitVec.reduceGetLsb, Bool.and_false] <;> rfl

theorem RoundTrip.tAddPc (rd : BitVec 3) (imm8 : BitVec 8) :
    RoundTrip.Statement (.tAddPc rd imm8) := by
  intro _
  show decodeThumb (0b10100#5 ++ rd ++ imm8) = _
  unfold decodeThumb
  simp only [HAppend.hAppend]
  simp (decide := true) only [Append.append, fld_append_high, fld_append_low, fld_whole, bitAt_append_high, bitAt_append_low, bitAt_ofNat, ↓reduceIte, Nat.reduceSub, BitVec.reduceGetLsb, Bool.and_false] <;> rfl

theorem RoundTrip.tAddSp (rd : BitVec 3) (imm8 : BitVec 8) :
    RoundTrip.Statement (.tAddSp rd imm8) := by
  intro _
  show decodeThumb (0b10101#5 ++ rd ++ imm8) = _
  unfold decodeThumb
  simp only [HAppend.hAppend]
  simp (decide := true) only [Append.append, fld_append_high, fld_append_low, fld_whole, bitAt_append_high, bitAt_append_low, bitAt_ofNat, ↓reduceIte, Nat.reduceSub, BitVec.reduceGetLsb, Bool.and_false] <;> rfl

theorem RoundTrip.tAddSpImm (imm7 : BitVec 7) :
    RoundTrip.Statement (.tAddSpImm imm7) := by
  intro _
  show decodeThumb (0b101100000#9 ++ imm7) = _
  unfold decodeThumb
  simp only [HAppend.hAppend]
  simp (decide := true) only [decodeThumbMisc, Append.append, fld_append_high, fld_append_low, fld_whole, bitAt_append_high, bitAt_append_low, bitAt_ofNat, ↓reduceIte, Nat.reduceSub, BitVec.reduceGetLsb, Bool.and_false] <;> rfl

theorem RoundTrip.tSubSpImm (imm7 : BitVec 7) :
    RoundTrip.Statement (.tSubSpImm imm7) := by
  intro _
  show decodeThumb (0b101100001#9 ++ imm7) = _
  unfold decodeThumb
  simp only [HAppend.hAppend]
  simp (decide := true) only [decodeThumbMisc, Append.append, fld_append_high, fld_append_low, fld_whole, bitAt_append_high, bitAt_append_low, bitAt_ofNat, ↓reduceIte, Nat.reduceSub, BitVec.reduceGetLsb, Bool.and_false] <;> rfl

theorem RoundTrip.tPush (r : BitVec 1) (rlist : BitVec 8) :
    RoundTrip.Statement (.tPush r rlist) := by
  intro _
  show decodeThumb (0b1011010#7 ++ r ++ rlist) = _
  unfold decodeThumb
  simp only [HAppend.hAppend]
  simp (decide := true) only [decodeThumbMisc, Append.append, fld_append_high, fld_append_low, fld_whole, bitAt_append_high, bitAt_append_low, bitAt_ofNat, ↓reduceIte, Nat.reduceSub, BitVec.reduceGetLsb, Bool.and_false] <;> rfl

theorem RoundTrip.tPop (r : BitVec 1) (rlist : BitVec 8) :
    RoundTrip.Statement (.tPop r rlist) := by
  intro _
  show decodeThumb (0b1011110#7 ++ r ++ rlist) = _
  unfold decodeThumb
  simp only [HAppend.hAppend]
  simp (decide := true) only [decodeThumbMisc, Append.append, fld_append_high, fld_append_low, fld_whole, bitAt_append_high, bitAt_append_low, bitAt_ofNat, ↓reduceIte, Nat.reduceSub, BitVec.reduceGetLsb, Bool.and_false] <;> rfl

theorem RoundTrip.tUndB1 (rest : BitVec 8) :
    RoundTrip.Statement (.tUndB1 rest) := by
  intro _
  show decodeThumb (0b10110001#8 ++ rest) = _
  unfold decodeThumb
  simp only [HAppend.hAppend]
  simp (decide := true) only [decodeThumbMisc, Append.append, fld_append_high, fld_append_low, fld_whole, bitAt_append_high, bitAt_append_low, bitAt_ofNat, ↓reduceIte, Nat.reduceSub, BitVec.reduceGetLsb, Bool.and_false] <;> rfl

theorem RoundTrip.tUndB2 (rest : BitVec 9) :
    RoundTrip.Statement (.tUndB2 rest) := by
  intro _
  show decodeThumb (0b1011001#7 ++ rest) = _
  unfold decodeThumb
  simp only [HAppend.hAppend]
  simp (decide := true) only [decodeThumbMisc, Append.append, fld_append_high, fld_append_low, fld_whole, bitAt_append_high, bitAt_append_low, bitAt_ofNat, ↓reduceIte, Nat.reduceSub, BitVec.reduceGetLsb, Bool.and_false] <;> rfl

theorem RoundTrip.tUndB6 (rest : BitVec 9) :
    RoundTrip.Statement (.tUndB6 rest) := by
  intro _
  show decodeThumb (0b1011011#7 ++ rest) = _
  unfold decodeThumb
  simp only [HAppend.hAppend]
  simp (decide := true) only [decodeThumbMisc, Append.append, fld_append_high, fld_append_low, fld_whole, bitAt_append_high, bitAt_append_low, bitAt_ofNat, ↓reduceIte, Nat.reduceSub, BitVec.reduceGetLsb, Bool.and_false] <;> rfl

theorem RoundTrip.tUndB8 (rest : BitVec 10) :
    RoundTrip.Statement (.tUndB8 rest) := by
  intro _
  show decodeThumb (0b101110#6 ++ rest) = _
  unfold decodeThumb
  simp only [HAppend.hAppend]
  simp (decide := true) only [decodeThumbMisc, Append.append, fld_append_high, fld_append_low, fld_whole, bitAt_append_high, bitAt_append_low, bitAt_ofNat, ↓reduceIte, Nat.reduceSub, BitVec.reduceGetLsb, Bool.and_false] <;> rfl

theorem RoundTrip.tUndBE (rest : BitVec 9) :
    RoundTrip.Statement (.tUndBE rest) := by
  intro _
  show decodeThumb (0b1011111#7 ++ rest) = _
  unfold decodeThumb
  simp only [HAppend.hAppend]
  simp (decide := true) only [decodeThumbMisc, Append.append, fld_append_high, fld_append_low, fld_whole, bitAt_append_high, bitAt_append_low, bitAt_ofNat, ↓reduceIte, Nat.reduceSub, BitVec.reduceGetLsb, Bool.and_false] <;> rfl

theorem RoundTrip.tStmia (rb : BitVec 3) (rlist : BitVec 8) :
    RoundTrip.Statement (.tStmia rb rlist) := by
  intro _
  show decodeThumb (0b11000#5 ++ rb ++ rlist) = _
  unfold decodeThumb
  simp only [HAppend.hAppend]
  simp (decide := true) only [Append.append, fld_append_high, fld_append_low, fld_whole, bitAt_append_high, bitAt_append_low, bitAt_ofNat, ↓reduceIte, Nat.reduceSub, BitVec.reduceGetLsb, Bool.and_false] <;> rfl

theorem RoundTrip.tLdmia (rb : BitVec 3) (rlist : BitVec 8) :
    RoundTrip.Statement (.tLdmia rb rlist) := by
  intro _
  show decodeThumb (0b11001#5 ++ rb ++ rlist) = _
  unfold decodeThumb
  simp only [HAppend.hAppend]
  simp (decide := true) only [Append.append, fld_append_high, fld_append_low, fld_whole, bitAt_append_high, bitAt_append_low, bitAt_ofNat, ↓reduceIte, Nat.reduceSub, BitVec.reduceGetLsb, Bool.and_false] <;> rfl

theorem RoundTrip.tBeq (soffset8 : BitVec 8) :
    RoundTrip.Statement (.tBeq soffset8) := by
  intro _
  show decodeThumb (0b11010000#8 ++ soffset8) = _
  unfold decodeThumb
  simp only [HAppend.hAppend]
  simp (decide := true) only [decodeThumbCond, Append.append, fld_append_high, fld_append_low, fld_whole, bitAt_append_high, bitAt_append_low, bitAt_ofNat, ↓reduceIte, Nat.reduceSub, BitVec.reduceGetLsb, Bool.and_false] <;> rfl

theorem RoundTrip.tBne (soffset8 : BitVec 8) :
    RoundTrip.Statement (.tBne soffset8) := by
  intro _
  show decodeThumb (0b11010001#8 ++ soffset8) = _
  unfold decodeThumb
  simp only [HAppend.hAppend]
  simp (decide := true) only [decodeThumbCond, Append.append, fld_append_high, fld_append_low, fld_whole, bitAt_append_high, bitAt_append_low, bitAt_ofNat, ↓reduceIte, Nat.reduceSub, BitVec.reduceGetLsb, Bool.and_false] <;> rfl

theorem RoundTrip.tBcs (soffset8 : BitVec 8) :
    RoundTrip.Statement (.tBcs soffset8) := by
  intro _
  show decodeThumb (0b11010010#8 ++ soffset8) = _
  unfold decodeThumb
  simp only [HAppend.hAppend]
  simp (decide := true) only [decodeThumbCond, Append.append, fld_append_high, fld_append_low, fld_whole, bitAt_append_high, bitAt_append_low, bitAt_ofNat, ↓reduceIte, Nat.reduceSub, BitVec.reduceGetLsb, Bool.and_false] <;> rfl

theorem RoundTrip.tBcc (soffset8 : BitVec 8) :
    RoundTrip.Statement (.tBcc soffset8) := by
  intro _
  show decodeThumb (0b11010011#8 ++ soffset8) = _
  unfold decodeThumb
  simp only [HAppend.hAppend]
  simp (decide := true) only [decodeThumbCond, Append.append, fld_append_high, fld_append_low, fld_whole, bitAt_append_high, bitAt_append_low, bitAt_ofNat, ↓reduceIte, Nat.reduceSub, BitVec.reduceGetLsb, Bool.and_false] <;> rfl

theorem RoundTrip.tBmi (soffset8 : BitVec 8) :
    RoundTrip.Statement (.tBmi soffset8) := by
  intro _
  show decodeThumb (0b11010100#8 ++ soffset8) = _
  unfold decodeThumb
  simp only [HAppend.hAppend]
  simp (decide := true) only [decodeThumbCond, Append.append, fld_append_high, fld_append_low, fld_whole, bitAt_append_high, bitAt_append_low, bitAt_ofNat, ↓reduceIte, Nat.reduceSub, BitVec.reduceGetLsb, Bool.and_false] <;> rfl

theorem RoundTrip.tBpl (soffset8 : BitVec 8) :
    RoundTrip.Statement (.tBpl soffset8) := by
  intro _
  show decodeThumb (0b11010101#8 ++ soffset8) = _
  unfold decodeThumb
  simp only [HAppend.hAppend]
  simp (decide := true) only [decodeThumbCond, Append.append, fld_append_high, fld_append_low, fld_whole, bitAt_append_high, bitAt_append_low, bitAt_ofNat, ↓reduceIte, Nat.reduceSub, BitVec.reduceGetLsb, Bool.and_false] <;> rfl

theorem RoundTrip.tBvs (soffset8 : BitVec 8) :
    RoundTrip.Statement (.tBvs soffset8) := by
  intro _
  show decodeThumb (0b11010110#8 ++ soffset8) = _
  unfold decodeThumb
  simp only [HAppend.hAppend]
  simp (decide := true) only [decodeThumbCond, Append.append, fld_append_high, fld_append_low, fld_whole, bitAt_append_high, bitAt_append_low, bitAt_ofNat, ↓reduceIte, Nat.reduceSub, BitVec.reduceGetLsb, Bool.and_false] <;> rfl

theorem RoundTrip.tBvc (soffset8 : BitVec 8) :
    RoundTrip.Statement (.tBvc soffset8) := by
  intro _
  show decodeThumb (0b11010111#8 ++ soffset8) = _
  unfold decodeThumb
  simp only [HAppend.hAppend]
  simp (decide := true) only [decodeThumbCond, Append.append, fld_append_high, fld_append_low, fld_whole, bitAt_append_high, bitAt_append_low, bitAt_ofNat, ↓reduceIte, Nat.reduceSub, BitVec.reduceGetLsb, Bool.and_false] <;> rfl

theorem RoundTrip.tBhi (soffset8 : BitVec 8) :
    RoundTrip.Statement (.tBhi soffset8) := by
  intro _
  show decodeThumb (0b11011000#8 ++ soffset8) = _
  unfold decodeThumb
  simp only [HAppend.hAppend]
  simp (decide := true) only [decodeThumbCond, Append.append, fld_append_high, fld_append_low, fld_whole, bitAt_append_high, bitAt_append_low, bitAt_ofNat, ↓reduceIte, Nat.reduceSub, BitVec.reduceGetLsb, Bool.and_false] <;> rfl

theorem RoundTrip.tBls (soffset8 : BitVec 8) :
    RoundTrip.Statement (.tBls soffset8) := by
  intro _
  show decodeThumb (0b11011001#8 ++ soffset8) = _
  unfold decodeThumb
  simp only [HAppend.hAppend]
  simp (decide := true) only [decodeThumbCond, Append.append, fld_append_high, fld_append_low, fld_whole, bitAt_append_high, bitAt_append_low, bitAt_ofNat, ↓reduceIte, Nat.reduceSub, BitVec.reduceGetLsb, Bool.and_false] <;> rfl

theorem RoundTrip.tBge (soffset8 : BitVec 8) :
    RoundTrip.Statement (.tBge soffset8) := by
  intro _
  show decodeThumb (0b11011010#8 ++ soffset8) = _
  unfold decodeThumb
  simp only [HAppend.hAppend]
  simp (decide := true) only [decodeThumbCond, Append.append, fld_append_high, fld_append_low, fld_whole, bitAt_append_high, bitAt_append_low, bitAt_ofNat, ↓reduceIte, Nat.reduceSub, BitVec.reduceGetLsb, Bool.and_false] <;> rfl

theorem RoundTrip.tBlt (soffset8 : BitVec 8) :
    RoundTrip.Statement (.tBlt soffset8) := by
  intro _
  show decodeThumb (0b11011011#8 ++ soffset8) = _
  unfold decodeThumb
  simp only [HAppend.hAppend]
  simp (decide := true) only [decodeThumbCond, Append.append, fld_append_high, fld_append_low, fld_whole, bitAt_append_high, bitAt_append_low, bitAt_ofNat, ↓reduceIte, Nat.reduceSub, BitVec.reduceGetLsb, Bool.and_false] <;> rfl

theorem RoundTrip.tBgt (soffset8 : BitVec 8) :
    RoundTrip.Statement (.tBgt soffset8) := by
  intro _
  show decodeThumb (0b11011100#8 ++ soffset8) = _
  unfold decodeThumb
  simp only [HAppend.hAppend]
  simp (decide := true) only [decodeThumbCond, Append.append, fld_append_high, fld_append_low, fld_whole, bitAt_append_high, bitAt_append_low, bitAt_ofNat, ↓reduceIte, Nat.reduceSub, BitVec.reduceGetLsb, Bool.and_false] <;> rfl

theorem RoundTrip.tBle (soffset8 : BitVec 8) :
    RoundTrip.Statement (.tBle soffset8) := by
  intro _
  show decodeThumb (0b11011101#8 ++ soffset8) = _
  unfold decodeThumb
  simp only [HAppend.hAppend]
  simp (decide := true) only [decodeThumbCond, Append.append, fld_append_high, fld_append_low, fld_whole, bitAt_append_high, bitAt_append_low, bitAt_ofNat, ↓reduceIte, Nat.reduceSub, BitVec.reduceGetLsb, Bool.and_false] <;> rfl

theorem RoundTrip.tUndCond (rest : BitVec 8) :
    RoundTrip.Statement (.tUndCond rest) := by
  intro _
  show decodeThumb (0b11011110#8 ++ rest) = _
  unfold decodeThumb
  simp only [HAppend.hAppend]
  simp (decide := true) only [decodeThumbCond, Append.append, fld_append_high, fld_append_low, fld_whole, bitAt_append_high, bitAt_append_low, bitAt_ofNat, ↓reduceIte, Nat.reduceSub, BitVec.reduceGetLsb, Bool.and_false] <;> rfl

theorem RoundTrip.tSwi (imm8 : BitVec 8) :
    RoundTrip.Statement (.tSwi imm8) := by
  intro _
  show decodeThumb (0b11011111#8 ++ imm8) = _
  unfold decodeThumb
  simp only [HAppend.hAppend]
  simp (decide := true) only [decodeThumbCond, Append.append, fld_append_high, fld_append_low, fld_whole, bitAt_append_high, bitAt_append_low, bitAt_ofNat, ↓reduceIte, Nat.reduceSub, BitVec.reduceGetLsb, Bool.and_false] <;> rfl

theorem RoundTrip.tB (offset11 : BitVec 11) :
    RoundTrip.Statement (.tB offset11) := by
  intro _
  show decodeThumb (0b11100#5 ++ offset11) = _
  unfold decodeThumb
  simp only [HAppend.hAppend]
  simp (decide := true) only [Append.append, fld_append_high, fld_append_low, fld_whole, bitAt_append_high, bitAt_append_low, bitAt_ofNat, ↓reduceIte, Nat.reduceSub, BitVec.reduceGetLsb, Bool.and_false] <;> rfl

theorem RoundTrip.tUndE8 (rest : BitVec 11) :
    RoundTrip.Statement (.tUndE8 rest) := by
  intro _
  show decodeThumb (0b11101#5 ++ rest) = _
  unfold decodeThumb
  simp only [HAppend.hAppend]
  simp (decide := true) only [Append.append, fld_append_high, fld_append_low, fld_whole, bitAt_append_high, bitAt_append_low, bitAt_ofNat, ↓reduceIte, Nat.reduceSub, BitVec.reduceGetLsb, Bool.and_false] <;> rfl

theorem RoundTrip.tBlFirst (offset11 : BitVec 11) :
    RoundTrip.Statement (.tBlFirst offset11) := by
  intro _
  show decodeThumb (0b11110#5 ++ offset11) = _
  unfold decodeThumb
  simp only [HAppend.hAppend]
  simp (decide := true) only [Append.append, fld_append_high, fld_append_low, fld_whole, bitAt_append_high, bitAt_append_low, bitAt_ofNat, ↓reduceIte, Nat.reduceSub, BitVec.reduceGetLsb, Bool.and_false] <;> rfl

theorem RoundTrip.tBlSecond (offset11 : BitVec 11) :
    RoundTrip.Statement (.tBlSecond offset11) := by
  intro _
  show decodeThumb (0b11111#5 ++ offset11) = _
  unfold decodeThumb
  simp only [HAppend.hAppend]
  simp (decide := true) only [Append.append, fld_append_high, fld_append_low, fld_whole, bitAt_append_high, bitAt_append_low, bitAt_ofNat, ↓reduceIte, Nat.reduceSub, BitVec.reduceGetLsb, Bool.and_false] <;> rfl

end Sys2Proof.Laws
end

