-- ==== Sys2Proof/Tests/Slice0.lean ====
section
/-!
SUPPORT. Tests.  Expected values come from the spec: the encoding tables, section 2 of 95_test_vectors.md and
the rules named.  Each hypothesis of an obligation has a witness at the end.
-/

namespace Sys2Proof.Tests

open Sys2Proof Sys2Proof.Machine

set_option Elab.async false
set_option maxRecDepth 20000

/-! Helpers. -/

/-- A small state: the pc, the status word, registers of its mode and words of memory. -/
def start (pc status : Nat) (regs mem : List (Nat × Nat)) : State :=
  let s := { State.reset with pc := BitVec.ofNat 32 pc, cpsr := BitVec.ofNat 32 status }
  let s := regs.foldl (fun s r => s.setReg (BitVec.ofNat 4 r.1) (BitVec.ofNat 32 r.2)) s
  { s with mem := mem.foldl (fun m c => memWrite m (BitVec.ofNat 32 c.1) 15#4 (BitVec.ofNat 32 c.2)) s.mem }

/-- The code, executed, answers a next state in which `f` holds. -/
def runs (c : Code) (s : State) (f : State → Bool) : Bool :=
  match exec (decode c) s with
  | .next t => f t
  | _ => false

/-- A step answers a next state in which `f` holds. -/
def steps (s : State) (f : State → Bool) : Bool :=
  match step s with
  | .next t => f t
  | _ => false

/-- The code, executed, is refused. -/
def refuses (c : Code) (s : State) : Bool :=
  match exec (decode c) s with
  | .refused _ => true
  | _ => false

/-- The code, executed, leaves this pc, this status word, these registers and words of memory. -/
def ends (c : Code) (s : State) (pc status : Nat) (regs mem : List (Nat × Nat)) : Bool :=
  runs c s fun t =>
    t.pc == BitVec.ofNat 32 pc && t.cpsr == BitVec.ofNat 32 status &&
      regs.all (fun r => t.reg (BitVec.ofNat 4 r.1) == BitVec.ofNat 32 r.2) &&
      mem.all fun c => memWord t.mem (BitVec.ofNat 32 c.1) == BitVec.ofNat 32 c.2

/-- The state with the B bit of the control register set. -/
def bigEndian (s : State) : State := { s with cp15 := { s.cp15 with b := true } }

/-- The state with line 1 of segment 1 valid in both caches, dirty in the DCache; its TAG is that of
`0x10010`. -/
def cached (s : State) : State :=
  let l : Line := { valid := true, dirty := false, tag := 0x400#26, data := #v[1#32, 2#32, 3#32, 4#32] }
  { s with icache := s.icache.setLine 1 1 l, dcache := s.dcache.setLine 1 1 { l with dirty := true } }

/-- A state with coprocessor 5 attached and its answers set; r1 is `0x1000`. -/
def withCp5 (answers : List CpAnswer) : State :=
  { start 0x8000 0xD3 [(1, 0x1000)] [] with attached := 0b100000#14, cpAnswers := answers }

/-- Setup A of section 2.16 with r1 given: data regions 1 (16KB at 0) and 2 (4KB at `0x3000`). -/
def setupA (status address : Nat) : State :=
  { start 0x8000 status [(1, address)] [(0x1000, 0x22222222), (0x3010, 0x11111111), (0x3FFC, 0x33333333)] with
    cp15 := { Cp15.reset false with
      p := true
      apD := 0x0024#16
      regionsD := ((Vector.replicate 8 Region.reset).set 1 (Region.ofWord 0x1B#32)).set 2 (Region.ofWord 0x3017#32)
      apI := 3#16
      regionsI := (Vector.replicate 8 Region.reset).set 0 (Region.ofWord 0x3F#32) } }

/-! Well-formedness: each check with an ill-formed term that it refuses (R202, R206). -/

theorem test_wellFormed_refuses_cond :
    (Instr.add 15#4 0#1 0#4 0#4 (.imm 0#4 0#8)).wellFormed = false ∧
    (Instr.add 14#4 0#1 0#4 0#4 (.imm 0#4 0#8)).wellFormed = true ∧
    (Instr.swi 15#4 0#24).wellFormed = false ∧ (Instr.mrcP15c1c0o0 15#4 0#4).wellFormed = false := by
  decide

theorem test_wellFormed_refuses_listed_transfers :
    (Instr.mrc 14#4 0#3 1#4 0#4 15#4 0#3 0#4).wellFormed = false ∧
    (Instr.mcr 14#4 0#3 1#4 0#4 15#4 0#3 0#4).wellFormed = false ∧
    (Instr.mrc 14#4 0#3 0#4 0#4 14#4 0#3 0#4).wellFormed = false ∧
    (Instr.mcr 14#4 0#3 1#4 0#4 14#4 0#3 0#4).wellFormed = false ∧
    (Instr.mrc 14#4 0#3 4#4 0#4 15#4 0#3 0#4).wellFormed = true ∧
    (Instr.mcr 14#4 0#3 1#4 0#4 5#4 0#3 0#4).wellFormed = true := by
  decide

/-! Exceptions (section 2.11; R530, R531). -/

/-- SWI from User mode, SWI in Thumb state, an undefined word and an undefined halfword. -/
theorem test_exceptions :
    ends (.arm 0xEF123456#32) (start 0x8000 0x60000010 [] []) 8 0x60000093 [(14, 0x8004)] [] = true ∧
    ends (.thumb 0xDFAB#16) (start 0x8000 0x3F [] []) 8 0x93 [(14, 0x8002)] [] = true ∧
    ends (.arm 0xE7F000F0#32) (start 0x8000 0x10 [] []) 4 0x9B [(14, 0x8004)] [] = true ∧
    ends (.thumb 0xE800#16) (start 0x8000 0x30 [] []) 4 0x9B [(14, 0x8002)] [] = true ∧
    runs (.arm 0xEF123456#32) (start 0x8000 0x60000010 [] []) (fun t => t.spsrSvc == 0x60000010#32) = true ∧
    ends (.arm 0x1F000000#32) (start 0x8000 0x400000D3 [] []) 0x8004 0x400000D3 [] [] = true := by
  decide

/-- Every undefined ARM row (R230 to R235) enters Undefined mode; its word is the fixed bits of the row. -/
theorem test_undefined_arm :
    ([0xE3000000, 0xE1000010, 0xE1600010, 0xE1000040, 0xE1000020, 0xE1000080, 0xE0400090, 0xE1800090,
        0xE1100090, 0xE1200090, 0xE00000D0, 0xE6000010, 0xEC000000] : List Nat).all
      (fun w => ends (.arm (BitVec.ofNat 32 w)) (start 0x8000 0xD3 [] []) 4 0xDB [(14, 0x8004)] []) = true := by
  decide

/-- Every undefined Thumb row (R236) enters Undefined mode; its halfword is the fixed bits of the row. -/
theorem test_undefined_thumb :
    ([0xB100, 0xB200, 0xB600, 0xB800, 0xBE00, 0xDE00, 0xE800] : List Nat).all
      (fun w => ends (.thumb (BitVec.ofNat 16 w)) (start 0x8000 0xF3 [] []) 4 0xDB [(14, 0x8002)] []) = true := by
  decide

/-- The words of `cond = 0b1111` and the UNPREDICTABLE halfwords of format 5 are refused (R204, R236). -/
theorem test_stops :
    refuses (.arm 0xF3A00001#32) (start 0x8000 0xD3 [] []) = true ∧
    refuses (.thumb 0x4408#16) (start 0x8000 0xF3 [] []) = true ∧
    refuses (.thumb 0x4508#16) (start 0x8000 0xF3 [] []) = true ∧
    refuses (.thumb 0x4608#16) (start 0x8000 0xF3 [] []) = true ∧
    refuses (.thumb 0x47C8#16) (start 0x8000 0xF3 [] []) = true := by
  decide

/-- UNPREDICTABLE forms: LDR and LDRH with Rd = Rn and writeback, SWP with Rn = Rm, STM and STMIA with a listed base above
the lowest, MRS and MSR of the SPSR in User mode, a read of CP15 register 7, and an MCR and an MRC of CP14 that are no
row (R214, R215, R334, R350, R506, R280, R281, R424, R433). -/
theorem test_unpredictable_forms :
    ([0xE4911004, 0xE5B11004, 0xE4B11004, 0xE0D110B2, 0xE1020092, 0xE1420092, 0xE8A20006, 0xEE170F10, 0xEE000E10,
        0xEE120E10] : List Nat).all
      (fun w => refuses (.arm (BitVec.ofNat 32 w)) (start 0x8000 0xD3 [(1, 0x1000), (2, 0x1000)] [])) = true ∧
    ([0xE14F0000, 0xE169F000, 0xE369F001] : List Nat).all
      (fun w => refuses (.arm (BitVec.ofNat 32 w)) (start 0x8000 0x10 [] [])) = true ∧
    refuses (.thumb 0xC206#16) (start 0x8000 0xF3 [(2, 0x1000)] []) = true ∧
    ends (.arm 0xE8A10006#32) (start 0x8000 0xD3 [(1, 0x1000), (2, 7)] []) 0x8004 0xD3 [(1, 0x1008)]
      [(0x1000, 0x1000), (0x1004, 7)] = true := by
  decide

/-! Banked forms (sections 2.4 and 2.9). -/

/-- `LDMFD sp!,(r4,pc)^`, `MOVS pc,lr` to Thumb state, and to ARM state with bit 1 set (R284, U4), and both
user-bank forms. -/
theorem test_banked_forms :
    ends (.arm 0xE8FD8010#32)
      { start 0x8000 0xD3 [(13, 0x1000)] [(0x1000, 0x44), (0x1004, 0x9000)] with spsrSvc := 0x80000010#32 }
      0x9000 0x80000010 [(4, 0x44)] [] = true ∧
    ends (.arm 0xE1B0F00E#32) { start 0x8000 0xD3 [(14, 0x9002)] [] with spsrSvc := 0x30#32 }
      0x9002 0x30 [] [] = true ∧
    refuses (.arm 0xE1B0F00E#32) { start 0x8000 0xD3 [(14, 0x9002)] [] with spsrSvc := 0x10#32 } = true ∧
    runs (.arm 0xE8D06000#32) (start 0x8000 0xD3 [(0, 0x1000), (13, 0xAAAA)] [(0x1000, 0x10), (0x1004, 0x11)])
      (fun t => t.bankGet modeUsr 13#4 == 0x10#32 && t.bankGet modeUsr 14#4 == 0x11#32 &&
        t.bankGet modeSvc 13#4 == 0xAAAA#32) = true ∧
    ends (.arm 0xE8C06000#32)
      (((start 0x8000 0xD3 [(0, 0x2000), (13, 0xAAAA)] []).bankSet modeUsr 13#4 0x1111#32).bankSet modeUsr 14#4
        0x2222#32) 0x8004 0xD3 [] [(0x2000, 0x1111), (0x2004, 0x2222)] = true := by
  decide

/-- The post-indexed and T forms that section 2.6 has no row for, by R323 to R328. -/
theorem test_post_indexed_forms :
    ends (.arm 0xE4B10004#32) (start 0x8000 0xD3 [(1, 0x1000)] [(0x1000, 0x44332211)]) 0x8004 0xD3
      [(0, 0x44332211), (1, 0x1004)] [] = true ∧
    ends (.arm 0xE4F10001#32) (start 0x8000 0xD3 [(1, 0x1002)] [(0x1000, 0x44332211)]) 0x8004 0xD3
      [(0, 0x33), (1, 0x1003)] [] = true ∧
    ends (.arm 0xE4510001#32) (start 0x8000 0xD3 [(1, 0x1002)] [(0x1000, 0x44332211)]) 0x8004 0xD3
      [(0, 0x33), (1, 0x1001)] [] = true ∧
    ends (.arm 0xE4010004#32) (start 0x8000 0xD3 [(0, 0xAABBCCDD), (1, 0x1000)] []) 0x8004 0xD3
      [(1, 0xFFC)] [(0x1000, 0xAABBCCDD)] = true ∧
    ends (.arm 0xE4A10004#32) (start 0x8000 0xD3 [(0, 0xAABBCCDD), (1, 0x1000)] []) 0x8004 0xD3
      [(1, 0x1004)] [(0x1000, 0xAABBCCDD)] = true ∧
    ends (.arm 0xE4C10001#32) (start 0x8000 0xD3 [(0, 0xAABBCCDD), (1, 0x1001)] [(0x1000, 0x44332211)]) 0x8004 0xD3
      [(1, 0x1002)] [(0x1000, 0x4433DD11)] = true ∧
    ends (.arm 0xE4610001#32) (start 0x8000 0xD3 [(0, 0xAABBCCDD), (1, 0x1001)] [(0x1000, 0x44332211)]) 0x8004 0xD3
      [(1, 0x1000)] [(0x1000, 0x4433DD11)] = true := by
  decide

/-- Big-endian lanes (section 2.6, B = 1). -/
theorem test_big_endian :
    ends (.arm 0xE5D10000#32) (bigEndian (start 0x8000 0xD3 [(1, 0x1000)] [(0x1000, 0x44332211)])) 0x8004 0xD3
      [(0, 0x44)] [] = true ∧
    ends (.thumb 0x5E88#16) (bigEndian (start 0x8000 0xF3 [(1, 0x1000), (2, 2)] [(0x1000, 0x80FF7F01)])) 0x8002
      0xF3 [(0, 0x7F01)] [] = true := by
  decide

/-- The conditions of Thumb branches: taken on the flags in the first list, not on those in the second
(R203, R508). -/
theorem test_thumb_conditions :
    ([(0xD000, 4), (0xD100, 0), (0xD200, 2), (0xD300, 0), (0xD400, 8), (0xD500, 0), (0xD600, 1), (0xD700, 0),
        (0xD800, 2), (0xD900, 6), (0xDA00, 9), (0xDB00, 1), (0xDC00, 9), (0xDD00, 4)] : List (Nat × Nat)).all
      (fun p => ends (.thumb (BitVec.ofNat 16 p.1)) (start 0x8000 (p.2 * 2 ^ 28 + 0xF3) [] []) 0x8004
        (p.2 * 2 ^ 28 + 0xF3) [] []) = true ∧
    ([(0xD000, 0), (0xD100, 4), (0xD200, 0), (0xD300, 2), (0xD400, 0), (0xD500, 8), (0xD600, 0), (0xD700, 1),
        (0xD800, 6), (0xD900, 2), (0xDA00, 1), (0xDB00, 9), (0xDC00, 4), (0xDD00, 9)] : List (Nat × Nat)).all
      (fun p => ends (.thumb (BitVec.ofNat 16 p.1)) (start 0x8000 (p.2 * 2 ^ 28 + 0xF3) [] []) 0x8002
        (p.2 * 2 ^ 28 + 0xF3) [] []) = true := by
  decide

/-! Coprocessors, CP15 and CP14 (section 2.15). -/

/-- Coprocessor instructions that nothing answers, CP15 in User mode, and CDP, LDC and STC to CP15. -/
theorem test_coprocessor_absent :
    ([0xEE000100, 0xEE100110, 0xEE000110, 0xED910100, 0xECB10100, 0xEC310100, 0xED810100, 0xECA10100, 0xEC210100,
        0xEE000F00, 0xED910F00, 0xEE000E00] : List Nat).all
      (fun w => ends (.arm (BitVec.ofNat 32 w)) (start 0x8000 0xD3 [] []) 4 0xDB [(14, 0x8004)] []) = true ∧
    ends (.arm 0xEE100F10#32) (start 0x8000 0x10 [] []) 4 0x9B [(14, 0x8004)] [] = true ∧
    ends (.arm 0x1E100F10#32) (start 0x8000 0x40000010 [] []) 0x8004 0x40000010 [] [] = true := by
  decide

/-- The cache type register (R402), a read of it, and a write of the ID code
register. -/
theorem test_identification :
    (start 0x8000 0xD3 [] []).cp15.stated .cacheType = 0x0F0F10F1#32 ∧
    runs (.arm 0xEE100F30#32) (start 0x8000 0xD3 [] []) (fun t => t.pc == 0x8004#32 && t.cpsr == 0xD3#32) = true ∧
    refuses (.arm 0xEE000F10#32) (start 0x8000 0xD3 [] []) = true := by
  decide

/-- The control register: what is written and what is refused. -/
theorem test_control_register :
    ([(0x0000107D, 0x00001005), (0x00000078, 0), (0x00000079, 1), (0x000000F9, 0x81), (0x00002078, 0x2000),
        (0xC00020FD, 0xC0002085), (0x40000078, 0x40000000)] : List (Nat × Nat)).all
      (fun p => runs (.arm 0xEE010F10#32) (start 0x8000 0xD3 [(0, p.1)] [])
        (fun t => t.cp15.stated .control == BitVec.ofNat 32 p.2 && t.pc == 0x8004#32)) = true ∧
    ([0x80000078, 0x1078, 0x7C, 0, 0x7A, 0x178] : List Nat).all
      (fun v => refuses (.arm 0xEE010F10#32) (start 0x8000 0xD3 [(0, v)] [])) = true := by
  decide

/-- Registers 2, 3, 5, 9 and 15: the word of the MCR, the register, a value it takes, a value it refuses. -/
theorem test_system_registers :
    ([(0xEE020F10, .cachable .data, 0x02, 0x100), (0xEE020F30, .cachable .instr, 0xFF, 0x100),
        (0xEE030F10, .bufferable, 0x81, 0x100), (0xEE050F10, .permission .data, 0x24, 0x10000),
        (0xEE050F30, .permission .instr, 0xFFFF, 0x10000), (0xEE090F10, .lockdown .data, 1, 0x40),
        (0xEE090F30, .lockdown .instr, 0x8000003F, 0x40), (0xEE0F0F10, .test, 0xC, 1)] :
        List (Nat × SysReg × Nat × Nat)).all
      (fun p =>
        runs (.arm (BitVec.ofNat 32 p.1)) (start 0x8000 0xD3 [(0, p.2.2.1)] [])
          (fun t => t.cp15.stated p.2.1 == BitVec.ofNat 32 p.2.2.1) &&
        refuses (.arm (BitVec.ofNat 32 p.1)) (start 0x8000 0xD3 [(0, p.2.2.2)] [])) = true := by
  decide

/-- The sixteen region registers: 4KB at `n * 0x1000` is written to region `n`. -/
theorem test_region_registers :
    (List.range 8).all (fun n => [0, 1].all fun side =>
      runs (.arm (BitVec.ofNat 32 (0xEE060F10 + n + 32 * side))) (start 0x8000 0xD3 [(0, n * 0x1000 + 0x17)] [])
        (fun t => (t.cp15.regions (if side = 0 then .data else .instr)).toList.map (fun r => (r.base, r.enable)) ==
          (List.range 8).map (fun k => if k = n then (BitVec.ofNat 20 n, true) else (0#20, false)))) = true ∧
    ([0x1019, 0x15, 0x3057] : List Nat).all
      (fun v => refuses (.arm 0xEE060F10#32) (start 0x8000 0xD3 [(0, v)] [])) = true ∧
    runs (.arm 0xEE060F10#32) (start 0x8000 0xD3 [(0, 0x14)] []) (fun t => !t.cp15.regionsD[0].enable) = true := by
  decide

/-- The accesses that no row allows: the two misprints of the manual, reserved registers, opcode_1. -/
theorem test_cp15_refused :
    ([0xEE070F58, 0xEE070F35, 0xEE040F10, 0xEE210F10, 0xEE030F30, 0xEE060F18] : List Nat).all
      (fun w => refuses (.arm (BitVec.ofNat 32 w)) (start 0x8000 0xD3 [] [])) = true := by
  decide

/-- Flushing and cleaning: the lines of a small pair of caches, and what the write buffer takes. -/
theorem test_cache_operations :
    runs (.arm 0xEE070F15#32) (cached (start 0x8000 0xD3 [] [])) (fun t => !(t.icache.line 1 1).valid) = true ∧
    runs (.arm 0xEE070F55#32) (cached (start 0x8000 0xD3 [(0, 0x04000010)] []))
      (fun t => !(t.icache.line 1 1).valid && (t.dcache.line 1 1).valid) = true ∧
    runs (.arm 0xEE070F16#32) (cached (start 0x8000 0xD3 [] []))
      (fun t => !(t.dcache.line 1 1).valid && !(t.dcache.line 1 1).dirty && t.wbuf == []) = true ∧
    runs (.arm 0xEE070F56#32) (cached (start 0x8000 0xD3 [(0, 0x04000010)] []))
      (fun t => !(t.dcache.line 1 1).valid && !(t.dcache.line 1 1).dirty && t.wbuf == []) = true ∧
    runs (.arm 0xEE070F5A#32) (cached (start 0x8000 0xD3 [(0, 0x04000010)] []))
      (fun t => (t.dcache.line 1 1).valid && !(t.dcache.line 1 1).dirty &&
        t.wbuf == [{ addr := 0x10010#32, lanes := 15#4, data := [1#32, 2#32, 3#32, 4#32] }]) = true ∧
    runs (.arm 0xEE070F5E#32) (cached (start 0x8000 0xD3 [(0, 0x04000010)] []))
      (fun t => !(t.dcache.line 1 1).valid && (t.wbuf.map fun e => e.addr) == [0x10010#32]) = true ∧
    refuses (.arm 0xEE070F15#32) (start 0x8000 0xD3 [(0, 1)] []) = true := by
  decide

/-- Waiting for an interrupt, both words, and draining the write buffer. -/
theorem test_wait_and_drain :
    runs (.arm 0xEE070F90#32) (start 0x8000 0xD3 [] []) (fun t => t.waiting) = true ∧
    runs (.arm 0xEE0F0F58#32) (start 0x8000 0xD3 [] []) (fun t => t.waiting) = true ∧
    runs (.arm 0xEE070F9A#32)
      { start 0x8000 0xD3 [] [] with wbuf := [{ addr := 0x1000#32, lanes := 15#4, data := [7#32, 8#32] }] }
      (fun t => t.wbuf == [] && memWord t.mem 0x1004#32 == 8#32) = true := by
  decide

/-- Prefetching a line of a cachable region (R416): four words into segment 2. -/
theorem test_prefetch_line :
    runs (.arm 0xEE071F3D#32)
      { start 0x8000 0xD3 [(1, 0x10020)] [(0x10020, 5), (0x1002C, 8)] with
        cp15 := { Cp15.reset false with
          p := true, i := true, cachableI := 1#8, apI := 3#16
          regionsI := Vector.replicate 8 Region.reset |>.set 0 ⟨0#20, 31#5, true⟩
          lockI := ⟨true, 63#6⟩ } }
      (fun t => t.icache.lookup 0x10020#32 == .hit 63 && (t.icache.line 2 63).data == #v[5#32, 0#32, 0#32, 8#32]) =
      true := by
  decide

/-- The debug communications channel, steps 1 to 3 and 7 of its table. -/
theorem test_debug_comms :
    runs (.arm 0xEE100E10#32) (start 0x8000 0x10 [] []) (fun t => t.pc == 0x8004#32) = true ∧
    runs (.arm 0xEE011E10#32) (start 0x8000 0x10 [(1, 0x12345678)] [])
      (fun t => t.dcc.writeData == 0x12345678#32 && t.dcc.w && !t.commTx) = true ∧
    runs (.arm 0xEE112E10#32)
      { start 0x8000 0x10 [] [] with dcc := { readData := 0xAABBCCDD#32, writeData := 0#32, w := false, r := true } }
      (fun t => t.reg 2#4 == 0xAABBCCDD#32 && !t.dcc.r && !t.commRx) = true := by
  decide

/-- An attached coprocessor that accepts, waits, or answers ABSENT (R386 to R388). -/
theorem test_coprocessor_answers :
    runs (.arm 0xEE000500#32) (withCp5 [.accept 1]) (fun t => t.pc == 0x8004#32) = true ∧
    runs (.arm 0xEE001510#32) (withCp5 [.accept 1]) (fun t => t.pc == 0x8004#32) = true ∧
    runs (.arm 0xEE101510#32) (withCp5 [.accept 1]) (fun t => t.pc == 0x8004#32) = true ∧
    runs (.arm 0xED911501#32) (withCp5 [.accept 2]) (fun t => t.pc == 0x8004#32) = true ∧
    runs (.arm 0xECA11501#32) (withCp5 [.accept 2])
      (fun t => t.pc == 0x8004#32 && t.reg 1#4 == 0x1004#32) = true ∧
    runs (.arm 0xEC211501#32) (withCp5 [.accept 1]) (fun t => t.reg 1#4 == 0xFFC#32) = true ∧
    runs (.arm 0xEE000500#32) (withCp5 [.wait]) (fun t => t.pc == 0x8000#32 && t.busy == some 0xEE000500#32) = true ∧
    runs (.arm 0xEE000500#32) (withCp5 [.absent]) (fun t => t.pc == 4#32) = true := by
  decide

/-! Protection (section 2.16, setup A). -/

/-- User and Supervisor accesses of setup A: the region used decides. -/
theorem test_protection :
    ends (.arm 0xE5910000#32) (setupA 0x10 0x3010) 0x8004 0x10 [(0, 0x11111111)] [] = true ∧
    ends (.arm 0xE5810000#32) (setupA 0x10 0x3010) 0x10 0x97 [(14, 0x8008)] [(0x3010, 0x11111111)] = true ∧
    ends (.arm 0xE5910000#32) (setupA 0x10 0x1000) 0x10 0x97 [(14, 0x8008)] [] = true ∧
    ends (.arm 0xE5910000#32) (setupA 0xD3 0x4000) 0x10 0xD7 [(14, 0x8008)] [] = true ∧
    ends (.arm 0xE5910000#32) (setupA 0xD3 0x1000) 0x8004 0xD3 [(0, 0x22222222)] [] = true ∧
    ends (.arm 0xE4B10000#32) (setupA 0xD3 0x1000) 0x10 0xD7 [(14, 0x8008), (0, 0)] [] = true ∧
    ends (.arm 0xE4A10000#32) (setupA 0xD3 0x3010) 0x10 0xD7 [(14, 0x8008)] [(0x3010, 0x11111111)] = true ∧
    ends (.arm 0xE1010092#32) (setupA 0x10 0x3010) 0x10 0x97 [(14, 0x8008)] [(0x3010, 0x11111111)] = true := by
  decide

/-- The example of R151: STMIA r11, {r0-r5} from `0x10C` takes three entries of 1, 4 and 1 words, and STMIA r12, {r6-r10}
from `0x20C` the last address; the oldest entry leaves for each address or word that is not free. -/
theorem test_write_buffer_entries :
    let s : State :=
      { start 0x8000 0xD3 [(11, 0x10C), (12, 0x20C)] [] with
        cp15 := { Cp15.reset false with
          p := true, bufferable := 1#8, apD := 3#16
          regionsD := (Vector.replicate 8 Region.reset).set 0 ⟨0#20, 31#5, true⟩ } }
    let shape (t : State) : List (Word × Nat) := t.wbuf.map fun e => (e.addr, e.data.length)
    runs (.arm 0xE88B003F#32) s (fun t => shape t == [(0x10C#32, 1), (0x110#32, 4), (0x120#32, 1)]) = true ∧
    runs (.arm 0xE88B003F#32) s (fun t => runs (.arm 0xE88C07C0#32) t fun u =>
      shape u == [(0x120#32, 1), (0x20C#32, 1), (0x210#32, 4)]) = true := by
  decide

/-- A block load whose second word is refused keeps the first, and its base (section 2.16, R356). -/
theorem test_block_abort :
    runs (.arm 0xE891000C#32) (setupA 0x10 0x3FFC)
      (fun t => t.pc == 0x10#32 && t.reg 2#4 == 0x33333333#32 && t.reg 3#4 == 0#32 && t.reg 1#4 == 0x3FFC#32) = true := by
  decide

/-! Steps. -/

/-- An ARM word and a Thumb halfword stored where the next step fetches it: MOV r0, #42. -/
theorem test_step_runs_stored_instruction :
    steps (State.reset.withFetchWord 32 0xE3A0002A) (fun t => t.reg 0#4 == 42#32 && t.pc == 4#32) = true ∧
    steps (State.reset.withFetchWord 16 0x202A) (fun t => t.reg 0#4 == 42#32 && t.pc == 2#32) = true := by
  decide

/-- An interrupt pin between instructions, and the wait state it ends (R534 to R536, R551). -/
theorem test_step_interrupts :
    steps { start 0x8000 0x13 [] [] with pins := { Pins.idle with nIRQ := false } }
      (fun t => t.pc == 0x18#32 && t.cpsr == 0x92#32 && t.reg 14#4 == 0x8004#32 && t.spsrIrq == 0x13#32) = true ∧
    steps { start 0x8000 0x13 [] [] with pins := { Pins.idle with nIRQ := false, nFIQ := false }, waiting := true }
      (fun t => t.pc == 0x1C#32 && t.cpsr == 0xD1#32 && !t.waiting) = true ∧
    steps { start 0x8000 0x13 [] [] with waiting := true } (fun t => t.waiting && t.pc == 0x8000#32) = true := by
  decide

/-- Reset from the pins (R540, R660). -/
theorem test_step_reset :
    steps { start 0x8000 0x10 [] [] with resetHeld := true, pins := { Pins.idle with vinithi := true } }
      (fun t => t.pc == 0xFFFF0000#32 && t.cp15.v && !t.resetHeld) = true ∧
    steps { start 0x8000 0x10 [] [] with pins := { Pins.idle with bnRES := false } }
      (fun t => t.resetHeld && t.pc == 0x8000#32) = true := by
  decide

/-- A debug request enters debug state, and the debugger reads the comms channel through scan chain 2 (R62,
R584, R597). -/
theorem test_step_debug :
    steps { start 0x8000 0x13 [] [] with pins := { Pins.idle with dbgen := true, edbgrq := true } }
      (fun t => t.dbg.active && t.pc == 0x800C#32) = true ∧
    steps
      { start 0x8000 0x13 [] [] with
        dcc := { readData := 0#32, writeData := 0x12345678#32, w := true, r := false }
        inputs := [[.scanIr 0b0010#4, .scanDr 2#67, .scanIr 0b1100#4, .scanDr 0x500000000#67, .scanDr 0#67]] }
      (fun t => !t.dcc.w && t.tap.out.extractLsb' 0 32 == 0x12345678#32) = true := by
  decide

/-- A coprocessor instruction that is answered WAIT is held: the next step runs it although another bus master has
changed the word at the pc (R386); it has not executed before that, and none executes while BnRES is LOW: INSTREXEC is LOW
(R653). -/
theorem test_step_held :
    let s : State := { withCp5 [.wait, .accept 1] with mem := (start 0x8000 0xD3 [] [(0x8000, 0xEE000500)]).mem }
    let waited : State := { s with busy := some 0xEE000500#32, cpAnswers := [.accept 1], mem := [] }
    steps s (fun t => t.busy == some 0xEE000500#32 && t.pc == 0x8000#32 && !t.instrExec) = true ∧
    steps waited (fun t => t.busy == none && t.pc == 0x8004#32 && t.reg 0#4 == 0#32) = true ∧
    steps { waited with pins := { Pins.idle with bnRES := false }, instrExec := true } (fun t => !t.instrExec) = true := by
  decide

/-- An access leaves CHAINOUT LOW while nTRST is LOW (R590, R613, R665). -/
theorem test_chain_out :
    let s : State :=
      { start 0x8000 0xD3 [] [] with
        pins := { Pins.idle with dbgen := true, nTRST := false }, ice := { Ice.reset with chainOut := true } }
    (watchData 0x1000#32 0#32 .word false true s).ice.chainOut = false := by
  decide

/-- In debug state `BX r0` to Thumb state flushes the two instructions clocked in after it (R602); RESTART after an
instruction with SYSSPEED HIGH leaves debug state, and `DBGACK` masks three fetches, this one among them (R605, R606);
reset holds the core (R540). -/
theorem test_step_debug_pipeline :
    let s (ir : BitVec 4) (d : DebugCore) (pins : Pins) (n : Nat) : State :=
      { start 0x8000 0xD3 [(0, 0x9001)] [] with
        pins := { pins with dbgen := true }
        tap := { Tap.reset with ir := ir, chain := 1#5, instr := 0x46C046C0#32 }
        dbg := { d with active := true, pending := some 0xE12FFF10#32 }
        inputs := [List.replicate n .runTestIdle] }
    steps (s 12#4 DebugCore.idle Pins.idle 1) (fun t => t.thumb && t.dbg.flush && t.dbg.pending == none) = true ∧
    steps (s 12#4 DebugCore.idle Pins.idle 2) (fun t => !t.dbg.flush && t.dbg.pending == none) = true ∧
    steps (s 12#4 DebugCore.idle Pins.idle 3) (fun t => t.dbg.pending == some 0x46C046C0#32) = true ∧
    steps (s 4#4 { DebugCore.idle with armed := true } Pins.idle 1)
      (fun t => !t.dbg.active && t.debugAck && t.dbg.ackFetches == 2) = true ∧
    steps (s 12#4 DebugCore.idle { Pins.idle with bnRES := false } 1)
      (fun t => t.dbg.active && t.resetHeld && !t.thumb) = true := by
  decide


/-- A swap to a noncachable region that a left-over line answers and whose write is aborted takes the Data Abort and
writes neither the line nor memory (R334, R541, R542). -/
theorem test_swap_line_abort :
    let s := { cached (start 0x8000 0xD3 [] []) with busErrors := [⟨0x10010#32, 0x10010#32, .write⟩] }
    (match swapLine 0x10010#32 .word 0#32 1 s with
     | .abort t => decide (t.dcache = s.dcache ∧ t.mem = s.mem)
     | _ => false) = true := by
  decide

/-- A debugger write writes the five bits of the debug status register, and a read finds its signals there: IFEN alone
(R616). -/
theorem test_debug_status :
    let s (scans : List Input) : State :=
      { start 0x8000 0x13 [] [] with
        inputs := [[.scanIr 0b0010#4, .scanDr 2#67, .scanIr 0b1100#4, .scanDr 0x210000001F#67] ++ scans] }
    steps (s []) (fun t => t.ice.status == 0x1F#5) = true ∧
    steps (s [.scanDr 0x100000000#67]) (fun t => t.ice.status == 0b00100#5) = true := by
  decide

/-- In Thumb state an instruction that is scanned in twice, `MOV r8, r8`, is the one the core takes (R602). -/
theorem test_clock_in :
    let s : State := { start 0x8000 0xF3 [] [] with tap := { Tap.reset with instr := 0x46C046C0#32 } }
    s.clockIn.1 = 0x46C046C0#32 ∧ decodeFetched true 0x46C046C0#32 = decode (.thumb 0x46C0#16) := by
  decide


/-! Worked values of section 2 of 95_test_vectors.md, at most two for an instruction. -/

/-- Section 2.2 of 95_test_vectors.md: MOVS r0, r1; MOVS r0, r1, LSL #1. -/
theorem test_shifts_0 :
    ends (.arm 0xE1B00001#32) (start 0x8000 0xD3 [(1, 0x80000001)] []) 0x00008004 0x800000D3 [(0,
      0x80000001)] [] = true ∧
    ends (.arm 0xE1B00081#32) (start 0x8000 0xD3 [(1, 0x80000001)] []) 0x00008004 0x200000D3 [(0,
      0x00000002)] [] = true := by
  decide

/-- Section 2.3 of 95_test_vectors.md: ADDS r0,r1,r2; ADDS r0,r1,r2; ADCS r0,r1,r2; ADCS r0,r1,r2; SUBS
r0,r1,r2; SUBS r0,r1,r2. -/
theorem test_data_processing_0 :
    ends (.arm 0xE0910002#32) (start 0x8000 0xD3 [(1, 0x7FFFFFFF), (2, 0x00000001)] []) 0x00008004
      0x900000D3 [(0, 0x80000000)] [] = true ∧
    ends (.arm 0xE0910002#32) (start 0x8000 0xD3 [(1, 0xFFFFFFFF), (2, 0x00000001)] []) 0x00008004
      0x600000D3 [(0, 0x00000000)] [] = true ∧
    ends (.arm 0xE0B10002#32) (start 0x8000 0x200000D3 [(1, 0xFFFFFFFF), (2, 0x00000000)] []) 0x00008004
      0x600000D3 [(0, 0x00000000)] [] = true ∧
    ends (.arm 0xE0B10002#32) (start 0x8000 0x200000D3 [(1, 0x7FFFFFFF), (2, 0x00000000)] []) 0x00008004
      0x900000D3 [(0, 0x80000000)] [] = true ∧
    ends (.arm 0xE0510002#32) (start 0x8000 0xD3 [(1, 0x00000005), (2, 0x00000005)] []) 0x00008004
      0x600000D3 [(0, 0x00000000)] [] = true ∧
    ends (.arm 0xE0510002#32) (start 0x8000 0xD3 [(1, 0x00000000), (2, 0x00000001)] []) 0x00008004
      0x800000D3 [(0, 0xFFFFFFFF)] [] = true := by
  decide

/-- Section 2.3 of 95_test_vectors.md: SBCS r0,r1,r2; SBCS r0,r1,r2; RSBS r0,r1,#0; RSBS r0,r1,#0; RSCS
r0,r1,#0; ANDS r0,r1,r2,LSL #4. -/
theorem test_data_processing_1 :
    ends (.arm 0xE0D10002#32) (start 0x8000 0xD3 [(1, 0x00000005), (2, 0x00000005)] []) 0x00008004
      0x800000D3 [(0, 0xFFFFFFFF)] [] = true ∧
    ends (.arm 0xE0D10002#32) (start 0x8000 0x200000D3 [(1, 0x00000005), (2, 0x00000005)] []) 0x00008004
      0x600000D3 [(0, 0x00000000)] [] = true ∧
    ends (.arm 0xE2710000#32) (start 0x8000 0xD3 [(1, 0x00000001)] []) 0x00008004 0x800000D3 [(0,
      0xFFFFFFFF)] [] = true ∧
    ends (.arm 0xE2710000#32) (start 0x8000 0xD3 [(1, 0x80000000)] []) 0x00008004 0x900000D3 [(0,
      0x80000000)] [] = true ∧
    ends (.arm 0xE2F10000#32) (start 0x8000 0xD3 [(1, 0x00000000)] []) 0x00008004 0x800000D3 [(0,
      0xFFFFFFFF)] [] = true ∧
    ends (.arm 0xE0110202#32) (start 0x8000 0x100000D3 [(1, 0x000000F0), (2, 0x1000000F)] []) 0x00008004
      0x300000D3 [(0, 0x000000F0)] [] = true := by
  decide

/-- Section 2.3 of 95_test_vectors.md: EORS r0,r1,r1; ORRS r0,r1,#0x80000000; BICS r0,r1,#0xFF; MVNS r0,#0;
MVN r0,r1; TST r1,#1. -/
theorem test_data_processing_2 :
    ends (.arm 0xE0310001#32) (start 0x8000 0xB00000D3 [(1, 0x00001234)] []) 0x00008004 0x700000D3 [(0,
      0x00000000)] [] = true ∧
    ends (.arm 0xE3910102#32) (start 0x8000 0xD3 [(1, 0x00000001)] []) 0x00008004 0xA00000D3 [(0,
      0x80000001)] [] = true ∧
    ends (.arm 0xE3D100FF#32) (start 0x8000 0x200000D3 [(1, 0x000000FF)] []) 0x00008004 0x600000D3 [(0,
      0x00000000)] [] = true ∧
    ends (.arm 0xE3F00000#32) (start 0x8000 0xD3 [] []) 0x00008004 0x800000D3 [(0, 0xFFFFFFFF)] [] = true ∧
    ends (.arm 0xE1E00001#32) (start 0x8000 0x400000D3 [(1, 0x0F0F0F0F)] []) 0x00008004 0x400000D3 [(0,
      0xF0F0F0F0)] [] = true ∧
    ends (.arm 0xE3110001#32) (start 0x8000 0xD3 [(1, 0x00000002)] []) 0x00008004 0x400000D3 [] [] = true := by
  decide

/-- Section 2.3 of 95_test_vectors.md: TEQ r1,r2; CMP r1,r2; CMP r1,r2; CMN r1,r2. -/
theorem test_data_processing_3 :
    ends (.arm 0xE1310002#32) (start 0x8000 0xD3 [(1, 0x80000000), (2, 0x00000000)] []) 0x00008004
      0x800000D3 [] [] = true ∧
    ends (.arm 0xE1510002#32) (start 0x8000 0xD3 [(1, 0x00000001), (2, 0x00000002)] []) 0x00008004
      0x800000D3 [] [] = true ∧
    ends (.arm 0xE1510002#32) (start 0x8000 0xD3 [(1, 0x80000000), (2, 0x7FFFFFFF)] []) 0x00008004
      0x300000D3 [] [] = true ∧
    ends (.arm 0xE1710002#32) (start 0x8000 0xD3 [(1, 0xFFFFFFFF), (2, 0x00000001)] []) 0x00008004
      0x600000D3 [] [] = true := by
  decide

/-- Section 2.4 of 95_test_vectors.md: MRS r0,CPSR; MSR CPSR_f,r1; MSR CPSR_c,r1 (in User mode: ignored);
MSR CPSR_f,#0xF0000000. -/
theorem test_status_0 :
    ends (.arm 0xE10F0000#32) (start 0x8000 0x600000D3 [] []) 0x00008004 0x600000D3 [(0, 0x600000D3)] [] =
      true ∧
    ends (.arm 0xE128F001#32) (start 0x8000 0xD3 [(1, 0xF00000FF)] []) 0x00008004 0xF00000D3 [] [] = true ∧
    ends (.arm 0xE121F001#32) (start 0x8000 0x10 [(1, 0x000000D3)] []) 0x00008004 0x10 [] [] = true ∧
    ends (.arm 0xE328F20F#32) (start 0x8000 0xD3 [] []) 0x00008004 0xF00000D3 [] [] = true := by
  decide

/-- Section 2.5 of 95_test_vectors.md: MUL r0,r1,r2; MUL r0,r1,r2; MLA r0,r1,r2,r3; UMULL r0,r1,r2,r3; SMULL
r0,r1,r2,r3. -/
theorem test_multiplies_0 :
    ends (.arm 0xE0000291#32) (start 0x8000 0xD3 [(1, 0x00000007), (2, 0x00000006)] []) 0x00008004 0xD3
      [(0, 0x0000002A)] [] = true ∧
    ends (.arm 0xE0000291#32) (start 0x8000 0xD3 [(1, 0xFFFFFFFF), (2, 0xFFFFFFFF)] []) 0x00008004 0xD3
      [(0, 0x00000001)] [] = true ∧
    ends (.arm 0xE0203291#32) (start 0x8000 0xD3 [(1, 0x00000003), (2, 0x00000004), (3, 0xFFFFFFFF)] [])
      0x00008004 0xD3 [(0, 0x0000000B)] [] = true ∧
    ends (.arm 0xE0810392#32) (start 0x8000 0xD3 [(2, 0xFFFFFFFF), (3, 0xFFFFFFFF)] []) 0x00008004 0xD3
      [(0, 0x00000001), (1, 0xFFFFFFFE)] [] = true ∧
    ends (.arm 0xE0C10392#32) (start 0x8000 0xD3 [(2, 0xFFFFFFFF), (3, 0xFFFFFFFF)] []) 0x00008004 0xD3
      [(0, 0x00000001), (1, 0x00000000)] [] = true := by
  decide

/-- Section 2.5 of 95_test_vectors.md: UMLAL r0,r1,r2,r3; SMLAL r0,r1,r2,r3. -/
theorem test_multiplies_1 :
    ends (.arm 0xE0A10392#32) (start 0x8000 0xD3 [(0, 0xFFFFFFFF), (1, 0x00000000), (2, 0x00000001), (3,
      0x00000001)] []) 0x00008004 0xD3 [(0, 0x00000000), (1, 0x00000001)] [] = true ∧
    ends (.arm 0xE0E10392#32) (start 0x8000 0xD3 [(0, 0x00000001), (1, 0x00000000), (2, 0xFFFFFFFF), (3,
      0x00000001)] []) 0x00008004 0xD3 [(0, 0x00000000), (1, 0x00000000)] [] = true := by
  decide

/-- Section 2.6 of 95_test_vectors.md: LDR r0,[r1]; LDR r0,[r1] (unaligned); LDR r0,[r1],#4; LDRB r0,[r1];
LDRB r0,[r1]. -/
theorem test_loads_stores_0 :
    ends (.arm 0xE5910000#32) (start 0x8000 0xD3 [(1, 0x00001000)] [(0x1000, 0x44332211), (0x1004,
      0x88776655)]) 0x00008004 0xD3 [(0, 0x44332211)] [] = true ∧
    ends (.arm 0xE5910000#32) (start 0x8000 0xD3 [(1, 0x00001001)] [(0x1000, 0x44332211), (0x1004,
      0x88776655)]) 0x00008004 0xD3 [(0, 0x11443322)] [] = true ∧
    ends (.arm 0xE4910004#32) (start 0x8000 0xD3 [(1, 0x00001000)] [(0x1000, 0x44332211), (0x1004,
      0x88776655)]) 0x00008004 0xD3 [(0, 0x44332211), (1, 0x00001004)] [] = true ∧
    ends (.arm 0xE5D10000#32) (start 0x8000 0xD3 [(1, 0x00001000)] [(0x1000, 0x44332211), (0x1004,
      0x88776655)]) 0x00008004 0xD3 [(0, 0x00000011)] [] = true ∧
    ends (.arm 0xE5D10000#32) (start 0x8000 0xD3 [(1, 0x00001001)] [(0x1000, 0x44332211), (0x1004,
      0x88776655)]) 0x00008004 0xD3 [(0, 0x00000022)] [] = true := by
  decide

/-- Section 2.6 of 95_test_vectors.md: STR r0,[r1]; STR r0,[r1] (unaligned); STRB r0,[r1]. -/
theorem test_loads_stores_1 :
    ends (.arm 0xE5810000#32) (start 0x8000 0xD3 [(0, 0xAABBCCDD), (1, 0x00001000)] [(0x1000, 0x44332211),
      (0x1004, 0x88776655)]) 0x00008004 0xD3 [] [(0x1000, 0xAABBCCDD)] = true ∧
    ends (.arm 0xE5810000#32) (start 0x8000 0xD3 [(0, 0xAABBCCDD), (1, 0x00001003)] [(0x1000, 0x44332211),
      (0x1004, 0x88776655)]) 0x00008004 0xD3 [] [(0x1000, 0xAABBCCDD)] = true ∧
    ends (.arm 0xE5C10000#32) (start 0x8000 0xD3 [(0, 0xAABBCCDD), (1, 0x00001001)] [(0x1000, 0x44332211),
      (0x1004, 0x88776655)]) 0x00008004 0xD3 [] [(0x1000, 0x4433DD11)] = true := by
  decide

/-- Section 2.7 of 95_test_vectors.md: LDRH r0,[r1]; LDRH r0,[r1,#2]; LDRSH r0,[r1,#2]; LDRSH r0,[r1]; LDRSB
r0,[r1,#3]; LDRSB r0,[r1,#1]. -/
theorem test_halfwords_0 :
    ends (.arm 0xE1D100B0#32) (start 0x8000 0xD3 [(1, 0x00001000)] [(0x1000, 0x80FF7F01), (0x1004,
      0x12348765)]) 0x00008004 0xD3 [(0, 0x00007F01)] [] = true ∧
    ends (.arm 0xE1D100B2#32) (start 0x8000 0xD3 [(1, 0x00001000)] [(0x1000, 0x80FF7F01), (0x1004,
      0x12348765)]) 0x00008004 0xD3 [(0, 0x000080FF)] [] = true ∧
    ends (.arm 0xE1D100F2#32) (start 0x8000 0xD3 [(1, 0x00001000)] [(0x1000, 0x80FF7F01), (0x1004,
      0x12348765)]) 0x00008004 0xD3 [(0, 0xFFFF80FF)] [] = true ∧
    ends (.arm 0xE1D100F0#32) (start 0x8000 0xD3 [(1, 0x00001000)] [(0x1000, 0x80FF7F01), (0x1004,
      0x12348765)]) 0x00008004 0xD3 [(0, 0x00007F01)] [] = true ∧
    ends (.arm 0xE1D100D3#32) (start 0x8000 0xD3 [(1, 0x00001000)] [(0x1000, 0x80FF7F01), (0x1004,
      0x12348765)]) 0x00008004 0xD3 [(0, 0xFFFFFF80)] [] = true ∧
    ends (.arm 0xE1D100D1#32) (start 0x8000 0xD3 [(1, 0x00001000)] [(0x1000, 0x80FF7F01), (0x1004,
      0x12348765)]) 0x00008004 0xD3 [(0, 0x0000007F)] [] = true := by
  decide

/-- Section 2.7 of 95_test_vectors.md: STRH r0,[r1]. -/
theorem test_halfwords_1 :
    ends (.arm 0xE1C100B0#32) (start 0x8000 0xD3 [(0, 0xAABBCCDD), (1, 0x00001002)] [(0x1000, 0x80FF7F01),
      (0x1004, 0x12348765)]) 0x00008004 0xD3 [] [(0x1000, 0xCCDD7F01)] = true := by
  decide

/-- Section 2.8 of 95_test_vectors.md: SWP r0,r1,[r2]; SWP r0,r0,[r2] (Rd = Rm); SWPB r0,r1,[r2]. -/
theorem test_swaps_0 :
    ends (.arm 0xE1020091#32) (start 0x8000 0xD3 [(1, 0xAABBCCDD), (2, 0x00001000)] [(0x1000,
      0x44332211)]) 0x00008004 0xD3 [(0, 0x44332211)] [(0x1000, 0xAABBCCDD)] = true ∧
    ends (.arm 0xE1020090#32) (start 0x8000 0xD3 [(0, 0xAABBCCDD), (2, 0x00001000)] [(0x1000,
      0x44332211)]) 0x00008004 0xD3 [(0, 0x44332211)] [(0x1000, 0xAABBCCDD)] = true ∧
    ends (.arm 0xE1420091#32) (start 0x8000 0xD3 [(1, 0xAABBCCDD), (2, 0x00001002)] [(0x1000,
      0x44332211)]) 0x00008004 0xD3 [(0, 0x00000033)] [(0x1000, 0x44DD2211)] = true := by
  decide

/-- Section 2.9 of 95_test_vectors.md: LDMIA r0,(r1-r3); LDMIA r0!,(r1-r3); STMIA r0!,(r1,r2); STMDB
r0!,(r1,r2); STMIA r0!,(r13,r14)^ (writeback); LDMIA r0,(r13,r14)^ (in User mode). -/
theorem test_blocks_0 :
    ends (.arm 0xE890000E#32) (start 0x8000 0xD3 [(0, 0x00001000)] [(0x1000, 0x10), (0x1004, 0x11),
      (0x1008, 0x12), (0x100C, 0x13)]) 0x00008004 0xD3 [(0, 0x00001000), (1, 0x00000010), (2, 0x00000011),
      (3, 0x00000012)] [] = true ∧
    ends (.arm 0xE8B0000E#32) (start 0x8000 0xD3 [(0, 0x00001000)] [(0x1000, 0x10), (0x1004, 0x11),
      (0x1008, 0x12), (0x100C, 0x13)]) 0x00008004 0xD3 [(0, 0x0000100C), (1, 0x00000010), (2, 0x00000011),
      (3, 0x00000012)] [] = true ∧
    ends (.arm 0xE8A00006#32) (start 0x8000 0xD3 [(0, 0x00002000), (1, 0x00000011), (2, 0x00000022)] [])
      0x00008004 0xD3 [(0, 0x00002008)] [(0x2000, 0x00000011), (0x2004, 0x00000022)] = true ∧
    ends (.arm 0xE9200006#32) (start 0x8000 0xD3 [(0, 0x00002008), (1, 0x00000011), (2, 0x00000022)] [])
      0x00008004 0xD3 [(0, 0x00002000)] [(0x2000, 0x00000011), (0x2004, 0x00000022)] = true ∧
    refuses (.arm 0xE8E06000#32) (start 0x8000 0xD3 [(0, 0x00002000)] []) = true ∧
    refuses (.arm 0xE8D06000#32) (start 0x8000 0x10 [(0, 0x00001000)] [(0x1000, 0x10), (0x1004, 0x11),
      (0x1008, 0x12), (0x100C, 0x13)]) = true := by
  decide

/-- Section 2.10 of 95_test_vectors.md: B +0 (offset field 0); B . (offset field 0xFFFFFE); BL +0x100 words;
BL backwards (offset 0x800000: -2^25 bytes), at iaddr 0x04000000; BX r0 (to Thumb); BX r0 (stay in ARM). -/
theorem test_branches_0 :
    ends (.arm 0xEA000000#32) (start 0x8000 0xD3 [] []) 0x00008008 0xD3 [] [] = true ∧
    ends (.arm 0xEAFFFFFE#32) (start 0x8000 0xD3 [] []) 0x00008000 0xD3 [] [] = true ∧
    ends (.arm 0xEB000100#32) (start 0x8000 0xD3 [] []) 0x00008408 0xD3 [(14, 0x00008004)] [] = true ∧
    ends (.arm 0xEB800000#32) (start 0x4000000 0xD3 [] []) 0x02000008 0xD3 [(14, 0x04000004)] [] = true ∧
    ends (.arm 0xE12FFF10#32) (start 0x8000 0xD3 [(0, 0x00009001)] []) 0x00009000 0xF3 [] [] = true ∧
    ends (.arm 0xE12FFF10#32) (start 0x8000 0xD3 [(0, 0x00009000)] []) 0x00009000 0xD3 [] [] = true := by
  decide

/-- Section 2.12 of 95_test_vectors.md: LSL r0,r1,#0 (C kept); LSL r0,r1,#1; LSR r0,r1,#32 (imm5 = 0); LSR
r0,r1,#1; ASR r0,r1,#32 (imm5 = 0); ASR r0,r1,#4. -/
theorem test_thumb_alu_0 :
    ends (.thumb 0x0008#16) (start 0x8000 0x200000F3 [(1, 0x80000001)] []) 0x00008002 0xA00000F3 [(0,
      0x80000001)] [] = true ∧
    ends (.thumb 0x0048#16) (start 0x8000 0xF3 [(1, 0x80000001)] []) 0x00008002 0x200000F3 [(0,
      0x00000002)] [] = true ∧
    ends (.thumb 0x0808#16) (start 0x8000 0xF3 [(1, 0x80000001)] []) 0x00008002 0x600000F3 [(0,
      0x00000000)] [] = true ∧
    ends (.thumb 0x0848#16) (start 0x8000 0xF3 [(1, 0x80000001)] []) 0x00008002 0x200000F3 [(0,
      0x40000000)] [] = true ∧
    ends (.thumb 0x1008#16) (start 0x8000 0xF3 [(1, 0x80000001)] []) 0x00008002 0xA00000F3 [(0,
      0xFFFFFFFF)] [] = true ∧
    ends (.thumb 0x1108#16) (start 0x8000 0xF3 [(1, 0x80000010)] []) 0x00008002 0x800000F3 [(0,
      0xF8000001)] [] = true := by
  decide

/-- Section 2.12 of 95_test_vectors.md: ADD r0,r1,r2; SUB r0,r1,r2; ADD r0,r1,#7; SUB r0,r1,#1; MOV r0,#0
(C, V kept); MOV r0,#255. -/
theorem test_thumb_alu_1 :
    ends (.thumb 0x1888#16) (start 0x8000 0xF3 [(1, 0x7FFFFFFF), (2, 0x00000001)] []) 0x00008002
      0x900000F3 [(0, 0x80000000)] [] = true ∧
    ends (.thumb 0x1A88#16) (start 0x8000 0xF3 [(1, 0x00000005), (2, 0x00000005)] []) 0x00008002
      0x600000F3 [(0, 0x00000000)] [] = true ∧
    ends (.thumb 0x1DC8#16) (start 0x8000 0xF3 [(1, 0xFFFFFFFF)] []) 0x00008002 0x200000F3 [(0,
      0x00000006)] [] = true ∧
    ends (.thumb 0x1E48#16) (start 0x8000 0xF3 [(1, 0x00000000)] []) 0x00008002 0x800000F3 [(0,
      0xFFFFFFFF)] [] = true ∧
    ends (.thumb 0x2000#16) (start 0x8000 0x300000F3 [(0, 0x00000005)] []) 0x00008002 0x700000F3 [(0,
      0x00000000)] [] = true ∧
    ends (.thumb 0x20FF#16) (start 0x8000 0xF3 [] []) 0x00008002 0xF3 [(0, 0x000000FF)] [] = true := by
  decide

/-- Section 2.12 of 95_test_vectors.md: CMP r0,#1; ADD r0,#255; SUB r0,#1; AND r0,r1; EOR r0,r1; LSL r0,r1
(by 32). -/
theorem test_thumb_alu_2 :
    ends (.thumb 0x2801#16) (start 0x8000 0xF3 [(0, 0x00000000)] []) 0x00008002 0x800000F3 [] [] = true ∧
    ends (.thumb 0x30FF#16) (start 0x8000 0xF3 [(0, 0xFFFFFF01)] []) 0x00008002 0x600000F3 [(0,
      0x00000000)] [] = true ∧
    ends (.thumb 0x3801#16) (start 0x8000 0xF3 [(0, 0x80000000)] []) 0x00008002 0x300000F3 [(0,
      0x7FFFFFFF)] [] = true ∧
    ends (.thumb 0x4008#16) (start 0x8000 0x300000F3 [(0, 0x0000F0F0), (1, 0x00000FF0)] []) 0x00008002
      0x300000F3 [(0, 0x000000F0)] [] = true ∧
    ends (.thumb 0x4048#16) (start 0x8000 0xF3 [(0, 0x0000FFFF), (1, 0x0000FFFF)] []) 0x00008002
      0x400000F3 [(0, 0x00000000)] [] = true ∧
    ends (.thumb 0x4088#16) (start 0x8000 0xF3 [(0, 0x00000001), (1, 0x00000020)] []) 0x00008002
      0x600000F3 [(0, 0x00000000)] [] = true := by
  decide

/-- Section 2.12 of 95_test_vectors.md: LSL r0,r1 (by 0: C kept); LSR r0,r1 (by 33); ASR r0,r1 (by 40); ADC
r0,r1; SBC r0,r1; ROR r0,r1 (by 32). -/
theorem test_thumb_alu_3 :
    ends (.thumb 0x4088#16) (start 0x8000 0x200000F3 [(0, 0x00000001), (1, 0x00000100)] []) 0x00008002
      0x200000F3 [(0, 0x00000001)] [] = true ∧
    ends (.thumb 0x40C8#16) (start 0x8000 0x200000F3 [(0, 0x80000000), (1, 0x00000021)] []) 0x00008002
      0x400000F3 [(0, 0x00000000)] [] = true ∧
    ends (.thumb 0x4108#16) (start 0x8000 0xF3 [(0, 0x80000000), (1, 0x00000028)] []) 0x00008002
      0xA00000F3 [(0, 0xFFFFFFFF)] [] = true ∧
    ends (.thumb 0x4148#16) (start 0x8000 0x200000F3 [(0, 0xFFFFFFFF), (1, 0x00000000)] []) 0x00008002
      0x600000F3 [(0, 0x00000000)] [] = true ∧
    ends (.thumb 0x4188#16) (start 0x8000 0xF3 [(0, 0x00000005), (1, 0x00000005)] []) 0x00008002
      0x800000F3 [(0, 0xFFFFFFFF)] [] = true ∧
    ends (.thumb 0x41C8#16) (start 0x8000 0xF3 [(0, 0x80000001), (1, 0x00000020)] []) 0x00008002
      0xA00000F3 [(0, 0x80000001)] [] = true := by
  decide

/-- Section 2.12 of 95_test_vectors.md: ROR r0,r1 (by 4); TST r0,r1; NEG r0,r1; NEG r0,r1; CMP r0,r1; CMN
r0,r1. -/
theorem test_thumb_alu_4 :
    ends (.thumb 0x41C8#16) (start 0x8000 0xF3 [(0, 0x0000000F), (1, 0x00000004)] []) 0x00008002
      0xA00000F3 [(0, 0xF0000000)] [] = true ∧
    ends (.thumb 0x4208#16) (start 0x8000 0xF3 [(0, 0x00000001), (1, 0x00000002)] []) 0x00008002
      0x400000F3 [] [] = true ∧
    ends (.thumb 0x4248#16) (start 0x8000 0xF3 [(1, 0x00000001)] []) 0x00008002 0x800000F3 [(0,
      0xFFFFFFFF)] [] = true ∧
    ends (.thumb 0x4248#16) (start 0x8000 0xF3 [(1, 0x80000000)] []) 0x00008002 0x900000F3 [(0,
      0x80000000)] [] = true ∧
    ends (.thumb 0x4288#16) (start 0x8000 0xF3 [(0, 0x00000001), (1, 0x00000002)] []) 0x00008002
      0x800000F3 [] [] = true ∧
    ends (.thumb 0x42C8#16) (start 0x8000 0xF3 [(0, 0xFFFFFFFF), (1, 0x00000001)] []) 0x00008002
      0x600000F3 [] [] = true := by
  decide

/-- Section 2.12 of 95_test_vectors.md: ORR r0,r1; BIC r0,r1; MVN r0,r1; ADD r0,r8 (no
flags). -/
theorem test_thumb_alu_5 :
    ends (.thumb 0x4308#16) (start 0x8000 0xF3 [(0, 0x80000000), (1, 0x00000001)] []) 0x00008002
      0x800000F3 [(0, 0x80000001)] [] = true ∧
    ends (.thumb 0x4388#16) (start 0x8000 0xF3 [(0, 0x000000FF), (1, 0x0000000F)] []) 0x00008002 0xF3 [(0,
      0x000000F0)] [] = true ∧
    ends (.thumb 0x43C8#16) (start 0x8000 0xF3 [(1, 0x00000000)] []) 0x00008002 0x800000F3 [(0,
      0xFFFFFFFF)] [] = true ∧
    ends (.thumb 0x4440#16) (start 0x8000 0x900000F3 [(0, 0xFFFFFFFF), (8, 0x00000001)] []) 0x00008002
      0x900000F3 [(0, 0x00000000)] [] = true := by
  decide

/-- Section 2.12 of 95_test_vectors.md: ADD r8,r0; ADD r0,pc; ADD pc,r0; CMP r8,r0; CMP r0,pc; MOV r8,r8
(the NOP of source section 8.8.1). -/
theorem test_thumb_alu_6 :
    ends (.thumb 0x4480#16) (start 0x8000 0xF3 [(0, 0x00000002), (8, 0x00000003)] []) 0x00008002 0xF3 [(8,
      0x00000005)] [] = true ∧
    ends (.thumb 0x4478#16) (start 0x8000 0xF3 [(0, 0x00000010)] []) 0x00008002 0xF3 [(0, 0x00008014)] []
      = true ∧
    ends (.thumb 0x4487#16) (start 0x8000 0xF3 [(0, 0x00000101)] []) 0x00008104 0xF3 [] [] = true ∧
    ends (.thumb 0x4580#16) (start 0x8000 0xF3 [(0, 0x00000005), (8, 0x00000005)] []) 0x00008002
      0x600000F3 [] [] = true ∧
    ends (.thumb 0x4578#16) (start 0x8000 0xF3 [(0, 0x00008004)] []) 0x00008002 0x600000F3 [] [] = true ∧
    ends (.thumb 0x46C0#16) (start 0x8000 0xF3 [(8, 0x00000055)] []) 0x00008002 0xF3 [] [] = true := by
  decide

/-- Section 2.12 of 95_test_vectors.md: MOV r0,pc (source section 8.8.1: 0x4678); MOV pc,r0; MOV r0,r1 (both
low, H1 = H2 = 0); BX r0 (to ARM; source: 0x4700); BX r0 (stay in Thumb); BX with H1 = 1. -/
theorem test_thumb_alu_7 :
    ends (.thumb 0x4678#16) (start 0x8000 0xF3 [] []) 0x00008002 0xF3 [(0, 0x00008004)] [] = true ∧
    ends (.thumb 0x4687#16) (start 0x8000 0xF3 [(0, 0x00009001)] []) 0x00009000 0xF3 [] [] = true ∧
    refuses (.thumb 0x4608#16) (start 0x8000 0xF3 [(1, 0x00000001)] []) = true ∧
    ends (.thumb 0x4700#16) (start 0x8000 0xF3 [(0, 0x00009000)] []) 0x00009000 0xD3 [] [] = true ∧
    ends (.thumb 0x4700#16) (start 0x8000 0xF3 [(0, 0x00009001)] []) 0x00009000 0xF3 [] [] = true ∧
    refuses (.thumb 0x47C8#16) (start 0x8000 0xF3 [(9, 0x00009001)] []) = true := by
  decide

/-- Section 2.12 of 95_test_vectors.md: ADD r0,pc,#4 at 0x8002; ADD r0,pc,#1020; ADD r0,sp,#8. -/
theorem test_thumb_alu_8 :
    ends (.thumb 0xA001#16) (start 0x8002 0xF3 [] []) 0x00008004 0xF3 [(0, 0x00008008)] [] = true ∧
    ends (.thumb 0xA0FF#16) (start 0x8000 0xF3 [] []) 0x00008002 0xF3 [(0, 0x00008400)] [] = true ∧
    ends (.thumb 0xA802#16) (start 0x8000 0xF3 [(13, 0x00003001)] []) 0x00008002 0xF3 [(0, 0x00003009)] []
      = true := by
  decide

/-- Section 2.13 of 95_test_vectors.md: ADD sp,#508; SUB sp,#4; LDR r0,[pc,#4] at 0x8002; STR r0,[r1,r2];
STRB r0,[r1,r2]; LDR r0,[r1,r2]. -/
theorem test_thumb_memory_0 :
    ends (.thumb 0xB07F#16) (start 0x8000 0xF3 [(13, 0x00003000)] []) 0x00008002 0xF3 [(13, 0x000031FC)]
      [] = true ∧
    ends (.thumb 0xB081#16) (start 0x8000 0xF3 [(13, 0x00003000)] []) 0x00008002 0xF3 [(13, 0x00002FFC)]
      [] = true ∧
    ends (.thumb 0x4801#16) (start 0x8002 0xF3 [] [(0x8008, 0xCAFEF00D)]) 0x00008004 0xF3 [(0,
      0xCAFEF00D)] [] = true ∧
    ends (.thumb 0x5088#16) (start 0x8000 0xF3 [(0, 0xAABBCCDD), (1, 0x00001000), (2, 0x00000004)]
      [(0x1000, 0x80FF7F01), (0x1004, 0x12348765)]) 0x00008002 0xF3 [] [(0x1004, 0xAABBCCDD)] = true ∧
    ends (.thumb 0x5488#16) (start 0x8000 0xF3 [(0, 0xAABBCCDD), (1, 0x00001000), (2, 0x00000001)]
      [(0x1000, 0x80FF7F01), (0x1004, 0x12348765)]) 0x00008002 0xF3 [] [(0x1000, 0x80FFDD01)] = true ∧
    ends (.thumb 0x5888#16) (start 0x8000 0xF3 [(1, 0x00001000), (2, 0x00000004)] [(0x1000, 0x80FF7F01),
      (0x1004, 0x12348765)]) 0x00008002 0xF3 [(0, 0x12348765)] [] = true := by
  decide

/-- Section 2.13 of 95_test_vectors.md: LDR r0,[r1,r2] (unaligned); LDRB r0,[r1,r2]; STRH r0,[r1,r2]; LDRH
r0,[r1,r2]; LDSB r0,[r1,r2]; LDSH r0,[r1,r2]. -/
theorem test_thumb_memory_1 :
    ends (.thumb 0x5888#16) (start 0x8000 0xF3 [(1, 0x00001000), (2, 0x00000006)] [(0x1000, 0x80FF7F01),
      (0x1004, 0x12348765)]) 0x00008002 0xF3 [(0, 0x87651234)] [] = true ∧
    ends (.thumb 0x5C88#16) (start 0x8000 0xF3 [(1, 0x00001000), (2, 0x00000003)] [(0x1000, 0x80FF7F01),
      (0x1004, 0x12348765)]) 0x00008002 0xF3 [(0, 0x00000080)] [] = true ∧
    ends (.thumb 0x5288#16) (start 0x8000 0xF3 [(0, 0xAABBCCDD), (1, 0x00001000), (2, 0x00000002)]
      [(0x1000, 0x80FF7F01), (0x1004, 0x12348765)]) 0x00008002 0xF3 [] [(0x1000, 0xCCDD7F01)] = true ∧
    ends (.thumb 0x5A88#16) (start 0x8000 0xF3 [(1, 0x00001000), (2, 0x00000002)] [(0x1000, 0x80FF7F01),
      (0x1004, 0x12348765)]) 0x00008002 0xF3 [(0, 0x000080FF)] [] = true ∧
    ends (.thumb 0x5688#16) (start 0x8000 0xF3 [(1, 0x00001000), (2, 0x00000003)] [(0x1000, 0x80FF7F01),
      (0x1004, 0x12348765)]) 0x00008002 0xF3 [(0, 0xFFFFFF80)] [] = true ∧
    ends (.thumb 0x5E88#16) (start 0x8000 0xF3 [(1, 0x00001000), (2, 0x00000002)] [(0x1000, 0x80FF7F01),
      (0x1004, 0x12348765)]) 0x00008002 0xF3 [(0, 0xFFFF80FF)] [] = true := by
  decide

/-- Section 2.13 of 95_test_vectors.md: STR r0,[r1,#124]; STR r0,[r1] (source section 8.8.1: 0x6008); LDR
r0,[r1,#4]; STRB r0,[r1,#31]; LDRB r0,[r1,#1]; STRH r0,[r1,#62]. -/
theorem test_thumb_memory_2 :
    ends (.thumb 0x67C8#16) (start 0x8000 0xF3 [(0, 0x12345678), (1, 0x00001000)] []) 0x00008002 0xF3 []
      [(0x107C, 0x12345678)] = true ∧
    ends (.thumb 0x6008#16) (start 0x8000 0xF3 [(0, 0x12345678), (1, 0x00001003)] []) 0x00008002 0xF3 []
      [(0x1000, 0x12345678)] = true ∧
    ends (.thumb 0x6848#16) (start 0x8000 0xF3 [(1, 0x00001000)] [(0x1000, 0x80FF7F01), (0x1004,
      0x12348765)]) 0x00008002 0xF3 [(0, 0x12348765)] [] = true ∧
    ends (.thumb 0x77C8#16) (start 0x8000 0xF3 [(0, 0x000000AB), (1, 0x00001000)] []) 0x00008002 0xF3 []
      [(0x101C, 0xAB000000)] = true ∧
    ends (.thumb 0x7848#16) (start 0x8000 0xF3 [(1, 0x00001000)] [(0x1000, 0x80FF7F01), (0x1004,
      0x12348765)]) 0x00008002 0xF3 [(0, 0x0000007F)] [] = true ∧
    ends (.thumb 0x87C8#16) (start 0x8000 0xF3 [(0, 0x0000BEEF), (1, 0x00001000)] []) 0x00008002 0xF3 []
      [(0x103C, 0xBEEF0000)] = true := by
  decide

/-- Section 2.13 of 95_test_vectors.md: LDRH r0,[r1,#6]; LDRH r0,[r1,#0] (odd address); STR r0,[sp,#1020];
LDR r0,[sp,#4]; PUSH (r0,r1,lr); PUSH (r7). -/
theorem test_thumb_memory_3 :
    ends (.thumb 0x88C8#16) (start 0x8000 0xF3 [(1, 0x00001000)] [(0x1000, 0x80FF7F01), (0x1004,
      0x12348765)]) 0x00008002 0xF3 [(0, 0x00001234)] [] = true ∧
    refuses (.thumb 0x8808#16) (start 0x8000 0xF3 [(1, 0x00001001)] [(0x1000, 0x80FF7F01), (0x1004,
      0x12348765)]) = true ∧
    ends (.thumb 0x90FF#16) (start 0x8000 0xF3 [(0, 0x00000077), (13, 0x00003000)] []) 0x00008002 0xF3 []
      [(0x33FC, 0x00000077)] = true ∧
    ends (.thumb 0x9801#16) (start 0x8000 0xF3 [(13, 0x00001000)] [(0x1000, 0x80FF7F01), (0x1004,
      0x12348765)]) 0x00008002 0xF3 [(0, 0x12348765)] [] = true ∧
    ends (.thumb 0xB503#16) (start 0x8000 0xF3 [(0, 0x000000A0), (1, 0x000000A1), (13, 0x00003000), (14,
      0x00008125)] []) 0x00008002 0xF3 [(13, 0x00002FF4)] [(0x2FF4, 0x000000A0), (0x2FF8, 0x000000A1),
      (0x2FFC, 0x00008125)] = true ∧
    ends (.thumb 0xB480#16) (start 0x8000 0xF3 [(7, 0x00000077), (13, 0x00003000)] []) 0x00008002 0xF3
      [(13, 0x00002FFC)] [(0x2FFC, 0x00000077)] = true := by
  decide

/-- Section 2.13 of 95_test_vectors.md: POP (r0,r1); POP (r0,pc); STMIA r0!,(r1,r2); STMIA r0!,(r0,r1) (Rb
lowest); LDMIA r0!,(r1,r2); LDMIA r0!,(r0,r1) (Rb in list). -/
theorem test_thumb_memory_4 :
    ends (.thumb 0xBC03#16) (start 0x8000 0xF3 [(13, 0x00001000)] [(0x1000, 0x80FF7F01), (0x1004,
      0x12348765)]) 0x00008002 0xF3 [(0, 0x80FF7F01), (1, 0x12348765), (13, 0x00001008)] [] = true ∧
    ends (.thumb 0xBD01#16) (start 0x8000 0xF3 [(13, 0x00001000)] [(0x1000, 0x00000011), (0x1004,
      0x00009001)]) 0x00009000 0xF3 [(0, 0x00000011), (13, 0x00001008)] [] = true ∧
    ends (.thumb 0xC006#16) (start 0x8000 0xF3 [(0, 0x00002000), (1, 0x00000011), (2, 0x00000022)] [])
      0x00008002 0xF3 [(0, 0x00002008)] [(0x2000, 0x00000011), (0x2004, 0x00000022)] = true ∧
    ends (.thumb 0xC003#16) (start 0x8000 0xF3 [(0, 0x00002000), (1, 0x00000011)] []) 0x00008002 0xF3 [(0,
      0x00002008)] [(0x2000, 0x00002000), (0x2004, 0x00000011)] = true ∧
    ends (.thumb 0xC806#16) (start 0x8000 0xF3 [(0, 0x00001000)] [(0x1000, 0x80FF7F01), (0x1004,
      0x12348765)]) 0x00008002 0xF3 [(0, 0x00001008), (1, 0x80FF7F01), (2, 0x12348765)] [] = true ∧
    ends (.thumb 0xC803#16) (start 0x8000 0xF3 [(0, 0x00001000)] [(0x1000, 0x80FF7F01), (0x1004,
      0x12348765)]) 0x00008002 0xF3 [(0, 0x80FF7F01), (1, 0x12348765)] [] = true := by
  decide

/-- Section 2.14 of 95_test_vectors.md: BEQ +0 (Z = 1); BEQ +0 (Z = 0: fails); BNE . (offset -2 halfwords);
BGT +254 (N = V, Z = 0); BLT -256 (N != V); 0xDE00 (cond 1110: undefined). -/
theorem test_thumb_branches_0 :
    ends (.thumb 0xD000#16) (start 0x8000 0x400000F3 [] []) 0x00008004 0x400000F3 [] [] = true ∧
    ends (.thumb 0xD000#16) (start 0x8000 0xF3 [] []) 0x00008002 0xF3 [] [] = true ∧
    ends (.thumb 0xD1FE#16) (start 0x8000 0xF3 [] []) 0x00008000 0xF3 [] [] = true ∧
    ends (.thumb 0xDC7F#16) (start 0x8000 0xF3 [] []) 0x00008102 0xF3 [] [] = true ∧
    ends (.thumb 0xDB80#16) (start 0x8000 0x800000F3 [] []) 0x00007F04 0x800000F3 [] [] = true ∧
    ends (.thumb 0xDE00#16) (start 0x8000 0xF3 [] []) 0x00000004 0xDB [] [] = true := by
  decide

/-- Section 2.14 of 95_test_vectors.md: B +0; B . (0xE7FE); BL first half, offset high = 0; BL first half,
offset high = 0x7FF (negative); BL second half, offset low = 0x10, at iaddr 0x8002. -/
theorem test_thumb_branches_1 :
    ends (.thumb 0xE000#16) (start 0x8000 0xF3 [] []) 0x00008004 0xF3 [] [] = true ∧
    ends (.thumb 0xE7FE#16) (start 0x8000 0xF3 [] []) 0x00008000 0xF3 [] [] = true ∧
    ends (.thumb 0xF000#16) (start 0x8000 0xF3 [] []) 0x00008002 0xF3 [(14, 0x00008004)] [] = true ∧
    ends (.thumb 0xF7FF#16) (start 0x8000 0xF3 [] []) 0x00008002 0xF3 [(14, 0x00007004)] [] = true ∧
    ends (.thumb 0xF810#16) (start 0x8002 0xF3 [(14, 0x00009000)] []) 0x00009020 0xF3 [(14, 0x00008005)]
      [] = true := by
  decide

/-! Decoding: a word written out for every row of the opcode table, with values in its fields. -/

theorem test_decode_dp_0 :
  decode (.arm 0xF52E6B44#32) = .condNever 86928196#28 ∧
  decode (.arm 0x02037B0D#32) = .and 0#4 0#1 3#4 7#4 (.imm 11#4 13#8) ∧
  decode (.arm 0xB012E926#32) = .and 11#4 1#1 2#4 14#4 (.immShift 18#5 1#2 6#4) ∧
  decode (.arm 0xE00A1F74#32) = .and 14#4 0#1 10#4 1#4 (.regShift 15#4 3#2 4#4) ∧
  decode (.arm 0xE231276C#32) = .eor 14#4 1#1 1#4 2#4 (.imm 7#4 108#8) ∧
  decode (.arm 0x002241E7#32) = .eor 0#4 0#1 2#4 4#4 (.immShift 3#5 3#2 7#4) ∧
  decode (.arm 0xB031EA34#32) = .eor 11#4 1#1 1#4 14#4 (.regShift 10#4 1#2 4#4) ∧
  decode (.arm 0xE24BA194#32) = .sub 14#4 0#1 11#4 10#4 (.imm 1#4 148#8) ∧
  decode (.arm 0xE05A7129#32) = .sub 14#4 1#1 10#4 7#4 (.immShift 2#5 1#2 9#4) ∧
  decode (.arm 0x004E3559#32) = .sub 0#4 0#1 14#4 3#4 (.regShift 5#4 2#2 9#4) ∧
  decode (.arm 0xB272A590#32) = .rsb 11#4 1#1 2#4 10#4 (.imm 5#4 144#8) ∧
  decode (.arm 0xE06EB32A#32) = .rsb 14#4 0#1 14#4 11#4 (.immShift 6#5 1#2 10#4) ∧
  decode (.arm 0xE07AB459#32) = .rsb 14#4 1#1 10#4 11#4 (.regShift 4#4 2#2 9#4) := by
  decide

theorem test_decode_dp_1 :
  decode (.arm 0x028C2A10#32) = .add 0#4 0#1 12#4 2#4 (.imm 10#4 16#8) ∧
  decode (.arm 0xB09A4869#32) = .add 11#4 1#1 10#4 4#4 (.immShift 16#5 3#2 9#4) ∧
  decode (.arm 0xE087D65A#32) = .add 14#4 0#1 7#4 13#4 (.regShift 6#4 2#2 10#4) ∧
  decode (.arm 0xE2BF864D#32) = .adc 14#4 1#1 15#4 8#4 (.imm 6#4 77#8) ∧
  decode (.arm 0x00A4D362#32) = .adc 0#4 0#1 4#4 13#4 (.immShift 6#5 3#2 2#4) ∧
  decode (.arm 0xB0BA595F#32) = .adc 11#4 1#1 10#4 5#4 (.regShift 9#4 2#2 15#4) ∧
  decode (.arm 0xE2C6C84A#32) = .sbc 14#4 0#1 6#4 12#4 (.imm 8#4 74#8) ∧
  decode (.arm 0xE0DA2267#32) = .sbc 14#4 1#1 10#4 2#4 (.immShift 4#5 3#2 7#4) ∧
  decode (.arm 0x00C3D63F#32) = .sbc 0#4 0#1 3#4 13#4 (.regShift 6#4 1#2 15#4) ∧
  decode (.arm 0xB2F871F7#32) = .rsc 11#4 1#1 8#4 7#4 (.imm 1#4 247#8) ∧
  decode (.arm 0xE0EB2CEA#32) = .rsc 14#4 0#1 11#4 2#4 (.immShift 25#5 3#2 10#4) ∧
  decode (.arm 0xE0FDFE56#32) = .rsc 14#4 1#1 13#4 15#4 (.regShift 14#4 2#2 6#4) ∧
  decode (.arm 0x031C6A80#32) = .tst 0#4 12#4 6#4 (.imm 10#4 128#8) := by
  decide

theorem test_decode_dp_2 :
  decode (.arm 0xB11AD7AE#32) = .tst 11#4 10#4 13#4 (.immShift 15#5 1#2 14#4) ∧
  decode (.arm 0xE112587B#32) = .tst 14#4 2#4 5#4 (.regShift 8#4 3#2 11#4) ∧
  decode (.arm 0xE3321CB4#32) = .teq 14#4 2#4 1#4 (.imm 12#4 180#8) ∧
  decode (.arm 0x0135B9EE#32) = .teq 0#4 5#4 11#4 (.immShift 19#5 3#2 14#4) ∧
  decode (.arm 0xB1385C5F#32) = .teq 11#4 8#4 5#4 (.regShift 12#4 2#2 15#4) ∧
  decode (.arm 0xE35B61F1#32) = .cmp 14#4 11#4 6#4 (.imm 1#4 241#8) ∧
  decode (.arm 0xE1586A24#32) = .cmp 14#4 8#4 6#4 (.immShift 20#5 1#2 4#4) ∧
  decode (.arm 0x015D5374#32) = .cmp 0#4 13#4 5#4 (.regShift 3#4 3#2 4#4) ∧
  decode (.arm 0xB377FE80#32) = .cmn 11#4 7#4 15#4 (.imm 14#4 128#8) ∧
  decode (.arm 0xE17237C9#32) = .cmn 14#4 2#4 3#4 (.immShift 15#5 2#2 9#4) ∧
  decode (.arm 0xE175F35E#32) = .cmn 14#4 5#4 15#4 (.regShift 3#4 2#2 14#4) ∧
  decode (.arm 0x03895C6B#32) = .orr 0#4 0#1 9#4 5#4 (.imm 12#4 107#8) ∧
  decode (.arm 0xB196BEC4#32) = .orr 11#4 1#1 6#4 11#4 (.immShift 29#5 2#2 4#4) := by
  decide

theorem test_decode_dp_3 :
  decode (.arm 0xE1832471#32) = .orr 14#4 0#1 3#4 2#4 (.regShift 4#4 3#2 1#4) ∧
  decode (.arm 0xE3B8EA2F#32) = .mov 14#4 1#1 8#4 14#4 (.imm 10#4 47#8) ∧
  decode (.arm 0x01A51766#32) = .mov 0#4 0#1 5#4 1#4 (.immShift 14#5 3#2 6#4) ∧
  decode (.arm 0xB1BA637E#32) = .mov 11#4 1#1 10#4 6#4 (.regShift 3#4 3#2 14#4) ∧
  decode (.arm 0xE3C9ABAE#32) = .bic 14#4 0#1 9#4 10#4 (.imm 11#4 174#8) ∧
  decode (.arm 0xE1DC17ED#32) = .bic 14#4 1#1 12#4 1#4 (.immShift 15#5 3#2 13#4) ∧
  decode (.arm 0x01C9725B#32) = .bic 0#4 0#1 9#4 7#4 (.regShift 2#4 2#2 11#4) ∧
  decode (.arm 0xB3F71412#32) = .mvn 11#4 1#1 7#4 1#4 (.imm 4#4 18#8) ∧
  decode (.arm 0xE1E4832A#32) = .mvn 14#4 0#1 4#4 8#4 (.immShift 6#5 1#2 10#4) ∧
  decode (.arm 0xE1F12A39#32) = .mvn 14#4 1#1 1#4 2#4 (.regShift 10#4 1#2 9#4) := by
  decide

theorem test_decode_status_0 :
  decode (.arm 0x01026A01#32) = .mrs 0#4 0#1 2#4 6#4 10#4 1#4 ∧
  decode (.arm 0xB162E40A#32) = .msrReg 11#4 1#1 2#4 14#4 4#4 10#4 ∧
  decode (.arm 0xE3273B41#32) = .msrImm 14#4 0#1 7#4 3#4 11#4 65#8 ∧
  decode (.arm 0xE126A812#32) = .bx 14#4 6#4 10#4 8#4 2#4 ∧
  decode (.arm 0x0301D87D#32) = .undControlImm 0#4 0#1 120957#20 ∧
  decode (.arm 0xB14D9618#32) = .undControlOne 11#4 1#1 3478#12 8#4 ∧
  decode (.arm 0xE16FE418#32) = .undControlOneR 14#4 4068#12 8#4 ∧
  decode (.arm 0xE147BE45#32) = .undControlHigh 14#4 2#2 1982#12 0#1 0#1 5#4 ∧
  decode (.arm 0x01224F32#32) = .undControlLow 0#4 1#2 591#12 1#1 2#4 ∧
  decode (.arm 0xB1657CE5#32) = .undControlEven 11#4 3#2 1404#12 3#2 5#4 := by
  decide

theorem test_decode_multiply_0 :
  decode (.arm 0xE008EC93#32) = .mul 14#4 0#1 8#4 14#4 12#4 3#4 ∧
  decode (.arm 0xE0391496#32) = .mla 14#4 1#1 9#4 1#4 4#4 6#4 ∧
  decode (.arm 0x0083C99F#32) = .umull 0#4 0#1 3#4 12#4 9#4 15#4 ∧
  decode (.arm 0xB0B1D995#32) = .umlal 11#4 1#1 1#4 13#4 9#4 5#4 ∧
  decode (.arm 0xE0CBE29C#32) = .smull 14#4 0#1 11#4 14#4 2#4 12#4 ∧
  decode (.arm 0xE0FE5996#32) = .smlal 14#4 1#1 14#4 5#4 9#4 6#4 ∧
  decode (.arm 0x0055B19D#32) = .undMultiply 0#4 1#2 1457#12 13#4 := by
  decide

theorem test_decode_swap_half_0 :
  decode (.arm 0xB1049D96#32) = .swp 11#4 4#4 9#4 13#4 6#4 ∧
  decode (.arm 0xE14B4A9D#32) = .swpb 14#4 11#4 4#4 10#4 13#4 ∧
  decode (.arm 0xE1FFC39D#32) = .undSwapHigh 14#4 7#3 4035#12 13#4 ∧
  decode (.arm 0x013CE694#32) = .undSwapOdd 0#4 1#2 3302#12 4#4 ∧
  decode (.arm 0xB16D1897#32) = .undSwapEven 11#4 1#1 3352#12 7#4 ∧
  decode (.arm 0xE00CD4B9#32) = .strh 14#4 0#1 0#1 0#1 12#4 13#4 (.reg 4#4 9#4) ∧
  decode (.arm 0xE1E86CB1#32) = .strh 14#4 1#1 1#1 1#1 8#4 6#4 (.imm 12#4 1#4) ∧
  decode (.arm 0x0011D5B8#32) = .ldrh 0#4 0#1 0#1 0#1 1#4 13#4 (.reg 5#4 8#4) ∧
  decode (.arm 0xB1F54CBA#32) = .ldrh 11#4 1#1 1#1 1#1 5#4 4#4 (.imm 12#4 10#4) ∧
  decode (.arm 0xE0168DDF#32) = .ldrsb 14#4 0#1 0#1 0#1 6#4 8#4 (.reg 13#4 15#4) ∧
  decode (.arm 0xE1FC62D4#32) = .ldrsb 14#4 1#1 1#1 1#1 12#4 6#4 (.imm 2#4 4#4) ∧
  decode (.arm 0x001248F6#32) = .ldrsh 0#4 0#1 0#1 0#1 2#4 4#4 (.reg 8#4 6#4) ∧
  decode (.arm 0xB1F48AFF#32) = .ldrsh 11#4 1#1 1#1 1#1 4#4 8#4 (.imm 10#4 15#4) := by
  decide

theorem test_decode_swap_half_1 :
  decode (.arm 0xE14D73F1#32) = .undSignedStore 14#4 10#4 3443#12 1#1 1#4 := by
  decide

theorem test_decode_loadstore_0 :
  decode (.arm 0xE5B8FA73#32) = .ldr 14#4 1#1 1#1 8#4 15#4 (.imm 2675#12) ∧
  decode (.arm 0x0416DA4B#32) = .ldrPost 0#4 0#1 6#4 13#4 (.imm 2635#12) ∧
  decode (.arm 0xB4B2EA92#32) = .ldrt 11#4 1#1 2#4 14#4 (.imm 2706#12) ∧
  decode (.arm 0xE712F6E4#32) = .ldr 14#4 0#1 0#1 2#4 15#4 (.reg 13#5 3#2 4#4) ∧
  decode (.arm 0xE698F34D#32) = .ldrPost 14#4 1#1 8#4 15#4 (.reg 6#5 2#2 13#4) ∧
  decode (.arm 0x063B61E7#32) = .ldrt 0#4 0#1 11#4 6#4 (.reg 3#5 3#2 7#4) ∧
  decode (.arm 0xB5A87BE5#32) = .str 11#4 1#1 1#1 8#4 7#4 (.imm 3045#12) ∧
  decode (.arm 0xE402C28B#32) = .strPost 14#4 0#1 2#4 12#4 (.imm 651#12) ∧
  decode (.arm 0xE4A3126C#32) = .strt 14#4 1#1 3#4 1#4 (.imm 620#12) ∧
  decode (.arm 0x070AFD6E#32) = .str 0#4 0#1 0#1 10#4 15#4 (.reg 26#5 3#2 14#4) ∧
  decode (.arm 0xB68A8B43#32) = .strPost 11#4 1#1 10#4 8#4 (.reg 22#5 2#2 3#4) ∧
  decode (.arm 0xE62930AD#32) = .strt 14#4 0#1 9#4 3#4 (.reg 1#5 1#2 13#4) ∧
  decode (.arm 0xE5FCB1A5#32) = .ldrb 14#4 1#1 1#1 12#4 11#4 (.imm 421#12) := by
  decide

theorem test_decode_loadstore_1 :
  decode (.arm 0x0459CEF1#32) = .ldrbPost 0#4 0#1 9#4 12#4 (.imm 3825#12) ∧
  decode (.arm 0xB4F37FC9#32) = .ldrbt 11#4 1#1 3#4 7#4 (.imm 4041#12) ∧
  decode (.arm 0xE75E4DA5#32) = .ldrb 14#4 0#1 0#1 14#4 4#4 (.reg 27#5 1#2 5#4) ∧
  decode (.arm 0xE6D458AD#32) = .ldrbPost 14#4 1#1 4#4 5#4 (.reg 17#5 1#2 13#4) ∧
  decode (.arm 0x067A64E7#32) = .ldrbt 0#4 0#1 10#4 6#4 (.reg 9#5 3#2 7#4) ∧
  decode (.arm 0xB5EE30FA#32) = .strb 11#4 1#1 1#1 14#4 3#4 (.imm 250#12) ∧
  decode (.arm 0xE44FC5AA#32) = .strbPost 14#4 0#1 15#4 12#4 (.imm 1450#12) ∧
  decode (.arm 0xE4EF8A9A#32) = .strbt 14#4 1#1 15#4 8#4 (.imm 2714#12) ∧
  decode (.arm 0x074AEEE7#32) = .strb 0#4 0#1 0#1 10#4 14#4 (.reg 29#5 3#2 7#4) ∧
  decode (.arm 0xB6CEFEE9#32) = .strbPost 11#4 1#1 14#4 15#4 (.reg 29#5 3#2 9#4) ∧
  decode (.arm 0xE66398AE#32) = .strbt 14#4 0#1 3#4 9#4 (.reg 17#5 1#2 14#4) ∧
  decode (.arm 0xE6E1583D#32) = .undSpace 14#4 461505#20 13#4 := by
  decide

theorem test_decode_block_branch_0 :
  decode (.arm 0x08139BCB#32) = .ldm 0#4 0#1 0#1 0#1 3#4 39883#16 ∧
  decode (.arm 0xB9F16356#32) = .ldmUser 11#4 1#1 1#1 1#1 1#4 25430#15 ∧
  decode (.arm 0xE85D932D#32) = .ldmRestore 14#4 0#1 0#1 0#1 13#4 4909#15 ∧
  decode (.arm 0xE9A3243E#32) = .stm 14#4 1#1 1#1 1#1 3#4 9278#16 ∧
  decode (.arm 0x08489E7E#32) = .stmUser 0#4 0#1 0#1 0#1 8#4 40574#16 ∧
  decode (.arm 0xBAB9A645#32) = .b 11#4 12166725#24 ∧
  decode (.arm 0xEB1ECE62#32) = .bl 14#4 2018914#24 := by
  decide

theorem test_decode_coproc_0 :
  decode (.arm 0xEDF916AF#32) = .ldcPre 14#4 1#1 1#1 1#1 9#4 1#4 6#4 175#8 ∧
  decode (.arm 0x0C998DC7#32) = .ldcUp 0#4 0#1 0#1 9#4 8#4 13#4 199#8 ∧
  decode (.arm 0xBC72F940#32) = .ldcDown 11#4 1#1 2#4 15#4 9#4 64#8 ∧
  decode (.arm 0xED0451C6#32) = .stcPre 14#4 0#1 0#1 0#1 4#4 5#4 1#4 198#8 ∧
  decode (.arm 0xECE29890#32) = .stcUp 14#4 1#1 1#1 2#4 9#4 8#4 144#8 ∧
  decode (.arm 0x0C21DFEA#32) = .stcDown 0#4 0#1 1#4 13#4 15#4 234#8 ∧
  decode (.arm 0xBC510390#32) = .undCoproc 11#4 1#1 1#1 66448#20 ∧
  decode (.arm 0xEE86A9A4#32) = .cdp 14#4 8#4 6#4 10#4 9#4 5#3 4#4 ∧
  decode (.arm 0xEEC585F4#32) = .mcr 14#4 6#3 5#4 8#4 5#4 7#3 4#4 ∧
  decode (.arm 0x0ED9F55E#32) = .mrc 0#4 6#3 9#4 15#4 5#4 2#3 14#4 ∧
  decode (.arm 0xBF729136#32) = .swi 11#4 7508278#24 := by
  decide

theorem test_decode_cp15_read_0 :
  decode (.arm 0xEE103F10#32) = .mrcP15c0c0o0 14#4 3#4 ∧
  decode (.arm 0xEE107F50#32) = .mrcP15c0c0o2 14#4 7#4 ∧
  decode (.arm 0x0E102F70#32) = .mrcP15c0c0o3 0#4 2#4 ∧
  decode (.arm 0xBE107F90#32) = .mrcP15c0c0o4 11#4 7#4 ∧
  decode (.arm 0xEE108FB0#32) = .mrcP15c0c0o5 14#4 8#4 ∧
  decode (.arm 0xEE106FD0#32) = .mrcP15c0c0o6 14#4 6#4 ∧
  decode (.arm 0x0E102FF0#32) = .mrcP15c0c0o7 0#4 2#4 ∧
  decode (.arm 0xBE10BF30#32) = .mrcP15c0c0o1 11#4 11#4 ∧
  decode (.arm 0xEE114F10#32) = .mrcP15c1c0o0 14#4 4#4 ∧
  decode (.arm 0xEE127F10#32) = .mrcP15c2c0o0 14#4 7#4 ∧
  decode (.arm 0x0E122F30#32) = .mrcP15c2c0o1 0#4 2#4 ∧
  decode (.arm 0xBE134F10#32) = .mrcP15c3c0o0 11#4 4#4 ∧
  decode (.arm 0xEE15BF10#32) = .mrcP15c5c0o0 14#4 11#4 := by
  decide

theorem test_decode_cp15_read_1 :
  decode (.arm 0xEE155F30#32) = .mrcP15c5c0o1 14#4 5#4 ∧
  decode (.arm 0x0E16DF10#32) = .mrcP15c6c0o0 0#4 13#4 ∧
  decode (.arm 0xBE162F30#32) = .mrcP15c6c0o1 11#4 2#4 ∧
  decode (.arm 0xEE16FF11#32) = .mrcP15c6c1o0 14#4 15#4 ∧
  decode (.arm 0xEE16DF31#32) = .mrcP15c6c1o1 14#4 13#4 ∧
  decode (.arm 0x0E163F12#32) = .mrcP15c6c2o0 0#4 3#4 ∧
  decode (.arm 0xBE16CF32#32) = .mrcP15c6c2o1 11#4 12#4 ∧
  decode (.arm 0xEE16BF13#32) = .mrcP15c6c3o0 14#4 11#4 ∧
  decode (.arm 0xEE16BF33#32) = .mrcP15c6c3o1 14#4 11#4 ∧
  decode (.arm 0x0E166F14#32) = .mrcP15c6c4o0 0#4 6#4 ∧
  decode (.arm 0xBE163F34#32) = .mrcP15c6c4o1 11#4 3#4 ∧
  decode (.arm 0xEE165F15#32) = .mrcP15c6c5o0 14#4 5#4 ∧
  decode (.arm 0xEE16FF35#32) = .mrcP15c6c5o1 14#4 15#4 := by
  decide

theorem test_decode_cp15_read_2 :
  decode (.arm 0x0E163F16#32) = .mrcP15c6c6o0 0#4 3#4 ∧
  decode (.arm 0xBE168F36#32) = .mrcP15c6c6o1 11#4 8#4 ∧
  decode (.arm 0xEE164F17#32) = .mrcP15c6c7o0 14#4 4#4 ∧
  decode (.arm 0xEE16CF37#32) = .mrcP15c6c7o1 14#4 12#4 ∧
  decode (.arm 0x0E192F10#32) = .mrcP15c9c0o0 0#4 2#4 ∧
  decode (.arm 0xBE197F30#32) = .mrcP15c9c0o1 11#4 7#4 ∧
  decode (.arm 0xEE1FFF10#32) = .mrcP15c15c0o0 14#4 15#4 := by
  decide

theorem test_decode_cp15_write_0 :
  decode (.arm 0xEE018F10#32) = .mcrP15c1c0o0 14#4 8#4 ∧
  decode (.arm 0x0E023F10#32) = .mcrP15c2c0o0 0#4 3#4 ∧
  decode (.arm 0xBE02BF30#32) = .mcrP15c2c0o1 11#4 11#4 ∧
  decode (.arm 0xEE03EF10#32) = .mcrP15c3c0o0 14#4 14#4 ∧
  decode (.arm 0xEE054F10#32) = .mcrP15c5c0o0 14#4 4#4 ∧
  decode (.arm 0x0E053F30#32) = .mcrP15c5c0o1 0#4 3#4 ∧
  decode (.arm 0xBE06CF10#32) = .mcrP15c6c0o0 11#4 12#4 ∧
  decode (.arm 0xEE067F30#32) = .mcrP15c6c0o1 14#4 7#4 ∧
  decode (.arm 0xEE069F11#32) = .mcrP15c6c1o0 14#4 9#4 ∧
  decode (.arm 0x0E067F31#32) = .mcrP15c6c1o1 0#4 7#4 ∧
  decode (.arm 0xBE066F12#32) = .mcrP15c6c2o0 11#4 6#4 ∧
  decode (.arm 0xEE067F32#32) = .mcrP15c6c2o1 14#4 7#4 ∧
  decode (.arm 0xEE064F13#32) = .mcrP15c6c3o0 14#4 4#4 := by
  decide

theorem test_decode_cp15_write_1 :
  decode (.arm 0x0E066F33#32) = .mcrP15c6c3o1 0#4 6#4 ∧
  decode (.arm 0xBE066F14#32) = .mcrP15c6c4o0 11#4 6#4 ∧
  decode (.arm 0xEE062F34#32) = .mcrP15c6c4o1 14#4 2#4 ∧
  decode (.arm 0xEE06CF15#32) = .mcrP15c6c5o0 14#4 12#4 ∧
  decode (.arm 0x0E066F35#32) = .mcrP15c6c5o1 0#4 6#4 ∧
  decode (.arm 0xBE061F16#32) = .mcrP15c6c6o0 11#4 1#4 ∧
  decode (.arm 0xEE066F36#32) = .mcrP15c6c6o1 14#4 6#4 ∧
  decode (.arm 0xEE069F17#32) = .mcrP15c6c7o0 14#4 9#4 ∧
  decode (.arm 0x0E068F37#32) = .mcrP15c6c7o1 0#4 8#4 ∧
  decode (.arm 0xBE098F10#32) = .mcrP15c9c0o0 11#4 8#4 ∧
  decode (.arm 0xEE09CF30#32) = .mcrP15c9c0o1 14#4 12#4 ∧
  decode (.arm 0xEE0F1F10#32) = .mcrP15c15c0o0 14#4 1#4 ∧
  decode (.arm 0x0E077F15#32) = .mcrP15c7c5o0 0#4 7#4 := by
  decide

theorem test_decode_cp15_write_2 :
  decode (.arm 0xBE076F55#32) = .mcrP15c7c5o2 11#4 6#4 ∧
  decode (.arm 0xEE079F16#32) = .mcrP15c7c6o0 14#4 9#4 ∧
  decode (.arm 0xEE07AF56#32) = .mcrP15c7c6o2 14#4 10#4 ∧
  decode (.arm 0x0E075F5A#32) = .mcrP15c7c10o2 0#4 5#4 ∧
  decode (.arm 0xBE079F3D#32) = .mcrP15c7c13o1 11#4 9#4 ∧
  decode (.arm 0xEE072F5E#32) = .mcrP15c7c14o2 14#4 2#4 ∧
  decode (.arm 0xEE072F90#32) = .mcrP15c7c0o4 14#4 2#4 ∧
  decode (.arm 0x0E0FFF58#32) = .mcrP15c15c8o2 0#4 15#4 ∧
  decode (.arm 0xBE07DF9A#32) = .mcrP15c7c10o4 11#4 13#4 ∧
  decode (.arm 0xEE074F58#32) = .mcrP15c7c8o2 14#4 4#4 ∧
  decode (.arm 0xEE07FF35#32) = .mcrP15c7c5o1 14#4 15#4 ∧
  decode (.arm 0x0E102E10#32) = .mrcP14c0c0o0 0#4 2#4 ∧
  decode (.arm 0xBE012E10#32) = .mcrP14c1c0o0 11#4 2#4 := by
  decide

theorem test_decode_cp15_write_3 :
  decode (.arm 0xEE115E10#32) = .mrcP14c1c0o0 14#4 5#4 := by
  decide

theorem test_decode_thumb_alu_0 :
  decode (.thumb 0x024F#16) = .tLslImm 9#5 1#3 7#3 ∧
  decode (.thumb 0x099F#16) = .tLsrImm 6#5 3#3 7#3 ∧
  decode (.thumb 0x117C#16) = .tAsrImm 5#5 7#3 4#3 ∧
  decode (.thumb 0x19F3#16) = .tAddReg 7#3 6#3 3#3 ∧
  decode (.thumb 0x1B15#16) = .tSubReg 4#3 2#3 5#3 ∧
  decode (.thumb 0x1D66#16) = .tAddImm3 5#3 4#3 6#3 ∧
  decode (.thumb 0x1ECF#16) = .tSubImm3 3#3 1#3 7#3 ∧
  decode (.thumb 0x262F#16) = .tMovImm 6#3 47#8 ∧
  decode (.thumb 0x2CE6#16) = .tCmpImm 4#3 230#8 ∧
  decode (.thumb 0x3145#16) = .tAddImm8 1#3 69#8 ∧
  decode (.thumb 0x39A3#16) = .tSubImm8 1#3 163#8 ∧
  decode (.thumb 0x400F#16) = .tAnd 1#3 7#3 ∧
  decode (.thumb 0x4059#16) = .tEor 3#3 1#3 := by
  decide

theorem test_decode_thumb_alu_1 :
  decode (.thumb 0x40AF#16) = .tLslReg 5#3 7#3 ∧
  decode (.thumb 0x40D1#16) = .tLsrReg 2#3 1#3 ∧
  decode (.thumb 0x411F#16) = .tAsrReg 3#3 7#3 ∧
  decode (.thumb 0x414C#16) = .tAdc 1#3 4#3 ∧
  decode (.thumb 0x418B#16) = .tSbc 1#3 3#3 ∧
  decode (.thumb 0x41EC#16) = .tRorReg 5#3 4#3 ∧
  decode (.thumb 0x421D#16) = .tTst 3#3 5#3 ∧
  decode (.thumb 0x4251#16) = .tNeg 2#3 1#3 ∧
  decode (.thumb 0x42AE#16) = .tCmpReg 5#3 6#3 ∧
  decode (.thumb 0x42D1#16) = .tCmn 2#3 1#3 ∧
  decode (.thumb 0x4313#16) = .tOrr 2#3 3#3 ∧
  decode (.thumb 0x434A#16) = .tMul 1#3 2#3 ∧
  decode (.thumb 0x4393#16) = .tBic 2#3 3#3 := by
  decide

theorem test_decode_thumb_alu_2 :
  decode (.thumb 0x43F3#16) = .tMvn 6#3 3#3 ∧
  decode (.thumb 0x44EF#16) = .tAddHi 1#1 5#3 7#3 ∧
  decode (.thumb 0x4453#16) = .tAddLoHi 2#3 3#3 ∧
  decode (.thumb 0x4425#16) = .tAddLow 4#3 5#3 ∧
  decode (.thumb 0x45B2#16) = .tCmpHi 0#1 6#3 2#3 ∧
  decode (.thumb 0x455F#16) = .tCmpLoHi 3#3 7#3 ∧
  decode (.thumb 0x450B#16) = .tCmpLow 1#3 3#3 ∧
  decode (.thumb 0x46CE#16) = .tMovHi 1#1 1#3 6#3 ∧
  decode (.thumb 0x466A#16) = .tMovLoHi 5#3 2#3 ∧
  decode (.thumb 0x462C#16) = .tMovLow 5#3 4#3 := by
  decide

theorem test_decode_thumb_mem_0 :
  decode (.thumb 0x4714#16) = .tBx 0#1 2#3 4#3 ∧
  decode (.thumb 0x47CE#16) = .tBxHigh 1#1 1#3 6#3 ∧
  decode (.thumb 0x4FA7#16) = .tLdrPc 7#3 167#8 ∧
  decode (.thumb 0x5135#16) = .tStrReg 4#3 6#3 5#3 ∧
  decode (.thumb 0x55E5#16) = .tStrbReg 7#3 4#3 5#3 ∧
  decode (.thumb 0x58F2#16) = .tLdrReg 3#3 6#3 2#3 ∧
  decode (.thumb 0x5C9F#16) = .tLdrbReg 2#3 3#3 7#3 ∧
  decode (.thumb 0x5394#16) = .tStrhReg 6#3 2#3 4#3 ∧
  decode (.thumb 0x5ACF#16) = .tLdrhReg 3#3 1#3 7#3 ∧
  decode (.thumb 0x568E#16) = .tLdsbReg 2#3 1#3 6#3 ∧
  decode (.thumb 0x5F9C#16) = .tLdshReg 6#3 3#3 4#3 ∧
  decode (.thumb 0x618F#16) = .tStrImm 6#5 1#3 7#3 ∧
  decode (.thumb 0x6B7D#16) = .tLdrImm 13#5 7#3 5#3 := by
  decide

theorem test_decode_thumb_mem_1 :
  decode (.thumb 0x759D#16) = .tStrbImm 22#5 3#3 5#3 ∧
  decode (.thumb 0x7A33#16) = .tLdrbImm 8#5 6#3 3#3 ∧
  decode (.thumb 0x80A3#16) = .tStrhImm 2#5 4#3 3#3 ∧
  decode (.thumb 0x8BCB#16) = .tLdrhImm 15#5 1#3 3#3 ∧
  decode (.thumb 0x93F7#16) = .tStrSp 3#3 247#8 ∧
  decode (.thumb 0x9BF9#16) = .tLdrSp 3#3 249#8 ∧
  decode (.thumb 0xA553#16) = .tAddPc 5#3 83#8 ∧
  decode (.thumb 0xAA09#16) = .tAddSp 2#3 9#8 ∧
  decode (.thumb 0xB07C#16) = .tAddSpImm 124#7 ∧
  decode (.thumb 0xB0F1#16) = .tSubSpImm 113#7 ∧
  decode (.thumb 0xB450#16) = .tPush 0#1 80#8 ∧
  decode (.thumb 0xBD38#16) = .tPop 1#1 56#8 ∧
  decode (.thumb 0xB15C#16) = .tUndB1 92#8 := by
  decide

theorem test_decode_thumb_branch_0 :
  decode (.thumb 0xB25E#16) = .tUndB2 94#9 ∧
  decode (.thumb 0xB601#16) = .tUndB6 1#9 ∧
  decode (.thumb 0xB958#16) = .tUndB8 344#10 ∧
  decode (.thumb 0xBEC4#16) = .tUndBE 196#9 ∧
  decode (.thumb 0xC17A#16) = .tStmia 1#3 122#8 ∧
  decode (.thumb 0xCB81#16) = .tLdmia 3#3 129#8 ∧
  decode (.thumb 0xD0A8#16) = .tBeq 168#8 ∧
  decode (.thumb 0xD134#16) = .tBne 52#8 ∧
  decode (.thumb 0xD240#16) = .tBcs 64#8 ∧
  decode (.thumb 0xD382#16) = .tBcc 130#8 ∧
  decode (.thumb 0xD4C7#16) = .tBmi 199#8 ∧
  decode (.thumb 0xD502#16) = .tBpl 2#8 ∧
  decode (.thumb 0xD618#16) = .tBvs 24#8 := by
  decide

theorem test_decode_thumb_branch_1 :
  decode (.thumb 0xD744#16) = .tBvc 68#8 ∧
  decode (.thumb 0xD8D2#16) = .tBhi 210#8 ∧
  decode (.thumb 0xD917#16) = .tBls 23#8 ∧
  decode (.thumb 0xDA25#16) = .tBge 37#8 ∧
  decode (.thumb 0xDB67#16) = .tBlt 103#8 ∧
  decode (.thumb 0xDC97#16) = .tBgt 151#8 ∧
  decode (.thumb 0xDD0B#16) = .tBle 11#8 ∧
  decode (.thumb 0xDE65#16) = .tUndCond 101#8 ∧
  decode (.thumb 0xDF06#16) = .tSwi 6#8 ∧
  decode (.thumb 0xE266#16) = .tB 614#11 ∧
  decode (.thumb 0xEA70#16) = .tUndE8 624#11 ∧
  decode (.thumb 0xF50A#16) = .tBlFirst 1290#11 ∧
  decode (.thumb 0xF9DD#16) = .tBlSecond 477#11 := by
  decide

/-! Witnesses: for each obligation with hypotheses, concrete operands and states that meet them, clause by
clause.  `ready` gathers what most of them ask of a state. -/

/-- What the claims about instructions ask of a state: the condition passes, the next instruction is in the
address space, every access is one external transfer, memory is in canonical form. -/
def ready (s : State) : Bool := s.passes 14#4 && s.room && s.direct && s.undebugged && s.mem.wf

/-- User, Supervisor and System mode in ARM state, and the same with Thumb state. -/
def usr : State := start 0x8000 0x10 [] []
def svc : State := start 0x8000 0xD3 [(0, 2), (1, 0x1000), (2, 0x1001), (3, 0x1002), (4, 4)] [(0x1000, 0x44332211)]
def sys : State := start 0x8000 0xDF [] []
def svcThumb : State := start 0x8000 0xF3 [(0, 2), (1, 0x1000), (2, 0x1001), (14, 0x9001)] []

/-- The last word of the address space. -/
def top : State := start 0xFFFFFFFC 0xD3 [] []

/-- The protection unit is on, both sides have one 4GB region, 0, with full access. -/
def open4G (s : State) : State :=
  { s with cp15 := { s.cp15 with
      p := true, i := true, c := true, apD := 3#16, apI := 3#16
      regionsD := (Vector.replicate 8 Region.reset).set 0 ⟨0#20, 31#5, true⟩
      regionsI := (Vector.replicate 8 Region.reset).set 0 ⟨0#20, 31#5, true⟩ } }

/-- Region 0 cachable and bufferable as given. -/
def kind (cachable bufferable : Bool) (s : State) : State :=
  { s with cp15 := { s.cp15 with
      cachableD := (BitVec.ofBool cachable).zeroExtend 8, cachableI := (BitVec.ofBool cachable).zeroExtend 8
      bufferable := (BitVec.ofBool bufferable).zeroExtend 8 } }

/-- The TAP with this instruction and chain. -/
def tapAt (ir : BitVec 4) (chain : BitVec 5) (s : State) : State :=
  { s with tap := { s.tap with ir := ir, chain := chain } }

theorem test_ready :
    [usr, svc, sys, svcThumb].all ready = true ∧ usr.mode = modeUsr ∧ svc.mode ≠ modeUsr ∧ sys.mode = modeSys ∧
    svc.mode ≠ modeSys ∧ svcThumb.thumb = true ∧ top.room = false ∧ top.passes 14#4 = true := by
  decide

/-- Shift amounts 0, 1 and 31; 0, 1, 31, 32, 33 and 255 for registers. -/
theorem witness_ShifterTables :
    (0#5 : BitVec 5) = 0#5 ∧ (1#5 : BitVec 5) ≠ 0#5 ∧ (31#5 : BitVec 5) ≠ 0#5 ∧ (0#8 : BitVec 8) = 0#8 ∧
    ([1#8, 31#8, 32#8, 33#8, 255#8] : List (BitVec 8)).all (fun n => n != 0#8) = true ∧
    (32#8 : BitVec 8).toNat % 32 = 0 ∧ (33#8 : BitVec 8).toNat % 32 ≠ 0 := by
  decide

theorem witness_ConditionsAndTheirFailure :
    (fld 0x00000000#32 28 4 ≠ 15#4 ∧ encode (decode (.arm 0#32)) = .arm 0#32 ∧
      svc.condPassed (fld 0x00000000#32 28 4) = false ∧ svc.room = true ∧
      top.condPassed (fld 0x00000000#32 28 4) = false ∧ top.room = false) ∧
    (fld 0xF0000000#32 28 4 = 15#4 ∧ encode (decode (.arm 0xF0000000#32)) = .arm 0xF0000000#32) := by
  decide

theorem witness_LogicalAndMoveOperations : svc.passes 14#4 = true ∧ (14#4 : BitVec 4) ≠ 15#4 ∧ svc.room = true := by
  decide

theorem witness_ArithmeticOperations : svc.passes 14#4 = true ∧ (14#4 : BitVec 4) ≠ 15#4 ∧ svc.room = true := by
  decide

/-- MOV pc with a multiple of 4, and with 2 in r0; the returns in User and System mode, from a saved mode that is none
of the seven, to Thumb and to ARM state. -/
theorem witness_ResultsToThePc :
    svc.passes 14#4 = true ∧ svc.thumb = false ∧ (svc.operand2 (.immShift 0#5 0#2 4#4)).value.toNat % 4 = 0 ∧
    (svc.operand2 (.immShift 0#5 0#2 0#4)).value.toNat % 4 ≠ 0 ∧ usr.passes 14#4 = true ∧ sys.passes 14#4 = true ∧
    usr.mode = modeUsr ∧ sys.mode = modeSys ∧ modeHasSpsr svc.mode = true ∧
    modeLegal ((svc.spsrOf svc.mode &&& 0xF00000FF#32).extractLsb' 0 5) = false ∧
    (∀ thumb : Bool,
      let s := { svc with spsrSvc := if thumb then 0x30#32 else 0x10#32 }
      let saved := s.spsrOf s.mode &&& 0xF00000FF#32
      modeHasSpsr s.mode = true ∧ modeLegal (saved.extractLsb' 0 5) = true ∧ saved.getLsbD 5 = thumb) := by
  decide

/-- All seven modes; fields f and c from r0: the control byte of User mode, of no mode, and with T = 1. -/
theorem witness_StatusRegisterTransfers :
    ([(0x10, modeUsr), (0x11, modeFiq), (0x12, modeIrq), (0x13, modeSvc), (0x17, modeAbt), (0x1B, modeUnd),
        (0x1F, modeSys)] : List (Nat × BitVec 5)).all
      (fun p => ready (start 0x8000 p.1 [] []) && (start 0x8000 p.1 [] []).mode == p.2) = true ∧
    ([(0x10, 0xF00000D0), (0xD3, 0xF000001F), (0xD3, 0xF0000000), (0xD3, 0xF000003F)] : List (Nat × Nat)).all
      (fun p =>
        let s := start 0x8000 p.1 [(0, p.2)] []
        let t := { s with dbg := { s.dbg with active := true } }
        ready s && s.cpsr &&& 0x0FFFFF00#32 == 0#32 && t.passes 14#4 && t.room && t.cpsr == s.cpsr) = true ∧
    (let control (v : Nat) : BitVec 8 := ((start 0x8000 0xD3 [(0, v)] []).reg 0#4).extractLsb' 0 8
     (control 0xF000001F).getLsbD 5 = svc.thumb ∧ modeLegal ((control 0xF000001F).extractLsb' 0 5) = true ∧
     (control 0xF0000000).getLsbD 5 = svc.thumb ∧ modeLegal ((control 0xF0000000).extractLsb' 0 5) = false ∧
     (control 0xF000003F).getLsbD 5 ≠ svc.thumb) := by
  decide

/-- Rd, Rn, Rs and Rm 0 to 3, and RdHi, RdLo 13 and 14. -/
theorem witness_Multiplies :
    svc.passes 14#4 = true ∧ svc.room = true ∧
    ([0#4, 1#4, 2#4, 3#4, 13#4, 14#4] : List (BitVec 4)).Nodup ∧
    ([0#4, 1#4, 2#4, 3#4, 13#4, 14#4] : List (BitVec 4)).all (fun r => r != 15#4) = true := by
  decide

/-- B to itself, below 0 and past the top; BX to 4, to 0x1001 and to 2. -/
theorem witness_BranchesAndExchange :
    svc.passes 14#4 = true ∧ top.passes 14#4 = true ∧
    (let target (s : State) (i : BitVec 24) : Int := s.pc.toNat + 8 + 4 * i.toInt
     target svc 0xFFFFFE#24 = 0x8000 ∧ target (start 0 0xD3 [] []) 0xFFFFFE#24 = 0 ∧
     target (start 0 0xD3 [] []) 0xFFFFFD#24 < 0 ∧ target top 0xFFFFFE#24 = 2 ^ 32 - 4 ∧
     2 ^ 32 ≤ target top 0xFFFFFF#24) ∧
    (svc.reg 4#4).toNat % 4 ≠ 2 ∧ (svc.reg 2#4).toNat % 4 ≠ 2 ∧ (svc.reg 0#4).toNat % 4 = 2 ∧
    (14#4 : BitVec 4) ≠ 15#4 := by
  decide

theorem witness_SoftwareAndUndefinedExceptions :
    usr.undebugged = true ∧ usr.passes 14#4 = true ∧ svcThumb.undebugged = true := by
  decide

/-- An immediate offset, and r0 added to r1; Rd = 2 and 15; W = 0 with R15 as base, and with Rd = Rn. -/
theorem witness_LoadsOfWordsAndBytes :
    ready svc = true ∧ offsetReg2 (.imm 4#12) ≠ some 15#4 ∧ offsetReg2 (.reg 0#5 0#2 0#4) ≠ some 15#4 ∧
    offsetReg2 (.reg 0#5 0#2 0#4) ≠ some 1#4 ∧ (1#4 : BitVec 4) ≠ 15#4 ∧ (2#4 : BitVec 4) ≠ 1#4 ∧
    (15#4 : BitVec 4) ≠ 1#4 ∧ (2#4 : BitVec 4) ≠ 15#4 ∧ (0#1 : BitVec 1) ≠ 1#1 := by
  decide

theorem witness_StoresOfWordsAndBytes :
    ready svc = true ∧ offsetReg2 (.reg 0#5 0#2 0#4) ≠ some 15#4 ∧ offsetReg2 (.reg 0#5 0#2 0#4) ≠ some 1#4 ∧
    (1#4 : BitVec 4) ≠ 15#4 ∧ (2#4 : BitVec 4) ≠ 1#4 ∧ (15#4 : BitVec 4) ≠ 1#4 := by
  decide

/-- Bases r1, even, and r2, odd, with the offset 0; Rd = 0 with writeback. -/
theorem witness_HalfwordAndSignedTransfers :
    ready svc = true ∧ ((0#4 : BitVec 4) ≠ 15#4 ∧ (0#4 : BitVec 4) ≠ 1#4) ∧ offsetReg3 (.imm 0#4 0#4) ≠ some 15#4 ∧
    (∀ sbz rm, Offset3.imm 0#4 0#4 = .reg sbz rm → sbz = 0#4) ∧
    (∀ sbz rm, Offset3.reg 0#4 3#4 = .reg sbz rm → sbz = 0#4) ∧ offsetReg3 (.reg 0#4 3#4) ≠ some 1#4 ∧
    (svc.reg 1#4 + svc.offset3 (.imm 0#4 0#4)).toNat % 2 = 0 ∧
    (svc.reg 2#4 + svc.offset3 (.imm 0#4 0#4)).toNat % 2 = 1 := by
  refine ⟨by decide, by decide, by decide, (fun _ _ h => by cases h), (fun _ _ h => by cases h; rfl), by decide,
    by decide, by decide⟩

/-- r0 and r2 with the base r1; Rd = Rm = 0. -/
theorem witness_SwapExchanges :
    ready svc = true ∧ (1#4 : BitVec 4) ≠ 15#4 ∧ (0#4 : BitVec 4) ≠ 15#4 ∧ (1#4 : BitVec 4) ≠ 0#4 ∧
    (2#4 : BitVec 4) ≠ 15#4 ∧ (1#4 : BitVec 4) ≠ 2#4 := by
  decide

/-- User and System mode for the last clause; lists with r0, and with r0 below the base r1. -/
theorem witness_UnpredictableForms :
    svc.passes 14#4 = true ∧ usr.passes 14#4 = true ∧ sys.passes 14#4 = true ∧ usr.mode = modeUsr ∧
    sys.mode = modeSys ∧ (1#4 : BitVec 4) ≠ 0#4 ∧ (1#4 : BitVec 4) ≠ 15#4 ∧ (1#16 : BitVec 16).getLsbD 0 = true ∧
    (1#15 : BitVec 15).getLsbD 0 = true ∧ (1#15 : BitVec 15).getLsbD 1 = false ∧
    offsetReg2 (.imm 0#12) ≠ some 15#4 ∧ (3#16 : BitVec 16).getLsbD (1#4 : BitVec 4).toNat = true ∧
    (0 < (1#4 : BitVec 4).toNat ∧ (3#16 : BitVec 16).getLsbD 0 = true) := by
  decide

/-- Both byte orders. -/
theorem witness_ByteLanesOfBothOrders :
    svc.mem.wf = true ∧ (bigEndian svc).mem.wf = true ∧ wordAddr 0x1004#32 ≠ wordAddr 0x1003#32 := by
  decide

/-- All registers but the base r1 with writeback, and a return to Thumb state. -/
theorem witness_LoadMultiple :
    ready svc = true ∧ (0xFFFD#16 : BitVec 16) ≠ 0#16 ∧ (1#4 : BitVec 4) ≠ 15#4 ∧
    (0xFFFD#16 : BitVec 16).getLsbD (1#4 : BitVec 4).toNat = false ∧ (0x7FFF#15 : BitVec 15) ≠ 0#15 ∧
    svc.mode ≠ modeUsr ∧ svc.mode ≠ modeSys ∧
    (let s := { svc with spsrSvc := 0x30#32 }
     ready s = true ∧ (0x7FFD#15 : BitVec 15).getLsbD (1#4 : BitVec 4).toNat = false ∧ modeHasSpsr s.mode = true ∧
     modeLegal ((s.spsrOf s.mode &&& 0xF00000FF#32).extractLsb' 0 5) = true) := by
  decide

/-- {r0, r1}: with writeback the base r0 is the lowest; without, any base. -/
theorem witness_StoreMultiple :
    ready svc = true ∧ (3#16 : BitVec 16) ≠ 0#16 ∧ (0#4 : BitVec 4) ≠ 15#4 ∧ (1#4 : BitVec 4) ≠ 15#4 ∧
    svc.mode ≠ modeUsr ∧ svc.mode ≠ modeSys ∧ (3#16 : BitVec 16).getLsbD (0#4 : BitVec 4).toNat = true ∧
    (∀ j, j < (0#4 : BitVec 4).toNat → (3#16 : BitVec 16).getLsbD j = false) ∧ (0#1 : BitVec 1) ≠ 1#1 ∧
    wordAddr (slotAddr 0x1000#32 3#16 1) ≠ wordAddr 0x1008#32 := by
  decide

theorem witness_CoprocessorAbsentOrWaiting :
    svc.passes 14#4 = true ∧ svc.undebugged = true ∧ svc.attached.getLsbD (5#4 : BitVec 4).toNat = false ∧
    (∀ a ∈ ([.absent, .wait] : List CpAnswer),
      (withCp5 [a]).passes 14#4 = true ∧ (withCp5 [a]).undebugged = true ∧
      (withCp5 [a]).attached.getLsbD (5#4 : BitVec 4).toNat = true ∧ (withCp5 [a]).cpAnswers = a :: []) := by
  decide

/-- One word and sixteen. -/
theorem witness_CoprocessorTransfers :
    (1#4 : BitVec 4) ≠ 15#4 ∧
    ([1, 16] : List Nat).all (fun n => ready (withCp5 [.accept n]) && decide (1 ≤ n ∧ n ≤ 16) &&
      (withCp5 [.accept n]).attached.getLsbD (5#4 : BitVec 4).toNat &&
      (withCp5 [.accept n]).cpAnswers == [.accept n]) = true := by
  decide

/-- r4 = 4 is refused by the control register and taken by the cachable bits. -/
theorem witness_Cp15RegisterAccesses :
    svc.passes 14#4 = true ∧ svc.mode ≠ modeUsr ∧ svc.room = true ∧
    (.mrcP15c0c0o1 14#4 0#4, .cacheType) ∈ cp15Reads 14#4 0#4 ∧ (.mrcP15c0c0o0 14#4 0#4, .idCode) ∈ cp15Reads 14#4 0#4 ∧
    (.mcrP15c1c0o0 14#4 4#4, .control) ∈ cp15Writes 14#4 4#4 ∧
    SysReg.control.writeRefusal (svc.reg 4#4) = some .cp15ShouldBe ∧
    (.mcrP15c2c0o0 14#4 4#4, .cachable .data) ∈ cp15Writes 14#4 4#4 ∧
    (SysReg.cachable .data).writeRefusal (svc.reg 4#4) = none := by
  decide

/-- Values with their lowest and their highest should-be bit set; a region of 4KB at 4KB, one of 2KB, one off its
alignment, a disabled one, and one with a should-be bit. -/
theorem witness_Cp15WriteReadsBack :
    SysReg.control ≠ .idCode ∧ SysReg.control ≠ .cacheType ∧ SysReg.bufferable ≠ .control ∧
    (∀ p ∈ ([(31, 8), (31, 16), (30, 6)] : List (Nat × Nat)),
      (BitVec.twoPow 32 p.1).getLsbD p.1 = true ∧ (BitVec.twoPow 32 p.2).getLsbD p.2 = true ∧ p.2 ≤ p.1) ∧
    (let size (v : Word) : Nat := 2 ^ ((v.extractLsb' 1 5).toNat + 1)
     let base (v : Word) : Nat := v.toNat / 4096 * 4096
     (0x1017#32 : Word).extractLsb' 6 6 = 0#6 ∧ 4096 ≤ size 0x1017#32 ∧ base 0x1017#32 % size 0x1017#32 = 0 ∧
     (0x1015#32 : Word).extractLsb' 6 6 = 0#6 ∧ (0x1015#32 : Word).getLsbD 0 = true ∧ size 0x1015#32 < 4096 ∧
     (0x1019#32 : Word).extractLsb' 6 6 = 0#6 ∧ (0x1019#32 : Word).getLsbD 0 = true ∧
     base 0x1019#32 % size 0x1019#32 ≠ 0 ∧ (0x14#32 : Word).getLsbD 0 = false ∧
     (0x40#32 : Word).extractLsb' 6 6 ≠ 0#6 ∧ (0x800#32 : Word).extractLsb' 6 6 ≠ 0#6) := by
  decide

theorem witness_Cp15AccessesTurnedAway :
    (encode (decode (.arm 0xEE100F10#32)) = .arm 0xEE100F10#32 ∧ fld 0xEE100F10#32 24 4 = 0b1110#4 ∧
      bitAt 0xEE100F10#32 4 = true ∧ fld 0xEE100F10#32 8 4 = 15#4 ∧ usr.passes (fld 0xEE100F10#32 28 4) = true ∧
      usr.mode = modeUsr ∧ usr.undebugged = true) ∧
    (svc.passes 14#4 = true ∧ svc.mode ≠ modeUsr ∧ svc.room = true ∧
      mcrGeneric 1#3 4#4 15#4 0#3 0#4 = true ∧ mrcGeneric 0#3 4#4 15#4 0#3 0#4 = true ∧
      mrcGeneric 0#3 7#4 15#4 0#3 5#4 = true) := by
  decide

/-- Rd with 0, with segment 1 and index 1, and with 4 (a should-be bit); a line that is valid and dirty, one that is
not; an empty and a full write buffer. -/
theorem witness_CacheFlushesAndCleans :
    let s := cached (start 0x8000 0xD3 [(0, 0), (1, 0x04000010), (4, 4)] [])
    s.passes 14#4 = true ∧ s.mode ≠ modeUsr ∧ s.room = true ∧ s.reg 0#4 = 0#32 ∧
    s.reg 1#4 &&& 0x03FFFFCF#32 = 0#32 ∧ s.reg 4#4 ≠ 0#32 ∧ s.reg 4#4 &&& 0x03FFFFCF#32 ≠ 0#32 ∧
    (s.dcache.line 1 1).valid = true ∧ (s.dcache.line 1 1).dirty = true ∧ (s.dcache.line 0 0).valid = false ∧
    (let t := { s with wbuf := List.replicate 4 { addr := 0#32, lanes := 15#4, data := [1#32, 2#32] } }
     t.passes 14#4 = true ∧ t.room = true ∧ t.reg 1#4 &&& 0x03FFFFCF#32 = 0#32) := by
  decide

/-- A miss, a hit and a double hit in a cachable region, a miss in one that is not, the ICache off, no region, and a
region below 4KB. -/
theorem witness_PrefetchLine :
    (let s := kind true false (open4G (cached (start 0x8000 0xD3 [(0, 0x10010), (1, 0x20)] [])))
     s.passes 14#4 = true ∧ s.mode ≠ modeUsr ∧ s.room = true ∧ (s.reg 1#4).extractLsb' 0 4 = 0#4 ∧
     (svc.reg 4#4).extractLsb' 0 4 ≠ 0#4 ∧
     checkAccess s.cp15 .instr (s.reg 1#4) false true = .pass true false ∧ s.cp15.p = true ∧ s.cp15.i = true ∧
     s.icache.lookup (s.reg 1#4) = .miss ∧
     checkAccess s.cp15 .instr (s.reg 0#4) false true = .pass true false ∧ s.icache.lookup (s.reg 0#4) = .hit 1 ∧
     (s.icache.setLine 1 2 (s.icache.line 1 1)).lookup (s.reg 0#4) = .double) ∧
    (let s := kind false false (open4G (cached (start 0x8000 0xD3 [(1, 0x20)] [])))
     checkAccess s.cp15 .instr (s.reg 1#4) false true = .pass false false ∧ s.icache.lookup (s.reg 1#4) = .miss) ∧
    (checkAccess svc.cp15 .instr 0#32 false true = .pass false false ∧ svc.cp15.i = false) ∧
    (let s := { start 0x8000 0xD3 [(1, 0x20)] [] with cp15 := { Cp15.reset false with p := true } }
     s.passes 14#4 = true ∧ s.mode ≠ modeUsr ∧ s.room = true ∧
     checkAccess s.cp15 .instr (s.reg 1#4) false true = .abort) ∧
    checkAccess { Cp15.reset false with
      p := true, regionsI := (Vector.replicate 8 Region.reset).set 0 ⟨0#20, 10#5, true⟩ } .instr 0#32 false true =
      .fault .regionMalformed := by
  decide

/-- Nothing that wakes the machine, a LOW pin, a debug request; zero and a should-be bit in Rd; a buffered word. -/
theorem witness_WaitAndDrain :
    svc.passes 14#4 = true ∧ svc.mode ≠ modeUsr ∧ svc.room = true ∧ svc.mem.wf = true ∧ svc.reg 5#4 = 0#32 ∧
    svc.reg 4#4 ≠ 0#32 ∧ svc.wbFifo = true ∧ svc.pins.nFIQ = true ∧ svc.pins.nIRQ = true ∧ svc.pins.dbgen = false ∧
    ({ Pins.idle with nIRQ := false }).nIRQ = false ∧
    (let p := { Pins.idle with dbgen := true, edbgrq := true }; p.dbgen = true ∧ p.edbgrq = true) ∧
    (let e : WbEntry := { addr := 0x1000#32, lanes := 15#4, data := [7#32] }
     0 < e.data.length ∧ wordAddr e.addr + BitVec.ofNat 32 (4 * 0) = wordAddr 0x1003#32 ∧
     wordAddr e.addr + BitVec.ofNat 32 (4 * 0) ≠ wordAddr 0x1004#32) := by
  decide

theorem witness_DebugCommsFromTheProcessor :
    usr.passes 14#4 = true ∧ usr.room = true ∧ (14#4 : BitVec 4) ≠ 15#4 ∧ mcrGeneric 0#3 0#4 14#4 0#3 0#4 = true ∧
    mrcGeneric 0#3 2#4 14#4 0#3 0#4 = true := by
  decide

theorem witness_ThumbShiftsLogicAndCompares :
    svcThumb.room = true ∧ (0#3 : BitVec 3) ≠ 7#3 ∧ (6#3 : BitVec 3) ≠ 7#3 := by
  decide

theorem witness_ThumbArithmetic : svcThumb.room = true := by
  decide

/-- High registers 8 and 15; BX to r2 and to r0. -/
theorem witness_ThumbHighRegisters :
    svcThumb.room = true ∧ highReg 1#1 0#3 ≠ 15#4 ∧ highReg 1#1 7#3 = 15#4 ∧ highReg 0#1 7#3 ≠ 15#4 ∧
    (svcThumb.reg (highReg 0#1 2#3)).toNat % 4 ≠ 2 ∧ (svcThumb.reg (highReg 0#1 0#3)).toNat % 4 = 2 := by
  decide

/-- Sums r1 + r0, even, and r2 + r0, odd. -/
theorem witness_ThumbTransfers :
    svcThumb.direct = true ∧ svcThumb.room = true ∧
    (svcThumb.reg (lowReg 1#3) + svcThumb.reg (lowReg 0#3)).toNat % 2 = 0 ∧
    (svcThumb.reg (lowReg 2#3) + svcThumb.reg (lowReg 0#3)).toNat % 2 = 1 := by
  decide

/-- The pc alone, LR alone, all eight registers; the base listed, the lowest or not, and not listed. -/
theorem witness_ThumbBlockTransfers :
    svcThumb.direct = true ∧ svcThumb.room = true ∧ svcThumb.mem.wf = true ∧
    (1#1 ++ 0#7 ++ 0#8 : BitVec 16) ≠ 0#16 ∧ (0#1 ++ 0#7 ++ 0xFF#8 : BitVec 16) ≠ 0#16 ∧
    (0xFD#8 : BitVec 8).getLsbD (1#3 : BitVec 3).toNat = false ∧ (0#1 ++ 1#1 ++ 0#6 ++ 0#8 : BitVec 16) ≠ 0#16 ∧
    (0xFF#8 : BitVec 8) ≠ 0#8 ∧ (0xFF#8 : BitVec 8).getLsbD (1#3 : BitVec 3).toNat = true ∧
    (0 < (1#3 : BitVec 3).toNat ∧ (0xFF#8 : BitVec 8).getLsbD 0 = true) ∧
    (∀ j, j < (0#3 : BitVec 3).toNat → (0xFF#8 : BitVec 8).getLsbD j = false) := by
  decide

/-- Targets at 0, below it, at the last halfword and past it; a condition that holds and one that fails. -/
theorem witness_ThumbBranches :
    let bottom := start 0 0xF3 [] []
    let last := start 0xFFFFFFFA 0xF3 [] []
    bottom.room = true ∧ last.room = true ∧
    ((bottom.pc.toNat : Int) + 4 + 2 * (0xFE#8 : BitVec 8).toInt = 0) ∧
    ((bottom.pc.toNat : Int) + 4 + 2 * (0xFD#8 : BitVec 8).toInt < 0) ∧
    ((last.pc.toNat : Int) + 4 + 2 * (0#8 : BitVec 8).toInt = 2 ^ 32 - 2) ∧
    (2 ^ 32 ≤ (last.pc.toNat : Int) + 4 + 2 * (1#8 : BitVec 8).toInt) ∧
    ((bottom.pc.toNat : Int) + 4 + 2 * (0x7FE#11 : BitVec 11).toInt = 0) ∧
    ((bottom.pc.toNat : Int) + 4 + 2 * (0x7FD#11 : BitVec 11).toInt < 0) ∧
    (2 ^ 32 ≤ (last.pc.toNat : Int) + 4 + 2 * (1#11 : BitVec 11).toInt) ∧ bottom.flagZ = false ∧
    (!bottom.flagZ) = true := by
  decide

theorem witness_RegisterBanks :
    modeLegal modeFiq = true ∧ modeLegal modeUsr = true ∧ (8#4 : BitVec 4) ≠ 15#4 ∧ (12#4 : BitVec 4).toNat < 13 ∧
    modeSvc ≠ modeFiq ∧ (7#4 : BitVec 4).toNat < 8 := by
  decide

theorem witness_MemoryIsCanonical :
    State.reset.mem.wf = true ∧ svc.mem.wf = true ∧ 0xFFFFFFFF < 2 ^ 32 ∧ 0xFFFFFFFF ≠ 0 := by
  decide

theorem witness_ExceptionEntry :
    svc.dbg.active = false ∧ svc.pins.dbgen = false ∧
    (let s := { svc with pins := { svc.pins with dbgen := true }, ice := { svc.ice with vectorCatch := 0xDE#8 } }
     s.dbg.active = false ∧ s.pins.dbgen = true ∧ s.dbg.watch = .idle ∧
     ([1, 2, 3, 4, 6, 7] : List Nat).all (fun n => s.ice.vectorCatch.getLsbD n) = true) ∧
    (let s := { svc with pins := { svc.pins with dbgen := true } }
     s.dbg.active = false ∧ s.dbg.watch = .idle ∧ s.ice.vectorCatch.getLsbD 1 = false) := by
  decide

theorem witness_InterruptsBetweenInstructions :
    let s (n : Nat) (fiq irq waiting : Bool) : State :=
      { start 0x8000 n [] [] with pins := { Pins.idle with nFIQ := fiq, nIRQ := irq }, waiting := waiting }
    let fine (s : State) : Bool := decide (s.inputs = []) && s.pins.bnRES && !s.resetHeld && s.undebugged
    fine (s 0x13 false false true) = true ∧ (s 0x13 false false true).pins.nFIQ = false ∧
    (s 0x13 false false true).flagF = false ∧ fine (s 0x53 false false true) = true ∧
    (s 0x53 false false true).flagF = true ∧ (s 0x53 false false true).flagI = false ∧
    fine (s 0xD3 true true true) = true ∧ (s 0xD3 true true true).waiting = true ∧
    fine (s 0xD3 false true true) = true := by
  decide

theorem witness_ResetFromThePins :
    svc.inputs = [] ∧
    (let s := { svc with pins := { svc.pins with bnRES := false } }; s.inputs = [] ∧ s.pins.bnRES = false) ∧
    (let s := { svc with resetHeld := true }
     s.inputs = [] ∧ s.pins.bnRES = true ∧ s.resetHeld = true ∧ s.pins.dbgen = false) := by
  decide

/-- What a fetch answers: 0 a word, 1 an abort, 2 a fault. -/
def fetched (s : State) : Nat :=
  match fetch s.beforeFetch with
  | .done _ _ => 0
  | .abort _ => 1
  | .fault _ => 2

/-- A fetch that is done, one with no region, one from a region below 4KB; an instruction that answers a next
state and one that is refused. -/
theorem witness_StepRunsTheDecodedInstruction :
    svc.quiet = true ∧ svc.direct = true ∧ svc.wbuf = [] ∧ fetched svc = 0 ∧ svc.busy = none ∧
    (let s := { svc with busy := some 0xEE000500#32 }; s.quiet = true ∧ s.busy = some 0xEE000500#32) ∧
    (let s := { svc with cp15 := { svc.cp15 with p := true } }; s.quiet = true ∧ fetched s = 1) ∧
    (let s := { svc with cp15 := { svc.cp15 with
        p := true, regionsI := (Vector.replicate 8 Region.reset).set 0 ⟨0#20, 10#5, true⟩ } }
     s.quiet = true ∧ fetched s = 2) ∧
    runs (.arm 0#32) svc (fun _ => true) = true ∧ refuses (.arm 0xF0000000#32) svc = true ∧
    svc.pins.dbgen = false := by
  decide

theorem witness_StoredInstructionRuns :
    (Instr.mov 14#4 0#1 0#4 0#4 (.imm 0#4 0x2A#8)).wellFormed = true ∧
    (Instr.tMovImm 0#3 0x2A#8).wellFormed = true ∧
    svc.quiet = true ∧ svc.direct = true ∧ svc.mem.wf = true ∧ svc.pc.toNat % (32 / 8) = 0 ∧
    (start 0x8002 0xD3 [] []).pc.toNat % (16 / 8) = 0 ∧ (start 0x8002 0xD3 [] []).quiet = true := by
  decide

theorem witness_DecodeUndoesEncode :
    (Instr.mov 14#4 0#1 0#4 0#4 (.imm 0#4 0x2A#8)).wellFormed = true ∧
    (Instr.tMovImm 7#3 0xFF#8).wellFormed = true := by
  decide

theorem witness_StepKeepsTheInvariant :
    svc.inv = true ∧ steps svc (fun _ => true) = true ∧ svcThumb.inv = true ∧ steps svcThumb (fun _ => true) = true := by
  decide

/-- An addition, SWI and an undefined word in User mode. -/
theorem witness_UserModeIsConfined :
    usr.mode = modeUsr ∧ usr.undebugged = true ∧
    ([0xE0821003, 0xEF000000, 0xE7F000F0] : List Nat).all
      (fun w => runs (.arm (BitVec.ofNat 32 w)) usr fun _ => true) = true := by
  decide

theorem witness_InstructionsKeepTheOutside :
    svc.undebugged = true ∧ runs (.arm 0xE0821003#32) svc (fun _ => true) = true := by
  decide

/-- Setup A on the data side: addresses at both ends of regions 1 and 2 and past them, and both modes; the
unit off; a region below 4KB and one off its alignment. -/
theorem witness_RegionsDecideAccesses :
    (let c := (setupA 0x10 0).cp15
     let size (n : Fin 8) : Nat := 2 ^ ((c.regions .data)[n].size.toNat + 1)
     let base (n : Fin 8) : Nat := 4096 * (c.regions .data)[n].base.toNat
     let holds (n : Fin 8) (a : Nat) : Bool :=
       (c.regions .data)[n].enable && decide (base n ≤ a) && decide (a < base n + size n)
     c.p = true ∧
     (∀ n : Fin 8, (c.regions .data)[n].enable = true → 4096 ≤ size n ∧ base n % size n = 0) ∧
     holds 1 0 = true ∧ holds 2 0x2FFF = false ∧ holds 1 0x2FFF = true ∧ holds 2 0x3000 = true ∧
     holds 1 0x3000 = true ∧ holds 2 0x3FFF = true ∧ (∀ n : Fin 8, holds n 0x4000 = false) ∧
     (c.ap .data).extractLsb' 2 2 = 1#2 ∧ (c.ap .data).extractLsb' 4 2 = 2#2) ∧
    (Cp15.reset false).p = false ∧ 2 ^ ((10#5 : BitVec 5).toNat + 1) < 4096 ∧
    4096 * (1#20 : BitVec 20).toNat % 2 ^ ((12#5 : BitVec 5).toNat + 1) ≠ 0 := by
  decide

/-- Refused by the protection unit (User mode at `0x1000`), and answered with an error. -/
theorem witness_RefusedDataAccessesAbort :
    (let s := setupA 0x10 0x1000
     s.passes 14#4 = true ∧ s.undebugged = true ∧ checkAccess s.cp15 .data (s.reg 1#4) false s.privileged = .abort ∧
     checkAccess s.cp15 .data (s.reg 1#4) true s.privileged = .abort ∧ (s.reg 1#4).toNat % 2 = 0) ∧
    (let s := { svc with busErrors := [⟨0#32, 0xFFFFFFFF#32, .read⟩, ⟨0#32, 0xFFFFFFFF#32, .write⟩] }
     s.passes 14#4 = true ∧ s.undebugged = true ∧ s.cp15.p = false ∧ s.cp15.c = false ∧ s.wbuf = [] ∧
     extAbort s.busErrors .read (s.reg 1#4) = true ∧ extAbort s.busErrors .write (s.reg 1#4) = true) ∧
    (let s := { svc with busErrors := [⟨0#32, 0xFFFFFFFF#32, .write⟩] }
     s.cp15.p = false ∧ s.cp15.c = false ∧ s.wbuf = [] ∧ extAbort s.busErrors .read (s.reg 1#4) = false ∧
     extAbort s.busErrors .write (s.reg 1#4) = true) ∧
    checkAccess (setupA 0x10 0x3010).cp15 .data 0x3010#32 true false = .abort ∧
    offsetReg2 (.imm 0#12) ≠ some 15#4 ∧ offsetReg2 (.imm 0#12) ≠ some 1#4 ∧ (4#16 : BitVec 16) ≠ 0#16 ∧
    (4#16 : BitVec 16).getLsbD (1#4 : BitVec 4).toNat = false ∧ (0#4 : BitVec 4) ≠ 1#4 ∧ (2#4 : BitVec 4) ≠ 1#4 := by
  decide

/-- An error at `0x1004`: the second word of {r2, r3} from r1 = `0x1000`, of a push from r13 = `0x1008` and of two
coprocessor words; and the second word refused by its check (setup A). -/
theorem witness_BlockTransferAborts :
    (let s := { svc with busErrors := [⟨0x1004#32, 0x1007#32, .read⟩, ⟨0x1004#32, 0x1007#32, .write⟩] }
     (s.passes 14#4 = true ∧ s.undebugged = true ∧ s.cp15.c = false ∧ s.wbuf = [] ∧ s.mem.wf = true ∧
       s.mode ≠ modeUsr ∧ s.mode ≠ modeSys ∧ modeHasSpsr s.mode = true ∧
       wordAddr (slotAddr (blockFirst 0#1 1#1 (s.reg 1#4) 0xC#16) 0xC#16 2) = 0x1000#32 ∧
       wordAddr (slotAddr (blockFirst 0#1 1#1 (s.reg 1#4) 0xC#16) 0xC#16 3) = 0x1004#32 ∧
       (0xC#16 : BitVec 16).getLsbD 3 = true ∧ (0xC#16 : BitVec 16).getLsbD 1 = false) ∧
     ∀ write : Bool, s.letsOut 0x1000#32 write ∧ s.turnsAway 0x1004#32 write) ∧
    (let s := { withCp5 [.accept 2] with busErrors := [⟨0x1004#32, 0x1007#32, .read⟩] }
     s.attached.getLsbD (5#4 : BitVec 4).toNat = true ∧ s.cpAnswers = .accept 2 :: [] ∧
     wordAddr (s.reg 1#4) + BitVec.ofNat 32 (4 * 1) = 0x1004#32 ∧ s.wbuf = [] ∧ s.cp15.c = false ∧
     s.undebugged = true) ∧
    (let s := setupA 0x10 0x3FFC
     (s.undebugged = true ∧ s.cp15.c = false ∧ s.wbuf = [] ∧
       wordAddr (slotAddr (blockFirst 0#1 1#1 (s.reg 1#4) 0xC#16) 0xC#16 3) = 0x4000#32) ∧
     s.letsOut 0x3FFC#32 false ∧ s.turnsAway 0x4000#32 false) :=
  ⟨⟨by decide, fun write => by cases write <;> exact ⟨⟨false, by decide⟩, .inr ⟨false, by decide⟩⟩⟩, by decide, by decide,
    ⟨false, by decide⟩, .inl (by decide)⟩

/-- A hit at `0x10010`, a double hit there and a miss at `0x20`, in regions of all four kinds, with the DCache on and off;
read and write errors; a buffered word. -/
theorem witness_DataCachePaths :
    (∀ cd bd : Bool,
      let s := kind cd bd (open4G (cached svc))
      s.undebugged = true ∧ s.cp15.p = true ∧ s.cp15.c = true ∧ s.mem.wf = true ∧
      checkAccess s.cp15 .data 0x10010#32 false true = .pass cd bd ∧
      checkAccess s.cp15 .data 0x10010#32 true true = .pass cd bd ∧ s.dcache.lookup 0x10010#32 = .hit 1 ∧
      (s.dcache.setLine 1 2 (s.dcache.line 1 1)).lookup 0x10010#32 = .double ∧
      checkAccess s.cp15 .data 0x20#32 false true = .pass cd bd ∧
      checkAccess s.cp15 .data 0x20#32 true true = .pass cd bd ∧ s.dcache.lookup 0x20#32 = .miss ∧
      checkAccess { s.cp15 with c := false } .data 0x20#32 true true = .pass cd bd) ∧
    extAbort svc.busErrors .read 0x20#32 = false ∧ extAbort [⟨0#32, 0xFF#32, .read⟩] .read 0x20#32 = true ∧
    extAbort [⟨0#32, 0xFF#32, .write⟩] .write 0x20#32 = true := by
  decide

/-- An entry of one word and of eight; a buffer with a free data slot and one without; the addresses next to the last
word within 16 bytes and past them. -/
theorem witness_WriteBufferEntries :
    let e : WbEntry := { addr := 0x100#32, lanes := 15#4, data := [1#32, 2#32, 3#32] }
    let f : WbEntry := { addr := 0x200#32, lanes := 15#4, data := [4#32, 5#32, 6#32, 7#32, 8#32] }
    e.data.length ≤ 8 ∧ (List.replicate 8 0#32).length ≤ 8 ∧ svc.mem.wf = true ∧
    (let s := { svc with wbuf := [e] }
     s.wbuf = [] ++ [e] ∧ wbSlots s.wbuf < 8 ∧ e.addr + BitVec.ofNat 32 (4 * e.data.length) = 0x10C#32) ∧
    (let s := { svc with wbuf := [{ e with addr := 0x104#32 }] }
     wbSlots s.wbuf < 8 ∧ (0x104#32 : Word) + BitVec.ofNat 32 (4 * e.data.length) = 0x110#32) ∧
    (0x10C#32 : Word).extractLsb' 0 4 ≠ 0#4 ∧ (0x110#32 : Word).extractLsb' 0 4 = 0#4 ∧
    (let s := { svc with wbuf := [f, e] }
     s.wbuf = f :: [] ++ [e] ∧ wbSlots s.wbuf = 8 ∧ f.data ≠ [] ∧ s.wbFifo = true) ∧
    wordAddr 0x10C#32 ≠ wordAddr 0x108#32 := by
  decide

/-- A hit, a double hit and a miss in a cachable and in a noncachable region; a refused read, and a refused write; an
aborted write after a read that is not. -/
theorem witness_SwapPaths :
    (∀ cd : Bool,
      let s := kind cd false (open4G (cached svc))
      s.undebugged = true ∧ s.cp15.p = true ∧ s.cp15.c = true ∧
      checkAccess s.cp15 .data 0x10010#32 false s.privileged = .pass cd false ∧
      checkAccess s.cp15 .data 0x10010#32 true s.privileged = .pass cd false ∧ s.dcache.lookup 0x10010#32 = .hit 1 ∧
      (s.dcache.setLine 1 2 (s.dcache.line 1 1)).lookup 0x10010#32 = .double ∧ s.dcache.lookup 0x20#32 = .miss ∧
      checkAccess s.cp15 .data 0x20#32 true s.privileged = .pass cd false) ∧
    (let s := kind true false (open4G (cached svc))
     (match load 0x10010#32 .word true s with
      | .done _ t =>
        match store 0x10010#32 .word 0#32 true false t with
        | .done _ _ => true
        | _ => false
      | _ => false) = true ∧
     (match load 0x10010#32 .word true { s with dcache := s.dcache.setLine 1 2 (s.dcache.line 1 1) } with
      | .fault _ => true
      | _ => false) = true) ∧
    (let s := setupA 0x10 0x3010
     s.undebugged = true ∧ checkAccess s.cp15 .data 0x4000#32 false s.privileged = .abort ∧
     checkAccess s.cp15 .data 0x3010#32 false s.privileged = .pass false false ∧
     checkAccess s.cp15 .data 0x3010#32 true s.privileged = .abort) ∧
    (extAbort svc.busErrors .write 0x10010#32 = false ∧ extAbort [⟨0x10010#32, 0x10010#32, .write⟩] .write 0x10010#32 = true ∧
     extAbort [⟨0x10010#32, 0x10010#32, .write⟩] .read 0x10010#32 = false) := by
  decide

/-- A hit, a double hit and a miss in a cachable and in a noncachable region, the ICache off, no region. -/
theorem witness_InstructionFetchPaths :
    (∀ c : Bool,
      let s := kind c false (open4G (cached (start 0x10010 0xD3 [] [])))
      s.cp15.i = true ∧ s.cp15.p = true ∧ checkAccess s.cp15 .instr s.pc false s.privileged = .pass c false ∧
      s.icache.lookup s.pc = .hit 1 ∧ (s.icache.setLine 1 2 (s.icache.line 1 1)).lookup s.pc = .double ∧
      checkAccess s.cp15 .instr 0x20#32 false s.privileged = .pass c false ∧ s.icache.lookup 0x20#32 = .miss) ∧
    (svc.cp15.i = false ∧ checkAccess svc.cp15 .instr svc.pc false svc.privileged = .pass false false ∧
      extAbort [⟨0#32, 0xFFFF#32, .fetch⟩] .fetch svc.pc = true) ∧
    checkAccess { svc.cp15 with p := true } .instr svc.pc false svc.privileged = .abort ∧
    (match store 0x1000#32 .word 0#32 true false svc with
     | .done _ _ => true
     | _ => false) = true := by
  decide

theorem witness_DebugStateEntry :
    let fine (s : State) : Bool := decide (s.inputs = []) && s.pins.bnRES && !s.resetHeld
    (let s := { svc with dbg := { svc.dbg with active := true } }; fine s = true ∧ s.dbg.active = true ∧ s.wbuf = []) ∧
    (let s := { svc with pins := { svc.pins with dbgen := true, edbgrq := true } }
     fine s = true ∧ s.dbg.active = false ∧ s.pins.dbgen = true ∧ s.pins.edbgrq = true ∧ s.dbg.watch ≠ .armed) ∧
    (let s := { svc with pins := { svc.pins with dbgen := true, iebkpt := true } }
     fine s = true ∧ s.dbg.active = false ∧ s.debugRequest = false ∧ s.waiting = false ∧ s.busy = none ∧ s.pins.nFIQ = true ∧
     s.pins.nIRQ = true ∧ s.watching = true ∧
     (match fetch s.beforeFetch with
      | .done w t => breakpointed w t
      | _ => false) = true) := by
  decide

/-- One instruction at `0x8000`, LDR r0, [r1], runs with debug enabled: a watchpoint armed before it, hit by it
(`DEWPT`), or none, with single step or without; a debug request beside the armed one.  The access alone, with and
without a match; an exception after a hit and after an armed watchpoint. -/
theorem witness_WatchpointsAndSingleStep :
    (let s (watch : WatchPhase) (ctrl : BitVec 4) (dewpt edbgrq : Bool) : State :=
      { start 0x8000 0xD3 [(1, 0x1000)] [(0x8000, 0xE5910000)] with
        pins := { Pins.idle with dbgen := true, dewpt := dewpt, edbgrq := edbgrq }
        ice := { Ice.reset with ctrl := ctrl }
        dbg := { DebugCore.idle with watch := watch } }
     let fine (s : State) (watch : WatchPhase) : Bool :=
       decide (s.inputs = []) && s.pins.bnRES && !s.resetHeld && !s.dbg.active && s.pins.dbgen && !s.waiting && s.busy == none &&
         s.pins.nFIQ && s.pins.nIRQ && (!s.debugRequest || s.dbg.watch == .armed) &&
         (match fetch s.beforeFetch with
          | .done w t =>
            !breakpointed w t &&
              (match exec (decodeFetched t.thumb w) ((watchFetch w t).showExec w) with
               | .next u => u.busy == none && u.watching && u.dbg.watch == watch
               | _ => false)
          | _ => false)
     fine (s .armed 0#4 false false) .armed = true ∧ fine (s .armed 0#4 false true) .armed = true ∧
     fine (s .idle 0#4 true false) .hit = true ∧ fine (s .idle 8#4 true false) .hit = true ∧
     fine (s .idle 8#4 false false) .idle = true ∧ fine (s .idle 0#4 false false) .idle = true) ∧
    (∀ dewpt : Bool,
      let s := { svc with pins := { Pins.idle with dbgen := true, dewpt := dewpt } }
      s.watching = true ∧ s.cp15.p = false ∧ s.cp15.c = false ∧ s.wbuf = [] ∧ s.busErrors = [] ∧ s.dbg.watch = .idle ∧
      (s.pins.dewpt = dewpt ∧ iceMatch s .data 0x1000#32 0#32 (dataCtrl .word false true) = false)) ∧
    (∀ w ∈ ([.hit, .armed] : List WatchPhase),
      let s := { svc with pins := { Pins.idle with dbgen := true }, dbg := { DebugCore.idle with watch := w } }
      s.watching = true ∧ s.dbg.watch ≠ .idle) := by
  decide

/-- A unit that matches every data access, and none of the instruction side. -/
theorem witness_ComparatorsMatch :
    let w : Watchpoint :=
      { Watchpoint.reset with addrMask := 0xFFFFFFFF#32, dataMask := 0xFFFFFFFF#32, ctrlValue := 8#9, ctrlMask := 0xF7#8 }
    (w.ctrlValue.getLsbD 3 = true ↔ Side.data = Side.data) ∧ ¬ (w.ctrlValue.getLsbD 3 = true ↔ Side.instr = Side.data) ∧
    (∀ i, i < 32 → w.addrMask.getLsbD i = true ∧ w.dataMask.getLsbD i = true) ∧
    (∀ i, i < 8 → i ≠ 3 → w.ctrlMask.getLsbD i = true) ∧ svc.pins.nTRST = true ∧
    ({ Pins.idle with nTRST := false }).nTRST = false := by
  decide

theorem witness_DebuggerThroughTheTap :
    (let s := tapAt 0b1100#4 2#5 svc; s.pins.nTRST = true ∧ s.tap.ir = 0b1100#4 ∧ s.tap.chain = 2#5) ∧
    (let s := tapAt 0b1110#4 3#5 svc; s.pins.nTRST = true ∧ s.tap.ir = 0b1110#4) ∧
    (let s := tapAt 0b0010#4 3#5 svc; s.pins.nTRST = true ∧ s.tap.ir = 0b0010#4) ∧
    (∀ a ∈ ([0b00011#5, 0b00110#5, 0b01110#5, 0b10110#5, 0b11111#5] : List (BitVec 5)), iceReg a = none) ∧
    ({ Pins.idle with nTRST := false }).nTRST = false := by
  decide

/-- Every chain that a clause names, and values that the control register and the cachable bits take and refuse. -/
theorem witness_ScanChains :
    (∀ n ∈ ([1#5, 2#5, 3#5, 4#5, 5#5, 15#5, 16#5, 31#5] : List (BitVec 5)),
      let s := tapAt 0b1100#4 n svc
      s.pins.nTRST = true ∧ s.tap.ir = 0b1100#4 ∧ s.tap.chain = n) ∧
    (∀ b ∈ ([2, 5, 6, 21, 28] : List Nat),
      let v : BitVec 67 := BitVec.twoPow 67 b
      v.getLsbD 28 = true ∨ v.extractLsb' 6 16 ≠ 0#16 ∨ v.extractLsb' 2 4 ≠ 0#4) ∧
    SysReg.control.writeRefusal 0x78#32 = none ∧ SysReg.control.writeRefusal 0#32 = some .cp15ShouldBe ∧
    (SysReg.cachable .data).writeRefusal 0xFF#32 = none ∧ 16 ≤ (16#5 : BitVec 5).toNat := by
  decide

/-- A core in debug state, with INTEST and scan chain 1, whose pending instruction is an addition, a load, a store, a
branch or a barred one: what each wants and does.  The other clauses ask one field for a value: SYSSPEED, a word to
export, the flush, RESTART armed, the reset pin. -/
theorem witness_InstructionsInDebugState :
    let s (ir : BitVec 4) (d : DebugCore) : State :=
      { svc with
        pins := { Pins.idle with dbgen := true }
        tap := { Tap.reset with ir := ir, chain := 1#5, instr := 0xE1A00000#32 }
        dbg := { d with active := true } }
    let d (w : Word) : DebugCore := { DebugCore.idle with pending := some w }
    let wanted (w : Word) : Nat := wordsWanted (decode (.arm w)) (s 12#4 (d w))
    let runsTo (w : Word) (f : State → Bool) : Bool :=
      runs (.arm w) { s 12#4 (d w) with dbg := { (s 12#4 (d w)).dbg with dataIn := [0x1234#32] } } f
    let add : Word := 0xE0821003#32
    let ldr : Word := 0xE5910000#32
    let str : Word := 0xE5810000#32
    let b : Word := 0xEA000010#32
    let swi : Word := 0xEF000000#32
    ((s 12#4 (d add)).dbg.active = true ∧ (s 12#4 (d add)).dbg.system = false ∧
      (s 12#4 (d add)).pins.nTRST = true ∧ (s 12#4 (d add)).wbuf = [] ∧ (s 12#4 (d add)).pins.bnRES = true ∧
      (s 12#4 (d add)).resetHeld = false ∧ (s 12#4 (d add)).tap.sysSpeed = false) ∧
    decodeFetched false add = decode (.arm add) ∧ svc.thumb = false ∧ svcThumb.thumb = true ∧
    debugClass (decode (.arm add)) = .compute ∧ debugClass (decode (.arm ldr)) = .memory ∧
    debugClass (decode (.arm str)) = .memory ∧ debugClass (decode (.arm b)) = .compute ∧
    debugClass (decode (.arm swi)) = .barred ∧
    wanted add = 0 ∧ wanted ldr = 1 ∧ wanted 0xE891000C#32 = 2 ∧
    runsTo add (fun t => t.pc == 0x8004#32) = true ∧ runsTo b (fun t => t.pc != 0x8004#32) = true ∧
    runsTo str (fun t => t.dbg.dataOut == [2#32]) = true ∧ runsTo ldr (fun t => t.reg 0#4 == 0x1234#32) = true := by
  decide
end Sys2Proof.Tests
end

section
/-!
PROOFS. `AddWithCarry` (R18): its value, carry and overflow on the exact integers, and the subtraction it makes
from `a`, `~~~b` and a carry in.
-/

namespace Sys2Proof.Machine

/-- The zero-extended carry in is a summand of 0 or 1. -/
theorem toNat_zeroExtend_ofBool (c : Bool) : (BitVec.zeroExtend 32 (BitVec.ofBool c)).toNat = c.toNat := by
  cases c <;> rfl

theorem addWithCarry_value_toNat (a b : Word) (cin : Bool) :
    (addWithCarry a b cin).value.toNat = (a.toNat + b.toNat + cin.toNat) % 2 ^ 32 := by
  simp only [addWithCarry, BitVec.toNat_add, toNat_zeroExtend_ofBool, Nat.mod_add_mod]

theorem addWithCarry_c_iff (a b : Word) (cin : Bool) :
    (addWithCarry a b cin).c = true ↔ 2 ^ 32 ≤ a.toNat + b.toNat + cin.toNat :=
  decide_eq_true_iff

theorem addWithCarry_v_eq_false_iff (a b : Word) (cin : Bool) :
    (addWithCarry a b cin).v = false ↔ (addWithCarry a b cin).value.toInt = a.toInt + b.toInt + cin.toNat :=
  decide_eq_false_iff_not.trans Decidable.not_not

/-- `a - b` is `AddWithCarry(a, NOT b, 1)`: the complement plus one is the two's complement negation. -/
@[simp] theorem addWithCarry_not_true_value (a b : Word) : (addWithCarry a (~~~b) true).value = a - b :=
  calc a + ~~~b + 1#32
    _ = a + (~~~b + 1#32) := BitVec.add_assoc ..
    _ = a + -b := by rw [BitVec.neg_eq_not_add]
    _ = a - b := (BitVec.sub_eq_add_neg ..).symm

/-- A subtraction carries exactly when it does not borrow. -/
theorem addWithCarry_not_true_c_iff (a b : Word) :
    (addWithCarry a (~~~b) true).c = true ↔ b.toNat ≤ a.toNat := by
  have complement : (~~~b).toNat = 2 ^ 32 - 1 - b.toNat := BitVec.toNat_not
  have bound : b.toNat < 2 ^ 32 := b.isLt
  rw [addWithCarry_c_iff, complement, Bool.toNat_true]
  omega

/-- Settles O1, by the rules of `addWithCarry` above. -/
theorem addWithCarryIsExact : Obligations.AddWithCarryIsExact := fun a b cin =>
  ⟨addWithCarry_value_toNat a b cin, addWithCarry_c_iff a b cin, addWithCarry_v_eq_false_iff a b cin,
    addWithCarry_not_true_value a b, addWithCarry_not_true_c_iff a b⟩

end Sys2Proof.Machine
end

section
/-!
PROOFS. The invariant of the machine in parts: clean status words, an aligned pc, one of the seven modes; and what
each update of the state does to them.
-/

namespace Sys2Proof.Machine

/-! Clean status words (R34). -/

/-- A bit of the mask that clears the reserved bits. -/
theorem statusMask_bit : ∀ i < 32, (0xF00000FF#32).getLsbD i = !decide (8 ≤ i ∧ i < 28) := by decide

/-- A status word is clean when its bits 27:8 are zero. -/
theorem statusClean_eq_iff (w : Word) : statusClean w = w ↔ ∀ i, 8 ≤ i → i < 28 → w.getLsbD i = false := by
  constructor
  · intro h i hl hh
    rw [← h, statusClean, BitVec.getLsbD_and, statusMask_bit i (by omega)]
    simp [hl, hh]
  · intro h
    apply BitVec.eq_of_getLsbD_eq
    intro i hi
    rw [statusClean, BitVec.getLsbD_and, statusMask_bit i hi]
    by_cases hr : 8 ≤ i ∧ i < 28
    · simp [h i hr.1 hr.2]
    · simp [hr]

@[simp] theorem statusClean_idem (w : Word) : statusClean (statusClean w) = statusClean w := by
  unfold statusClean
  rw [BitVec.and_assoc, BitVec.and_self]

@[simp] theorem statusClean_statusMerge (old v bytes : Word) :
    statusClean (statusMerge old v bytes) = statusMerge old v bytes := statusClean_idem _

/-- Replacing the flags keeps a status word clean. -/
theorem statusClean_setFlags {s : State} (n z c v : Bool) (h : statusClean s.cpsr = s.cpsr) :
    statusClean (s.setFlags n z c v).cpsr = (s.setFlags n z c v).cpsr := by
  rw [statusClean_eq_iff] at h ⊢
  intro i hl hh
  rw [State.setFlags, flags_low _ _ _ _ _ i hh, BitVec.getLsbD_extractLsb', Nat.zero_add, h i hl hh, Bool.and_false]

/-- Replacing the T bit keeps a status word clean. -/
theorem statusClean_setThumb {s : State} (t : Bool) (h : statusClean s.cpsr = s.cpsr) :
    statusClean (s.setThumb t).cpsr = (s.setThumb t).cpsr := by
  rw [statusClean_eq_iff] at h ⊢
  intro i hl hh
  rw [State.setThumb, BitVec.getLsbD_append, if_neg (by omega), BitVec.getLsbD_append, if_neg (by omega),
    BitVec.getLsbD_extractLsb', show 6 + (i - 5 - 1) = i by omega, h i hl hh, Bool.and_false]

/-- The CPSR after the entry of an exception is clean if the old one was. -/
theorem statusClean_entryStatus {w : Word} (e : Exc) (h : statusClean w = w) :
    statusClean (entryStatus w e) = entryStatus w e := by
  rw [statusClean_eq_iff] at h ⊢
  intro i hl hh
  rw [entryStatus, BitVec.getLsbD_append, if_neg (by omega), BitVec.getLsbD_append, if_neg (by omega),
    BitVec.getLsbD_append, if_neg (by omega), BitVec.getLsbD_append, if_neg (by omega), BitVec.getLsbD_extractLsb',
    show 8 + (i - 5 - 1 - 1 - 1) = i by omega, h i hl hh, Bool.and_false]

/-- Replacing the T bit keeps the mode. -/
@[simp] theorem State.setThumb_mode (s : State) (t : Bool) : (s.setThumb t).mode = s.mode := by
  unfold State.mode State.setThumb
  exact BitVec.extractLsb'_append_eq_right

/-- The CPSR and every SPSR are clean (R34; D29). -/
structure CleanStatus (s : State) : Prop where
  cpsr : statusClean s.cpsr = s.cpsr
  spsrFiq : statusClean s.spsrFiq = s.spsrFiq
  spsrIrq : statusClean s.spsrIrq = s.spsrIrq
  spsrSvc : statusClean s.spsrSvc = s.spsrSvc
  spsrAbt : statusClean s.spsrAbt = s.spsrAbt
  spsrUnd : statusClean s.spsrUnd = s.spsrUnd

theorem statusFormed_iff (s : State) : s.statusFormed = true ↔ CleanStatus s := by
  simp only [State.statusFormed, Bool.and_eq_true, beq_iff_eq]
  constructor
  · rintro ⟨⟨⟨⟨⟨c, f⟩, i⟩, v⟩, a⟩, u⟩
    exact ⟨c, f, i, v, a, u⟩
  · rintro ⟨c, f, i, v, a, u⟩
    exact ⟨⟨⟨⟨⟨c, f⟩, i⟩, v⟩, a⟩, u⟩

/-- A clean word may go to any SPSR. -/
theorem CleanStatus.setSpsrOf {s : State} (h : CleanStatus s) (m : BitVec 5) {v : Word} (hv : statusClean v = v) :
    CleanStatus (s.setSpsrOf m v) := by
  rw [State.setSpsrOf_eq]
  constructor
  case cpsr => exact h.cpsr
  case spsrFiq => dsimp only; split <;> [exact hv; exact h.spsrFiq]
  case spsrIrq => dsimp only; split <;> [exact hv; exact h.spsrIrq]
  case spsrSvc => dsimp only; split <;> [exact hv; exact h.spsrSvc]
  case spsrAbt => dsimp only; split <;> [exact hv; exact h.spsrAbt]
  case spsrUnd => dsimp only; split <;> [exact hv; exact h.spsrUnd]

/-! Aligned addresses (R33, R37). -/

/-- An address at which an instruction of the given instruction set can stand: a multiple of its length. -/
def alignedFor (thumb : Bool) (p : Word) : Prop := p.toNat % (if thumb then 2 else 4) = 0

theorem pcAligned_iff (s : State) : s.pcAligned = true ↔ alignedFor s.thumb s.pc := by
  unfold State.pcAligned alignedFor
  cases s.thumb <;> simp [← BitVec.toNat_inj, BitVec.extractLsb'_toNat]

/-- A multiple of four is an address of both instruction sets. -/
theorem alignedFor_of_four {p : Word} (thumb : Bool) (h : p.toNat % 4 = 0) : alignedFor thumb p := by
  unfold alignedFor
  split <;> omega

theorem alignedFor_add {thumb : Bool} {p d : Word} (hp : alignedFor thumb p) (hd : alignedFor thumb d) :
    alignedFor thumb (p + d) := by
  unfold alignedFor at *
  rw [BitVec.toNat_add]
  split at hp <;> simp_all <;> omega

theorem alignedFor_ilen (s : State) : alignedFor s.thumb s.ilen := by
  unfold alignedFor State.ilen
  cases s.thumb <;> decide

theorem alignedFor_debugLead (s : State) : alignedFor s.thumb s.debugLead := by
  unfold alignedFor State.debugLead
  cases s.thumb <;> decide

theorem wordAddr_aligned (a : Word) : (wordAddr a).toNat % 4 = 0 := by
  rw [wordAddr_toNat]
  omega

/-- An address whose bits 1:0 are clear is a multiple of four. -/
theorem aligned_of_low_bits {a : Word} (h0 : a.getLsbD 0 = false) (h1 : a.getLsbD 1 = false) : a.toNat % 4 = 0 := by
  rw [BitVec.getLsbD, Nat.testBit_zero, decide_eq_false_iff_not] at h0
  rw [BitVec.getLsbD, Nat.testBit_succ, Nat.testBit_zero, decide_eq_false_iff_not] at h1
  omega

/-- Clearing bit 0 of an address leaves a halfword address. -/
theorem clearBit0_even (a : Word) : (a &&& 0xFFFFFFFE#32).toNat % 2 = 0 := by
  have h : (a &&& 0xFFFFFFFE#32).getLsbD 0 = false := by
    rw [BitVec.getLsbD_and]
    simp
  rw [BitVec.getLsbD, Nat.testBit_zero] at h
  exact Nat.mod_two_not_eq_one.mp (of_decide_eq_false h)

theorem vectorBase_offset_aligned (c : Cp15) (e : Exc) : (c.vectorBase + e.offset).toNat % 4 = 0 := by
  unfold Cp15.vectorBase
  cases c.v <;> cases e <;> decide

/-! The invariant. -/

/-- The invariant of the machine in its parts (R33, R34, R35, R150). -/
structure Inv (s : State) : Prop where
  fits : Fits s
  aligned : alignedFor s.thumb s.pc
  legal : modeLegal s.mode = true
  clean : CleanStatus s

theorem inv_iff (s : State) : s.inv = true ↔ Inv s := by
  simp only [State.inv, State.bufferFits, Bool.and_eq_true, decide_eq_true_eq, statusFormed_iff, pcAligned_iff]
  constructor
  · rintro ⟨⟨⟨⟨hm, ha⟩, hl⟩, hc⟩, hn, hs⟩
    exact ⟨⟨hm, hn, hs⟩, ha, hl, hc⟩
  · rintro ⟨⟨hm, hn, hs⟩, ha, hl, hc⟩
    exact ⟨⟨⟨⟨hm, ha⟩, hl⟩, hc⟩, hn, hs⟩

/-- The invariant depends on memory, the write buffer, the pc and the status registers only. -/
theorem Inv.congr {s t : State} (h : Inv s) (hm : t.mem = s.mem := by rfl) (hw : t.wbuf = s.wbuf := by rfl)
    (hp : t.pc = s.pc := by rfl) (hc : t.cpsr = s.cpsr := by rfl) (hf : t.spsrFiq = s.spsrFiq := by rfl)
    (hi : t.spsrIrq = s.spsrIrq := by rfl) (hs : t.spsrSvc = s.spsrSvc := by rfl)
    (ha : t.spsrAbt = s.spsrAbt := by rfl) (hu : t.spsrUnd = s.spsrUnd := by rfl) : Inv t := by
  obtain ⟨⟨mem, addresses, slots⟩, aligned, legal, clean, fiq, irq, svc, abt, und⟩ := h
  exact ⟨⟨by rw [hm]; exact mem, by rw [hw]; exact addresses, by rw [hw]; exact slots⟩,
    by unfold State.thumb; rw [hc, hp]; exact aligned, by unfold State.mode; rw [hc]; exact legal,
    ⟨by rw [hc]; exact clean, by rw [hf]; exact fiq, by rw [hi]; exact irq, by rw [hs]; exact svc,
      by rw [ha]; exact abt, by rw [hu]; exact und⟩⟩

/-- A data access keeps the invariant. -/
theorem Inv.kept {s t : State} (h : Inv s) (k : KeptCore s t) (hf : Fits t) : Inv t := by
  have i : Inv { s with mem := t.mem, wbuf := t.wbuf } := ⟨⟨hf.mem, hf.addresses, hf.slots⟩, h.aligned, h.legal,
    ⟨h.clean.cpsr, h.clean.spsrFiq, h.clean.spsrIrq, h.clean.spsrSvc, h.clean.spsrAbt, h.clean.spsrUnd⟩⟩
  exact i.congr rfl rfl k.pc k.cpsr k.spsrFiq k.spsrIrq k.spsrSvc k.spsrAbt k.spsrUnd

/-- A write of the pc keeps the invariant where the new one is aligned. -/
theorem Inv.setPc {s : State} (h : Inv s) {p : Word} (hp : alignedFor s.thumb p) : Inv { s with pc := p } :=
  ⟨⟨h.fits.mem, h.fits.addresses, h.fits.slots⟩, hp, h.legal,
    ⟨h.clean.cpsr, h.clean.spsrFiq, h.clean.spsrIrq, h.clean.spsrSvc, h.clean.spsrAbt, h.clean.spsrUnd⟩⟩

theorem Inv.stepped {s : State} (h : Inv s) : Inv s.stepped := h.setPc (alignedFor_add h.aligned (alignedFor_ilen s))

theorem Inv.setFlags {s : State} (h : Inv s) (n z c v : Bool) : Inv (s.setFlags n z c v) :=
  ⟨⟨h.fits.mem, h.fits.addresses, h.fits.slots⟩, by rw [State.setFlags_thumb]; exact h.aligned,
    by rw [State.setFlags_mode]; exact h.legal,
    ⟨statusClean_setFlags n z c v h.clean.cpsr, h.clean.spsrFiq, h.clean.spsrIrq, h.clean.spsrSvc, h.clean.spsrAbt,
      h.clean.spsrUnd⟩⟩

theorem Inv.enterDebug {s : State} (h : Inv s) (watch both : Bool) : Inv (enterDebug watch both s) :=
  (h.setPc (alignedFor_add h.aligned (alignedFor_debugLead s))).congr

/-- The entry of an exception needs neither a legal mode nor an aligned pc: it leaves both. -/
theorem inv_exceptionEntry (e : Exc) {s : State} (hf : Fits s) (hc : CleanStatus s) : Inv (exceptionEntry e s) := by
  have hb : CleanStatus (s.bankSet e.mode 14#4 (s.linkOf e)) :=
    ⟨hc.cpsr, hc.spsrFiq, hc.spsrIrq, hc.spsrSvc, hc.spsrAbt, hc.spsrUnd⟩
  have hs := hb.setSpsrOf e.mode hc.cpsr
  refine ⟨⟨by rw [exceptionEntry_mem]; exact hf.mem, by rw [exceptionEntry_wbuf]; exact hf.addresses,
    by rw [exceptionEntry_wbuf]; exact hf.slots⟩, ?_, by rw [exceptionEntry_mode]; exact (Exc.mode_legal e).1,
    ⟨statusClean_entryStatus e hc.cpsr, hs.spsrFiq, hs.spsrIrq, hs.spsrSvc, hs.spsrAbt, hs.spsrUnd⟩⟩
  rw [exceptionEntry_thumb, exceptionEntry_pc]
  exact alignedFor_of_four _ (vectorBase_offset_aligned _ _)

/-- What follows the entry of an exception keeps the invariant. -/
theorem Inv.catchEntry {s : State} (e : Exc) (h : Inv s) : Inv (catchEntry e s) := by
  rcases catchEntry_cases e s with eq | ⟨-, eq⟩ | ⟨-, -, watch, both, eq⟩ <;> rw [eq]
  · exact h
  · exact (h.setPc (alignedFor_of_four _ (wordAddr_aligned _))).congr
  · exact h.enterDebug watch both

theorem inv_takeException (e : Exc) {s : State} (hf : Fits s) (hc : CleanStatus s) : Inv (takeException e s) :=
  (inv_exceptionEntry e hf hc).catchEntry e

end Sys2Proof.Machine
end

section
/-!
PROOFS. What every instruction may do, said once: `Sound ok s t` holds where `t` is `s` after a part of an instruction.
It keeps the invariant, and, where no debugger takes part, all that lies outside the core.  Each operation that the
meanings share is sound, and so is each meaning.
-/

namespace Sys2Proof.Machine

/-- What no instruction reaches: the pins, the TAP, EmbeddedICE, the debug condition, the platform's answers, the
inputs to come and the parameters of the write buffer; the count of free values only grows (R73, R74, R580). -/
structure SameOutside (s t : State) : Prop where
  pins : t.pins = s.pins
  tap : t.tap = s.tap
  ice : t.ice = s.ice
  dbg : t.dbg = s.dbg
  attached : t.attached = s.attached
  busErrors : t.busErrors = s.busErrors
  inputs : t.inputs = s.inputs
  resetHeld : t.resetHeld = s.resetHeld
  wbFifo : t.wbFifo = s.wbFifo
  wbRawCoherent : t.wbRawCoherent = s.wbRawCoherent
  draws : s.draws ≤ t.draws

theorem SameOutside.undebugged {s t : State} (h : SameOutside s t) : t.undebugged = s.undebugged := by
  unfold State.undebugged
  rw [h.dbg, h.pins]

theorem SameOutside.trans {s t u : State} (h : SameOutside s t) (g : SameOutside t u) : SameOutside s u where
  pins := g.pins.trans h.pins
  tap := g.tap.trans h.tap
  ice := g.ice.trans h.ice
  dbg := g.dbg.trans h.dbg
  attached := g.attached.trans h.attached
  busErrors := g.busErrors.trans h.busErrors
  inputs := g.inputs.trans h.inputs
  resetHeld := g.resetHeld.trans h.resetHeld
  wbFifo := g.wbFifo.trans h.wbFifo
  wbRawCoherent := g.wbRawCoherent.trans h.wbRawCoherent
  draws := Nat.le_trans h.draws g.draws

/-- `t` is `s` after a part of an instruction: the outside is the same where no debugger takes part, and the
invariant is kept under `ok`, the condition that the instruction belongs to the instruction set of the state. -/
structure Sound (ok : Prop) (s t : State) : Prop where
  outside : s.undebugged = true → SameOutside s t
  inv : ok → Inv s → Inv t

/-- An instruction that goes on from `s` goes on to a sound state. -/
structure SoundFrom (ok : Prop) (s : State) (r : Result) : Prop where
  next : ∀ t, r = .next t → Sound ok s t

section
variable {ok : Prop}

theorem Sound.trans {s t u : State} (h : Sound ok s t) (g : Sound ok t u) : Sound ok s u where
  outside := fun hu => (h.outside hu).trans (g.outside ((h.outside hu).undebugged.trans hu))
  inv := fun o i => g.inv o (h.inv o i)

theorem soundFrom_next {s t : State} (h : Sound ok s t) : SoundFrom ok s (.next t) := by
  refine ⟨fun t' e => ?_⟩
  cases e
  exact h

theorem soundFrom_refused (s : State) (e : Refusal) : SoundFrom ok s (.refused e) := by
  refine ⟨fun t h => ?_⟩
  cases h

theorem Sound.from {s u : State} {r : Result} (h : Sound ok s u) (g : SoundFrom ok u r) : SoundFrom ok s r :=
  ⟨fun t e => h.trans (g.next t e)⟩

/-- An access that started in `s` ends in a sound state, in the same instruction set. -/
def Access.sound {α : Type} (ok : Prop) (s : State) : Access α → Prop
  | .done _ t => Sound ok s t ∧ t.thumb = s.thumb
  | .abort t => Sound ok s t
  | .fault _ => True

/-! Updates of the state. -/

/-- A change of the registers, of CP15 and CP14, of the caches, of the coprocessors, of the wait state or of the counter
of free values is sound. -/
theorem Sound.frame {s t : State}
    (outside : SameOutside s t := by exact ⟨rfl, rfl, rfl, rfl, rfl, rfl, rfl, rfl, rfl, rfl, Nat.le_refl _⟩)
    (hm : t.mem = s.mem := by rfl) (hw : t.wbuf = s.wbuf := by rfl) (hp : t.pc = s.pc := by rfl)
    (hc : t.cpsr = s.cpsr := by rfl) (hf : t.spsrFiq = s.spsrFiq := by rfl) (hi : t.spsrIrq = s.spsrIrq := by rfl)
    (hs : t.spsrSvc = s.spsrSvc := by rfl) (ha : t.spsrAbt = s.spsrAbt := by rfl)
    (hu : t.spsrUnd = s.spsrUnd := by rfl) : Sound ok s t :=
  ⟨fun _ => outside, fun _ i => i.congr hm hw hp hc hf hi hs ha hu⟩

theorem SameOutside.refl (s : State) : SameOutside s s :=
  ⟨rfl, rfl, rfl, rfl, rfl, rfl, rfl, rfl, rfl, rfl, Nat.le_refl _⟩

theorem Sound.refl (s : State) : Sound ok s s := ⟨fun _ => .refl s, fun _ => id⟩

theorem Sound.bankSet (s : State) (m : BitVec 5) (i : BitVec 4) (v : Word) : Sound ok s (s.bankSet m i v) := .frame

theorem Sound.setReg (s : State) (i : BitVec 4) (v : Word) : Sound ok s (s.setReg i v) := .frame

theorem Sound.setCpState (s : State) (cp : BitVec 4) (v : Nat) : Sound ok s (s.setCpState cp v) := .frame

theorem Sound.draw (s : State) : Sound ok s s.draw.2 :=
  .frame ⟨rfl, rfl, rfl, rfl, rfl, rfl, rfl, rfl, rfl, rfl, Nat.le_succ _⟩

theorem Sound.offered (s : State) : Sound ok s s.offered :=
  .frame ⟨rfl, rfl, rfl, rfl, rfl, rfl, rfl, rfl, rfl, rfl, Nat.le_succ _⟩

theorem Sound.setFlags (s : State) (n z c v : Bool) : Sound ok s (s.setFlags n z c v) where
  outside := fun _ => by constructor <;> simp
  inv := fun _ i => i.setFlags n z c v

theorem Sound.setFlagsOf (s : State) (r : FlagResult) : Sound ok s (s.setFlagsOf r) := Sound.setFlags ..

/-- Flags and a register. -/
theorem Sound.flagsReg (s : State) (sf : BitVec 1) (r : FlagResult) (i : BitVec 4) (v : Word) :
    Sound ok s ((if sf = 1#1 then s.setFlagsOf r else s).setReg i v) := by
  split
  · exact (Sound.setFlagsOf s r).trans (.setReg ..)
  · exact .setReg ..

theorem Sound.setPc {s : State} {p : Word} (h : ok → Inv s → alignedFor s.thumb p) : Sound ok s { s with pc := p } where
  outside := fun _ => by constructor <;> simp
  inv := fun o i => i.setPc (h o i)

/-- The same where the part before the write is known to be sound. -/
theorem Sound.thenPc {s u : State} {p : Word} (h : Sound ok s u) (hp : ok → Inv s → alignedFor u.thumb p) :
    Sound ok s { u with pc := p } where
  outside := fun hu => (h.outside hu).trans (by constructor <;> simp)
  inv := fun o i => (h.inv o i).setPc (hp o i)

/-- A pc that is a multiple of four is sound in both instruction sets. -/
theorem Sound.setPcWord (s : State) (a : Word) : Sound ok s { s with pc := a &&& 0xFFFFFFFC#32 } :=
  .setPc fun _ _ => alignedFor_of_four _ (wordAddr_aligned a)

/-- In Thumb state a pc with bit 0 clear is sound. -/
theorem Sound.setPcHalf {s : State} (h : ok → s.thumb = true) (a : Word) :
    Sound ok s { s with pc := a &&& 0xFFFFFFFE#32 } :=
  .setPc fun o _ => by
    rw [h o]
    exact clearBit0_even a

theorem Sound.setSpsrOf (s : State) (m : BitVec 5) {v : Word} (hv : statusClean v = v) : Sound ok s (s.setSpsrOf m v) where
  outside := fun _ => by constructor <;> simp
  inv := fun _ i => ⟨⟨by simpa using i.fits.mem, by simpa using i.fits.addresses, by simpa using i.fits.slots⟩,
    by simpa using i.aligned, by simpa using i.legal, i.clean.setSpsrOf m hv⟩

/-- A data access that keeps the core is sound. -/
theorem Sound.kept {s t : State} (k : KeptCore s t) (hf : Fits s → Fits t) : Sound ok s t where
  outside := fun hu => ⟨k.pins, k.tap, (k.debugUnit hu).1, (k.debugUnit hu).2, k.attached, k.busErrors, k.inputs,
    k.resetHeld, k.wbFifo, k.wbRawCoherent, k.draws⟩
  inv := fun _ i => i.kept k (hf i.fits)

theorem KeptCore.thumb {s t : State} (k : KeptCore s t) : t.thumb = s.thumb := by
  unfold State.thumb
  rw [k.cpsr]

theorem Access.sound_of_kept {α : Type} {s : State} {a : Access α} (k : a.keeps s) (hf : Fits s → a.fits) :
    a.sound ok s := by
  cases a with
  | done v t => exact ⟨.kept k hf, KeptCore.thumb k⟩
  | abort t => exact .kept k hf
  | fault e => trivial

/-- Taking an exception is sound: it is the entry of R530 where no debugger takes part. -/
theorem Sound.takeException (e : Exc) (s : State) : Sound ok s (takeException e s) where
  outside := fun hu => by
    rw [takeException_undebugged hu]
    constructor <;> simp [State.entered]
  inv := fun _ i => inv_takeException e i.fits i.clean

/-! The shared operations. -/

section
variable {s u : State}

theorem finish_sound (h : Sound ok s u) : SoundFrom ok s (finish u) := by
  refine ⟨fun t e => ?_⟩
  obtain ⟨-, rfl⟩ := finish_next e
  exact h.trans (.setPc fun _ i => i.stepped.aligned)

theorem raise_sound (e : Exc) (h : Sound ok s u) : SoundFrom ok s (raise e u) :=
  soundFrom_next (h.trans (.takeException e u))

theorem ifPassed_sound {cond : BitVec 4} {f : State → Result} (h : SoundFrom ok s (f s)) :
    SoundFrom ok s (ifPassed cond s f) := by
  rcases ifPassed_cases cond s f with ⟨-, e⟩ | ⟨-, e⟩ | ⟨-, -, e⟩ <;> rw [e]
  · exact soundFrom_refused ..
  · exact h
  · exact finish_sound (.refl s)

theorem unlessRefused_sound {r : Option Refusal} {k : Result} (h : SoundFrom ok s k) :
    SoundFrom ok s (unlessRefused r k) :=
  ⟨fun t e => h.next t (unlessRefused_next e).2⟩

theorem ite_refused_sound {c : Prop} [Decidable c] {e : Refusal} {k : Result} (h : SoundFrom ok s k) :
    SoundFrom ok s (if c then .refused e else k) := by
  split
  · exact soundFrom_refused ..
  · exact h

theorem afterAccess_sound {α : Type} {a : Access α} {f : α → State → Result} (ha : a.sound ok s)
    (hf : ∀ v u, Sound ok s u → u.thumb = s.thumb → SoundFrom ok s (f v u)) : SoundFrom ok s (afterAccess a f) := by
  refine ⟨fun t e => ?_⟩
  rcases afterAccess_next e with ⟨v, u, rfl, ht⟩ | ⟨u, rfl, rfl⟩
  · exact (hf v u ha.1 ha.2).next t ht
  · exact Sound.trans ha (.takeException _ u)

/-- The pc that `writePc` writes is aligned for the state that takes it. -/
theorem writePc_aligned {r : Word} {v t : State} (h : writePc r v = .next t) :
    ∃ p, alignedFor v.thumb p ∧ t = { v with pc := p } := by
  rcases writePc_next h with ⟨ht, rfl⟩ | ⟨ht, hr, rfl⟩
  · exact ⟨_, by rw [ht]; exact clearBit0_even r, rfl⟩
  · refine ⟨r, alignedFor_of_four _ ?_, rfl⟩
    simpa [← BitVec.toNat_inj, BitVec.extractLsb'_toNat] using hr

/-- The pc of LDM (3) is aligned for the state that takes it. -/
theorem writeLoadedPc_aligned {r : Word} {v t : State} (h : writeLoadedPc r v = .next t) :
    ∃ p, alignedFor v.thumb p ∧ t = { v with pc := p } := by
  cases h
  refine ⟨v.maskedPc r, ?_, rfl⟩
  unfold State.maskedPc
  split
  · rename_i ht
    rw [ht]
    exact clearBit0_even r
  · exact alignedFor_of_four _ (wordAddr_aligned r)

theorem writePc_sound {r : Word} (h : Sound ok s u) : SoundFrom ok s (writePc r u) := by
  refine ⟨fun t e => ?_⟩
  obtain ⟨p, hp, rfl⟩ := writePc_aligned e
  exact h.trans (.setPc fun _ _ => hp)

/-- A return from an exception is sound where the pc is written aligned. -/
theorem returnFromException_sound {writes : State → Result} (h : Sound ok s u)
    (hw : ∀ v t, writes v = .next t → ∃ p, alignedFor v.thumb p ∧ t = { v with pc := p }) :
    SoundFrom ok s (returnFromException writes u) := by
  refine ⟨fun t e => ?_⟩
  obtain ⟨-, legal, e⟩ := returnFromException_next e
  obtain ⟨p, hp, rfl⟩ := hw _ _ e
  refine h.trans ⟨fun _ => by constructor <;> simp, fun _ i => ?_⟩
  exact ⟨⟨i.fits.mem, i.fits.addresses, i.fits.slots⟩, hp, legal,
    ⟨statusClean_idem _, i.clean.spsrFiq, i.clean.spsrIrq, i.clean.spsrSvc, i.clean.spsrAbt, i.clean.spsrUnd⟩⟩

theorem dpWrite_sound (sf : BitVec 1) (rd : BitVec 4) (r : FlagResult) : SoundFrom ok s (dpWrite sf rd r s) := by
  unfold dpWrite
  split
  · split
    · exact returnFromException_sound (.refl s) fun _ _ => writePc_aligned
    · exact writePc_sound (.refl s)
  · exact finish_sound (.flagsReg ..)

theorem exchangeTo_sound (v : Word) : SoundFrom ok s (exchangeTo v s) := by
  unfold exchangeTo
  split
  · exact soundFrom_refused ..
  · rename_i hv
    refine soundFrom_next ⟨fun _ => by constructor <;> simp, fun _ i => ?_⟩
    refine ⟨⟨i.fits.mem, i.fits.addresses, i.fits.slots⟩, ?_, (State.setThumb_mode s _).symm ▸ i.legal,
      ⟨statusClean_setThumb _ i.clean.cpsr, i.clean.spsrFiq, i.clean.spsrIrq, i.clean.spsrSvc, i.clean.spsrAbt,
        i.clean.spsrUnd⟩⟩
    show alignedFor (s.setThumb (v.getLsbD 0)).thumb _
    rw [State.setThumb_thumb]
    cases hb : v.getLsbD 0
    · have hb1 : v.getLsbD 1 = false := by
        refine Bool.eq_false_iff.mpr fun h1 => hv ?_
        apply BitVec.eq_of_getLsbD_eq
        intro k hk
        rw [BitVec.getLsbD_extractLsb']
        rcases (by omega : k = 0 ∨ k = 1) with rfl | rfl
        · rw [hb]; rfl
        · rw [h1]; rfl
      exact alignedFor_of_four _ (aligned_of_low_bits (by rw [BitVec.getLsbD_and, hb, Bool.false_and])
        (by rw [BitVec.getLsbD_and, hb1, Bool.false_and]))
    · exact clearBit0_even v

/-- A branch is sound where its target is aligned. -/
theorem branchTo_sound {target : Int} (h : Sound ok s u)
    (ha : ok → Inv s → target % (if u.thumb then 2 else 4) = 0) : SoundFrom ok s (branchTo target u) := by
  unfold branchTo
  split
  · rename_i hr
    refine soundFrom_next (h.thenPc fun o i => ?_)
    have ha := ha o i
    have hn : ((BitVec.ofInt 32 target).toNat : Int) = target := by
      rw [BitVec.toNat_ofInt]
      omega
    unfold alignedFor
    cases ht : u.thumb <;> simp only [ht, Bool.false_eq_true, ↓reduceIte] at ha ⊢ <;> omega
  · exact soundFrom_refused ..

end

end

end Sys2Proof.Machine
end

section
/-!
PROOFS. The accesses and the meanings of the instructions are sound, one lemma for each meaning that instructions
share, and so `exec` is: `exec_sound`.
-/

namespace Sys2Proof.Machine

section
variable {ok : Prop}

/-! Accesses. -/

theorem load_sound (a : Word) (sz : Size) (privileged : Bool) (s : State) : (load a sz privileged s).sound ok s :=
  Access.sound_of_kept (load_kept ..) (load_fits _ _ _)

theorem store_sound (a : Word) (sz : Size) (v : Word) (privileged join : Bool) (s : State) :
    (store a sz v privileged join s).sound ok s :=
  Access.sound_of_kept (store_kept ..) (store_fits _ _ _ _ _)

theorem swapAccess_sound (a : Word) (sz : Size) (v : Word) (s : State) : (swapAccess a sz v s).sound ok s :=
  Access.sound_of_kept (swapAccess_kept ..) (swapAccess_fits _ _ _)

theorem storeMany_sound (vs : List Word) (a : Word) (join : Bool) (s : State) : (storeMany vs a join s).sound ok s :=
  Access.sound_of_kept (storeMany_kept ..) (storeMany_fits _ _ _)

/-- What a sound part of an instruction does before an access does not take its soundness away. -/
theorem Access.sound_trans {α : Type} {s t : State} {a : Access α} (h : Sound ok s t) (ht : t.thumb = s.thumb)
    (ha : a.sound ok t) : a.sound ok s := by
  cases a with
  | done v u => exact ⟨h.trans ha.1, ha.2.trans ht⟩
  | abort u => exact h.trans ha
  | fault e => trivial

theorem loadMany_sound (m : BitVec 5) (hold : BitVec 4 → Bool) (is : List (BitVec 4)) (a : Word) (hd : Held)
    (s : State) : (loadMany m hold is a hd s).sound ok s := by
  induction is generalizing a hd s with
  | nil => exact ⟨.refl s, rfl⟩
  | cons i rest ih =>
    have hl := load_sound (ok := ok) (wordAddr a) .word s.privileged s
    unfold loadMany
    cases hx : load (wordAddr a) .word s.privileged s with
    | done v t =>
      rw [hx] at hl
      obtain ⟨ht, hthumb⟩ := hl
      dsimp only
      split
      · exact Access.sound_trans ht hthumb (ih ..)
      · split
        · exact Access.sound_trans ht hthumb (ih ..)
        · exact Access.sound_trans (ht.trans (.bankSet ..)) hthumb (ih ..)
    | abort t => rw [hx] at hl; exact hl
    | fault e => trivial

theorem cpLoadMany_sound (cp : BitVec 4) (w a : Word) (n k : Nat) (s : State) :
    (cpLoadMany cp w a n k s).sound ok s := by
  induction n generalizing k s with
  | zero => exact ⟨.refl s, rfl⟩
  | succ n ih =>
    have hl := load_sound (ok := ok) (a + BitVec.ofNat 32 (4 * k)) .word s.privileged s
    unfold cpLoadMany
    cases hx : load (a + BitVec.ofNat 32 (4 * k)) .word s.privileged s with
    | done v t =>
      rw [hx] at hl
      exact Access.sound_trans (hl.1.trans (.setCpState ..)) hl.2 (ih ..)
    | abort t => rw [hx] at hl; exact hl
    | fault e => trivial

theorem cpStoreMany_sound (vs : List Word) (a : Word) (join : Bool) (s : State) :
    (cpStoreMany vs a join s).sound ok s := by
  induction vs generalizing a join s with
  | nil => exact ⟨.refl s, rfl⟩
  | cons v rest ih =>
    have hs := store_sound (ok := ok) a .word v s.privileged join s
    unfold cpStoreMany
    cases hx : store a .word v s.privileged join s with
    | done u t => rw [hx] at hs; exact Access.sound_trans hs.1 hs.2 (ih ..)
    | abort t => rw [hx] at hs; exact hs
    | fault e => trivial

theorem cleanLine_sound (g : Fin 4) (idx : Fin 64) (s : State) :
    Sound ok s (cleanLine g idx s) ∧ (cleanLine g idx s).thumb = s.thumb := by
  unfold cleanLine
  dsimp only
  split
  · have k := evict_kept (s.dcache.line g idx) g s
    exact ⟨(Sound.kept k (evict_fits _ _)).trans .frame, k.thumb⟩
  · exact ⟨.refl s, rfl⟩

theorem prefetchLine_sound (a : Word) (s : State) : (prefetchLine a s).sound ok s := by
  unfold prefetchLine
  split
  · trivial
  · exact ⟨.refl s, rfl⟩
  · split
    · trivial
    · exact ⟨.refl s, rfl⟩
    · split
      · exact ⟨.frame ⟨rfl, rfl, rfl, rfl, rfl, rfl, rfl, rfl, rfl, rfl, Nat.le_succ _⟩, rfl⟩
      · exact ⟨.refl s, rfl⟩

theorem cacheOperation_sound (op : CacheOp) (v : Word) (s : State) : (cacheOperation op v s).sound ok s := by
  cases op with
  | flushI => exact ⟨.frame, rfl⟩
  | flushILine => exact ⟨.frame, rfl⟩
  | flushD => exact ⟨.frame, rfl⟩
  | flushDLine => exact ⟨.frame, rfl⟩
  | cleanDLine => exact cleanLine_sound ..
  | prefetchI => exact prefetchLine_sound ..
  | cleanFlushDLine =>
    obtain ⟨h, ht⟩ := cleanLine_sound (opSeg v) (opIdx v) s
    exact ⟨h.trans .frame, ht⟩
  | waitInterrupt => exact ⟨.frame, rfl⟩
  | drain => exact ⟨.kept (drainWriteBuffer_kept s) drainWriteBuffer_fits, (drainWriteBuffer_kept s).thumb⟩

section
variable {s u : State}

/-! ARM data processing and status registers. -/

theorem dataOp_sound (op : DpOp) (cond : BitVec 4) (sf : BitVec 1) (rn rd : BitVec 4) (op2 : Operand2) :
    SoundFrom ok s (dataOp op cond sf rn rd op2 s) :=
  ifPassed_sound (dpWrite_sound ..)

theorem moveOp_sound (op : DpOp) (cond : BitVec 4) (sf : BitVec 1) (rn rd : BitVec 4) (op2 : Operand2) :
    SoundFrom ok s (moveOp op cond sf rn rd op2 s) := by
  refine ifPassed_sound ?_
  split
  · exact dpWrite_sound ..
  · exact soundFrom_refused ..

theorem compareOp_sound (op : DpOp) (cond rn rd : BitVec 4) (op2 : Operand2) :
    SoundFrom ok s (compareOp op cond rn rd op2 s) := by
  refine ifPassed_sound ?_
  split
  · exact finish_sound (.setFlagsOf ..)
  · exact soundFrom_refused ..

theorem execMrs_sound (cond : BitVec 4) (r : BitVec 1) (sbo rd hi lo : BitVec 4) :
    SoundFrom ok s (execMrs cond r sbo rd hi lo s) := by
  refine ifPassed_sound (ite_refused_sound (ite_refused_sound ?_))
  split
  · exact finish_sound (.setReg ..)
  · split
    · exact finish_sound (.setReg ..)
    · exact soundFrom_refused ..

/-- MSR to the CPSR keeps the T bit and leaves a legal mode and clean bits 27:8. -/
theorem msrCpsr_sound (mask : BitVec 4) (v : Word) : SoundFrom ok s (msrCpsr mask v s) := by
  unfold msrCpsr
  dsimp only
  split
  · exact soundFrom_refused ..
  · rename_i ht
    split
    · rename_i hm
      refine finish_sound ⟨fun _ => by constructor <;> simp, fun _ i => ?_⟩
      refine ⟨⟨i.fits.mem, i.fits.addresses, i.fits.slots⟩, ?_, hm, ⟨statusClean_statusMerge .., i.clean.spsrFiq,
        i.clean.spsrIrq, i.clean.spsrSvc, i.clean.spsrAbt, i.clean.spsrUnd⟩⟩
      have : State.thumb { s with cpsr := statusMerge s.cpsr v (s.cpsrBytes mask) } = s.thumb := not_not.mp ht
      rw [this]
      exact i.aligned
    · exact soundFrom_refused ..

theorem msrWrite_sound (r : BitVec 1) (mask : BitVec 4) (v : Word) : SoundFrom ok s (msrWrite r mask v s) := by
  unfold msrWrite msrSpsr
  split
  · exact msrCpsr_sound ..
  · split
    · exact finish_sound (.setSpsrOf _ _ (statusClean_statusMerge ..))
    · exact soundFrom_refused ..

theorem execMsrReg_sound (cond : BitVec 4) (r : BitVec 1) (mask sbo sbz rm : BitVec 4) :
    SoundFrom ok s (execMsrReg cond r mask sbo sbz rm s) :=
  ifPassed_sound (ite_refused_sound (ite_refused_sound (msrWrite_sound ..)))

theorem execMsrImm_sound (cond : BitVec 4) (r : BitVec 1) (mask sbo rot : BitVec 4) (imm8 : BitVec 8) :
    SoundFrom ok s (execMsrImm cond r mask sbo rot imm8 s) :=
  ifPassed_sound (ite_refused_sound (msrWrite_sound ..))

theorem undefinedArm_sound (cond : BitVec 4) : SoundFrom ok s (undefinedArm cond s) :=
  ifPassed_sound (raise_sound _ (.refl s))

/-! Multiplies. -/

theorem Sound.multiplyFlags (s : State) (r : Word) : Sound ok s (s.multiplyFlags r) :=
  (Sound.draw s).trans (.setFlags ..)

theorem Sound.longFlags (s : State) (p : BitVec 64) : Sound ok s (s.longFlags p) :=
  (Sound.draw s).trans (.setFlags ..)

theorem multiplyWrite_sound (sf : BitVec 1) (rd : BitVec 4) (r : Word) : SoundFrom ok s (multiplyWrite sf rd r s) := by
  unfold multiplyWrite
  split
  · exact finish_sound ((Sound.multiplyFlags s r).trans (.setReg ..))
  · exact finish_sound (.setReg ..)

theorem execMul_sound (cond : BitVec 4) (sf : BitVec 1) (rd sbz rs rm : BitVec 4) :
    SoundFrom ok s (execMul cond sf rd sbz rs rm s) :=
  ifPassed_sound (ite_refused_sound (ite_refused_sound (ite_refused_sound (multiplyWrite_sound ..))))

theorem execMla_sound (cond : BitVec 4) (sf : BitVec 1) (rd rn rs rm : BitVec 4) :
    SoundFrom ok s (execMla cond sf rd rn rs rm s) :=
  ifPassed_sound (ite_refused_sound (ite_refused_sound (multiplyWrite_sound ..)))

theorem longMultiply_sound (signed accumulate : Bool) (cond : BitVec 4) (sf : BitVec 1) (hi lo rs rm : BitVec 4) :
    SoundFrom ok s (longMultiply signed accumulate cond sf hi lo rs rm s) := by
  refine ifPassed_sound ?_
  split
  · exact soundFrom_refused ..
  · dsimp only
    split
    · exact finish_sound (((Sound.longFlags s _).trans (.setReg ..)).trans (.setReg ..))
    · exact finish_sound ((Sound.setReg ..).trans (.setReg ..))

/-! Single loads, stores and swaps. -/

theorem Sound.writeBase (s : State) (rn : BitVec 4) (v : Option Word) : Sound ok s (s.writeBase rn v) := by
  cases v with
  | none => exact .refl s
  | some v => exact .setReg ..

theorem loadWrite_sound (rd : BitVec 4) (v : Word) (h : Sound ok s u) : SoundFrom ok s (loadWrite rd v u) := by
  unfold loadWrite
  split
  · exact soundFrom_next (h.trans (.setPcWord ..))
  · exact finish_sound (h.trans (.setReg ..))

theorem loadInto_sound (k : LoadKind) (privileged : Bool) (rn rd : BitVec 4) (ix : Indexing) :
    SoundFrom ok s (loadInto k privileged rn rd ix s) :=
  ite_refused_sound (afterAccess_sound (load_sound ..) fun _ _ h _ => loadWrite_sound _ _ (h.trans (.writeBase ..)))

theorem storeFrom_sound (sz : Size) (privileged : Bool) (rn rd : BitVec 4) (ix : Indexing) :
    SoundFrom ok s (storeFrom sz privileged rn rd ix s) :=
  ite_refused_sound (afterAccess_sound (store_sound ..) fun _ _ h _ => finish_sound (h.trans (.writeBase ..)))

theorem loadOp_sound (k : LoadKind) (pcOk user : Bool) (cond : BitVec 4) (p up w : BitVec 1) (rn rd : BitVec 4)
    (off : Offset2) : SoundFrom ok s (loadOp k pcOk user cond p up w rn rd off s) :=
  ifPassed_sound (unlessRefused_sound (unlessRefused_sound (loadInto_sound ..)))

theorem storeOp_sound (sz : Size) (pcOk user : Bool) (cond : BitVec 4) (p up w : BitVec 1) (rn rd : BitVec 4)
    (off : Offset2) : SoundFrom ok s (storeOp sz pcOk user cond p up w rn rd off s) :=
  ifPassed_sound (unlessRefused_sound (unlessRefused_sound (storeFrom_sound ..)))

theorem loadHalfOp_sound (k : LoadKind) (cond : BitVec 4) (p up w : BitVec 1) (rn rd : BitVec 4) (off : Offset3) :
    SoundFrom ok s (loadHalfOp k cond p up w rn rd off s) :=
  ifPassed_sound (unlessRefused_sound (unlessRefused_sound (unlessRefused_sound (loadInto_sound ..))))

theorem storeHalfOp_sound (cond : BitVec 4) (p up w : BitVec 1) (rn rd : BitVec 4) (off : Offset3) :
    SoundFrom ok s (storeHalfOp cond p up w rn rd off s) :=
  ifPassed_sound (unlessRefused_sound (unlessRefused_sound (unlessRefused_sound (storeFrom_sound ..))))

theorem swapOp_sound (sz : Size) (k : LoadKind) (cond rn rd sbz rm : BitVec 4) :
    SoundFrom ok s (swapOp sz k cond rn rd sbz rm s) :=
  ifPassed_sound (ite_refused_sound (ite_refused_sound (ite_refused_sound
    (afterAccess_sound (swapAccess_sound ..) fun _ _ h _ => finish_sound (h.trans (.setReg ..))))))

/-! Block transfers. -/

theorem Sound.setHeld (s : State) (m : BitVec 5) (i : BitVec 4) (v : Option Word) : Sound ok s (s.setHeld m i v) := by
  cases v with
  | none => exact .refl s
  | some v => exact .bankSet ..

theorem Sound.loadedBase (s : State) (w : BitVec 1) (rn : BitVec 4) (h : Held) (wb : Word) :
    Sound ok s (s.loadedBase w rn h wb) := by
  unfold State.loadedBase
  dsimp only
  split
  · exact (Sound.setHeld ..).trans (.setReg ..)
  · exact .setHeld ..

theorem loadedPc_sound (hd : Held) (h : Sound ok s u) : SoundFrom ok s (loadedPc hd u) := by
  unfold loadedPc
  split
  · exact soundFrom_next (h.trans (.setPcWord ..))
  · exact finish_sound h

theorem execLdm_sound (cond : BitVec 4) (p up w : BitVec 1) (rn : BitVec 4) (list : BitVec 16) :
    SoundFrom ok s (execLdm cond p up w rn list s) :=
  ifPassed_sound (unlessRefused_sound (unlessRefused_sound
    (afterAccess_sound (loadMany_sound ..) fun _ _ h _ => loadedPc_sound _ (h.trans (.loadedBase ..)))))

theorem execLdmUser_sound (cond : BitVec 4) (p up w : BitVec 1) (rn : BitVec 4) (list : BitVec 15) :
    SoundFrom ok s (execLdmUser cond p up w rn list s) := by
  unfold execLdmUser
  exact ifPassed_sound (unlessRefused_sound (unlessRefused_sound
    (afterAccess_sound (loadMany_sound ..) fun _ _ h _ => finish_sound (h.trans (.setHeld ..)))))

theorem execLdmRestore_sound (cond : BitVec 4) (p up w : BitVec 1) (rn : BitVec 4) (list : BitVec 15) :
    SoundFrom ok s (execLdmRestore cond p up w rn list s) := by
  unfold execLdmRestore
  exact ifPassed_sound (unlessRefused_sound (unlessRefused_sound (ite_refused_sound
    (afterAccess_sound (loadMany_sound ..) fun _ _ h _ =>
      returnFromException_sound (h.trans (.loadedBase ..)) fun _ _ => writeLoadedPc_aligned))))

theorem execStm_sound (cond : BitVec 4) (p up w : BitVec 1) (rn : BitVec 4) (list : BitVec 16) :
    SoundFrom ok s (execStm cond p up w rn list s) := by
  refine ifPassed_sound (unlessRefused_sound (unlessRefused_sound
    (afterAccess_sound (storeMany_sound ..) fun _ _ h _ => finish_sound ?_)))
  split
  · exact h.trans (.setReg ..)
  · exact h

theorem execStmUser_sound (cond : BitVec 4) (p up w : BitVec 1) (rn : BitVec 4) (list : BitVec 16) :
    SoundFrom ok s (execStmUser cond p up w rn list s) :=
  ifPassed_sound (unlessRefused_sound (unlessRefused_sound
    (afterAccess_sound (storeMany_sound ..) fun _ _ h _ => finish_sound h)))

/-! Branches. -/

/-- The target of B and BL is aligned for the instruction set of the pc. -/
theorem branchTarget_aligned (imm24 : BitVec 24) (i : Inv s) :
    s.branchTarget imm24 % (if s.thumb then 2 else 4) = 0 := by
  have ha := i.aligned
  unfold alignedFor at ha
  unfold State.branchTarget
  cases ht : s.thumb <;> simp only [ht, Bool.false_eq_true, ↓reduceIte] at ha ⊢ <;> omega

theorem execB_sound (cond : BitVec 4) (imm24 : BitVec 24) : SoundFrom ok s (execB cond imm24 s) :=
  ifPassed_sound (branchTo_sound (.refl s) fun _ => branchTarget_aligned imm24)

theorem execBl_sound (cond : BitVec 4) (imm24 : BitVec 24) : SoundFrom ok s (execBl cond imm24 s) :=
  ifPassed_sound (branchTo_sound (.setReg ..) fun _ => branchTarget_aligned imm24)

theorem execBx_sound (cond a b c rm : BitVec 4) : SoundFrom ok s (execBx cond a b c rm s) :=
  ifPassed_sound (ite_refused_sound (ite_refused_sound (exchangeTo_sound ..)))

/-! Coprocessors. -/

theorem offer_sound {cp : BitVec 4} {w : Word} {k : Nat → State → Result}
    (hk : ∀ n, SoundFrom ok s.offered (k n s.offered)) : SoundFrom ok s (offer cp w s k) := by
  refine ⟨fun t e => ?_⟩
  rcases offer_next e with ⟨-, rfl⟩ | ⟨-, -, rfl⟩ | ⟨-, -, rfl⟩ | ⟨-, n, -, e⟩
  · exact .takeException ..
  · exact (Sound.offered s).trans (.takeException ..)
  · exact (Sound.offered s).trans .frame
  · exact (Sound.offered s).trans ((hk _).next t e)

theorem cpLoad_sound (cond : BitVec 4) (wb : BitVec 1) (rn cp : BitVec 4) (w : Word) (ix : State → Indexing) :
    SoundFrom ok s (cpLoad cond wb rn cp w ix s) :=
  ifPassed_sound (offer_sound fun _ => ite_refused_sound
    (afterAccess_sound (cpLoadMany_sound ..) fun _ _ h _ => finish_sound (h.trans (.writeBase ..))))

theorem cpStore_sound (cond : BitVec 4) (wb : BitVec 1) (rn cp : BitVec 4) (w : Word) (ix : State → Indexing) :
    SoundFrom ok s (cpStore cond wb rn cp w ix s) :=
  ifPassed_sound (offer_sound fun _ => ite_refused_sound
    (afterAccess_sound (cpStoreMany_sound ..) fun _ _ h _ => finish_sound (h.trans (.writeBase ..))))

theorem execCdp_sound (cond op1 crn crd cp : BitVec 4) (op2 : BitVec 3) (crm : BitVec 4) :
    SoundFrom ok s (execCdp cond op1 crn crd cp op2 crm s) := by
  unfold execCdp
  exact ifPassed_sound (offer_sound fun _ => finish_sound (.setCpState ..))

theorem transferIn_sound (rd : BitVec 4) (v : Word) (h : Sound ok s u) : SoundFrom ok s (transferIn rd v u) := by
  unfold transferIn
  split
  · exact finish_sound (h.trans (.setFlags ..))
  · exact finish_sound (h.trans (.setReg ..))

theorem cp15Access_sound {cond : BitVec 4} {f : State → Result} (h : SoundFrom ok s (f s)) :
    SoundFrom ok s (cp15Access cond s f) := by
  refine ifPassed_sound ?_
  split
  · exact h
  · exact raise_sound _ (.refl s)

theorem cp15Read_sound (r : SysReg) (cond rd : BitVec 4) : SoundFrom ok s (cp15Read r cond rd s) := by
  refine cp15Access_sound (transferIn_sound _ _ ?_)
  split
  · exact .refl s
  · exact .draw s

theorem cp15Write_sound (r : SysReg) (cond rd : BitVec 4) : SoundFrom ok s (cp15Write r cond rd s) := by
  refine cp15Access_sound (ite_refused_sound ?_)
  split
  · exact soundFrom_refused ..
  · exact finish_sound .frame

theorem cp15Op_sound (op : CacheOp) (cond rd : BitVec 4) : SoundFrom ok s (cp15Op op cond rd s) :=
  cp15Access_sound (ite_refused_sound (ite_refused_sound
    (afterAccess_sound (cacheOperation_sound ..) fun _ _ h _ => finish_sound h)))

theorem cp15None_sound (cond : BitVec 4) : SoundFrom ok s (cp15None cond s) := cp15Access_sound (soundFrom_refused ..)

theorem cp14None_sound (cond : BitVec 4) : SoundFrom ok s (cp14None cond s) := ifPassed_sound (soundFrom_refused ..)

theorem execMcr_sound (cond : BitVec 4) (op1 : BitVec 3) (crn rd cp : BitVec 4) (op2 : BitVec 3) (crm : BitVec 4) :
    SoundFrom ok s (execMcr cond op1 crn rd cp op2 crm s) := by
  unfold execMcr
  dsimp only
  split
  · exact cp15None_sound cond
  · split
    · exact cp14None_sound cond
    · exact ifPassed_sound (offer_sound fun _ => ite_refused_sound (finish_sound (.setCpState ..)))

theorem execMrc_sound (cond : BitVec 4) (op1 : BitVec 3) (crn rd cp : BitVec 4) (op2 : BitVec 3) (crm : BitVec 4) :
    SoundFrom ok s (execMrc cond op1 crn rd cp op2 crm s) := by
  unfold execMrc
  dsimp only
  split
  · exact cp15None_sound cond
  · split
    · exact cp14None_sound cond
    · exact ifPassed_sound (offer_sound fun _ => transferIn_sound _ _ (.refl _))

theorem execMrcP14c0c0o0_sound (cond rd : BitVec 4) : SoundFrom ok s (execMrcP14c0c0o0 cond rd s) :=
  ifPassed_sound (transferIn_sound _ _ (.draw s))

theorem execMcrP14c1c0o0_sound (cond rd : BitVec 4) : SoundFrom ok s (execMcrP14c1c0o0 cond rd s) :=
  ifPassed_sound (ite_refused_sound (finish_sound .frame))

theorem execMrcP14c1c0o0_sound (cond rd : BitVec 4) : SoundFrom ok s (execMrcP14c1c0o0 cond rd s) :=
  ifPassed_sound (transferIn_sound _ _ .frame)

/-! Thumb instructions. -/

theorem thumbWrite_sound (rd : BitVec 3) (r : FlagResult) : SoundFrom ok s (thumbWrite rd r s) :=
  finish_sound ((Sound.setFlagsOf ..).trans (.setReg ..))

theorem thumbCompare_sound (r : FlagResult) : SoundFrom ok s (thumbCompare r s) := finish_sound (.setFlagsOf ..)

theorem execTMul_sound (rs rd : BitVec 3) : SoundFrom ok s (execTMul rs rd s) :=
  ite_refused_sound (finish_sound ((Sound.multiplyFlags ..).trans (.setReg ..)))

theorem finish_setReg_sound (i : BitVec 4) (v : Word) : SoundFrom ok s (finish (s.setReg i v)) := finish_sound (.setReg ..)

theorem highCompare_sound (d r : BitVec 4) : SoundFrom ok s (highCompare d r s) := ite_refused_sound (thumbCompare_sound _)

theorem thumbLoad_sound (k : LoadKind) (rd : BitVec 3) (a : Word) : SoundFrom ok s (thumbLoad k rd a s) :=
  loadInto_sound ..

theorem thumbStore_sound (sz : Size) (rd : BitVec 3) (a : Word) : SoundFrom ok s (thumbStore sz rd a s) :=
  storeFrom_sound ..

theorem execTPush_sound (r : BitVec 1) (list : BitVec 8) : SoundFrom ok s (execTPush r list s) :=
  unlessRefused_sound (afterAccess_sound (storeMany_sound ..) fun _ _ h _ => finish_sound (h.trans (.setReg ..)))

theorem execTStmia_sound (rb : BitVec 3) (list : BitVec 8) : SoundFrom ok s (execTStmia rb list s) :=
  unlessRefused_sound (unlessRefused_sound
    (afterAccess_sound (storeMany_sound ..) fun _ _ h _ => finish_sound (h.trans (.setReg ..))))

theorem execTLdmia_sound (rb : BitVec 3) (list : BitVec 8) : SoundFrom ok s (execTLdmia rb list s) :=
  unlessRefused_sound (afterAccess_sound (loadMany_sound ..) fun _ _ h _ => finish_sound (h.trans (.setReg ..)))

theorem execTBx_sound (h2 : BitVec 1) (rs sbz : BitVec 3) : SoundFrom ok s (execTBx h2 rs sbz s) :=
  ite_refused_sound (exchangeTo_sound _)

/-! The Thumb instructions that write the pc are sound in Thumb state only. -/

theorem highWrite_sound (ht : ok → s.thumb = true) (d : BitVec 4) (v : Word) : SoundFrom ok s (highWrite d v s) := by
  unfold highWrite
  split
  · exact soundFrom_next (.setPcHalf ht v)
  · exact finish_setReg_sound ..

theorem highAdd_sound (ht : ok → s.thumb = true) (d r : BitVec 4) : SoundFrom ok s (highAdd d r s) :=
  ite_refused_sound (highWrite_sound ht ..)

theorem poppedPc_sound (hd : Held) (h : Sound ok s u) (hu : ok → u.thumb = true) : SoundFrom ok s (poppedPc hd u) := by
  unfold poppedPc
  split
  · exact soundFrom_next (h.trans (.setPcHalf hu _))
  · exact finish_sound h

theorem execTPop_sound (ht : ok → s.thumb = true) (r : BitVec 1) (list : BitVec 8) : SoundFrom ok s (execTPop r list s) :=
  unlessRefused_sound (afterAccess_sound (loadMany_sound ..) fun _ _ h hu =>
    poppedPc_sound _ (h.trans (.setReg ..)) (fun o => hu.trans (ht o)))

theorem thumbTarget_aligned (ht : s.thumb = true) (offset : Int) (i : Inv s) :
    s.thumbTarget offset % (if s.thumb then 2 else 4) = 0 := by
  have ha := i.aligned
  unfold alignedFor at ha
  unfold State.thumbTarget
  rw [ht] at ha ⊢
  simp only [↓reduceIte] at ha ⊢
  omega

theorem execTB_sound (ht : ok → s.thumb = true) (off : BitVec 11) : SoundFrom ok s (execTB off s) :=
  branchTo_sound (.refl s) fun o => thumbTarget_aligned (ht o) _

theorem thumbCondBranch_sound (ht : ok → s.thumb = true) (cond : BitVec 4) (off : BitVec 8) :
    SoundFrom ok s (thumbCondBranch cond off s) := by
  unfold thumbCondBranch
  split
  · exact branchTo_sound (.refl s) fun o => thumbTarget_aligned (ht o) _
  · exact finish_sound (.refl s)

theorem execTBlSecond_sound (ht : ok → s.thumb = true) (off : BitVec 11) : SoundFrom ok s (execTBlSecond off s) :=
  soundFrom_next ((Sound.setReg ..).trans (.setPcHalf (s := s.setReg 14#4 _) ht _))

end

end

end Sys2Proof.Machine
end

section
/-!
PROOFS. Every instruction is sound (`exec_sound`), the decoder gives ARM words ARM instructions, and every step of the
machine keeps the invariant.
-/

namespace Sys2Proof

/-! The decoder gives ARM words ARM instructions (R202). -/

/-- The code word is one of the ARM set (R200). -/
def Code.isArm : Code → Bool
  | .arm _ => true
  | .thumb _ => false

theorem decodeDpImm_isArm (w : Word) : (encode (decodeDpImm w)).isArm = true := by
  unfold decodeDpImm
  split <;> rfl

theorem decodeDpImmShift_isArm (w : Word) : (encode (decodeDpImmShift w)).isArm = true := by
  unfold decodeDpImmShift
  split <;> rfl

theorem decodeDpRegShift_isArm (w : Word) : (encode (decodeDpRegShift w)).isArm = true := by
  unfold decodeDpRegShift
  split <;> rfl

theorem decodeMultiply_isArm (w : Word) : (encode (decodeMultiply w)).isArm = true := by
  unfold decodeMultiply
  repeat' split
  all_goals rfl

theorem decodeSwap_isArm (w : Word) : (encode (decodeSwap w)).isArm = true := by
  unfold decodeSwap
  repeat' split
  all_goals rfl

theorem decodeHalf_isArm (w : Word) : (encode (decodeHalf w)).isArm = true := by
  unfold decodeHalf
  repeat' split
  all_goals rfl

theorem decodeControl_isArm (w : Word) : (encode (decodeControl w)).isArm = true := by
  unfold decodeControl
  repeat' split
  all_goals rfl

theorem decodeLsImm_isArm (w : Word) : (encode (decodeLsImm w)).isArm = true := by
  unfold decodeLsImm
  repeat' split
  all_goals rfl

theorem decodeLsReg_isArm (w : Word) : (encode (decodeLsReg w)).isArm = true := by
  unfold decodeLsReg
  repeat' split
  all_goals rfl

theorem decodeLsm_isArm (w : Word) : (encode (decodeLsm w)).isArm = true := by
  unfold decodeLsm
  repeat' split
  all_goals rfl

theorem decodeLsc_isArm (w : Word) : (encode (decodeLsc w)).isArm = true := by
  unfold decodeLsc
  repeat' split
  all_goals rfl

theorem decodeMrc15_isArm (w : Word) : (encode (decodeMrc15 w)).isArm = true := by
  unfold decodeMrc15
  split <;> rfl

theorem decodeMcr15_isArm (w : Word) : (encode (decodeMcr15 w)).isArm = true := by
  unfold decodeMcr15
  split <;> rfl

theorem decodeMrc14_isArm (w : Word) : (encode (decodeMrc14 w)).isArm = true := by
  unfold decodeMrc14
  split <;> rfl

theorem decodeMcr14_isArm (w : Word) : (encode (decodeMcr14 w)).isArm = true := by
  unfold decodeMcr14
  split <;> rfl

theorem decodeCoproc_isArm (w : Word) : (encode (decodeCoproc w)).isArm = true := by
  unfold decodeCoproc
  repeat' split
  · rfl
  · rfl
  · exact decodeMrc15_isArm w
  · exact decodeMrc14_isArm w
  · rfl
  · exact decodeMcr15_isArm w
  · exact decodeMcr14_isArm w
  · rfl

/-- The decoder gives an ARM word an instruction of the ARM set. -/
theorem decodeArm_isArm (w : Word) : (encode (decodeArm w)).isArm = true := by
  unfold decodeArm
  repeat' split
  · rfl
  · exact decodeCoproc_isArm w
  · exact decodeLsc_isArm w
  · rfl
  · rfl
  · exact decodeLsm_isArm w
  · rfl
  · exact decodeLsReg_isArm w
  · exact decodeLsImm_isArm w
  · exact decodeHalf_isArm w
  · exact decodeSwap_isArm w
  · exact decodeMultiply_isArm w
  · exact decodeControl_isArm w
  · exact decodeDpImm_isArm w
  · exact decodeDpRegShift_isArm w
  · exact decodeDpImmShift_isArm w

end Sys2Proof

namespace Sys2Proof.Machine

/-- Whatever an instruction does is sound, for a Thumb instruction in Thumb state. -/
theorem exec_sound (i : Instr) (s : State) :
    SoundFrom ((encode i).isArm = false → s.thumb = true) s (exec i s) := by
  cases i
  case condNever | tAddLow | tCmpLow | tMovLow | tBxHigh =>
    exact soundFrom_refused ..
  case and | eor | sub | rsb | add | adc | sbc | rsc | orr | bic =>
    exact dataOp_sound ..
  case tst | teq | cmp | cmn =>
    exact compareOp_sound ..
  case mov | mvn =>
    exact moveOp_sound ..
  case mrs =>
    exact execMrs_sound ..
  case msrReg =>
    exact execMsrReg_sound ..
  case msrImm =>
    exact execMsrImm_sound ..
  case bx =>
    exact execBx_sound ..
  case undControlImm | undControlOne | undControlOneR | undControlHigh | undControlLow | undControlEven |
      undMultiply | undSwapHigh | undSwapOdd | undSwapEven | undSignedStore | undSpace | undCoproc =>
    exact undefinedArm_sound ..
  case mul =>
    exact execMul_sound ..
  case mla =>
    exact execMla_sound ..
  case umull | umlal | smull | smlal =>
    exact longMultiply_sound ..
  case swp | swpb =>
    exact swapOp_sound ..
  case strh =>
    exact storeHalfOp_sound ..
  case ldrh | ldrsb | ldrsh =>
    exact loadHalfOp_sound ..
  case ldr | ldrPost | ldrt | ldrb | ldrbPost | ldrbt =>
    exact loadOp_sound ..
  case str | strPost | strt | strb | strbPost | strbt =>
    exact storeOp_sound ..
  case ldm =>
    exact execLdm_sound ..
  case ldmUser =>
    exact execLdmUser_sound ..
  case ldmRestore =>
    exact execLdmRestore_sound ..
  case stm =>
    exact execStm_sound ..
  case stmUser =>
    exact execStmUser_sound ..
  case b =>
    exact execB_sound ..
  case bl =>
    exact execBl_sound ..
  case ldcPre | ldcUp | ldcDown =>
    exact cpLoad_sound ..
  case stcPre | stcUp | stcDown =>
    exact cpStore_sound ..
  case cdp =>
    exact execCdp_sound ..
  case mcr =>
    exact execMcr_sound ..
  case mrc =>
    exact execMrc_sound ..
  case swi =>
    exact ifPassed_sound (raise_sound _ (.refl s))
  case mrcP15c0c0o0 | mrcP15c0c0o2 | mrcP15c0c0o3 | mrcP15c0c0o4 | mrcP15c0c0o5 | mrcP15c0c0o6 | mrcP15c0c0o7 |
      mrcP15c0c0o1 | mrcP15c1c0o0 | mrcP15c2c0o0 | mrcP15c2c0o1 | mrcP15c3c0o0 | mrcP15c5c0o0 | mrcP15c5c0o1 |
      mrcP15c6c0o0 | mrcP15c6c0o1 | mrcP15c6c1o0 | mrcP15c6c1o1 | mrcP15c6c2o0 | mrcP15c6c2o1 | mrcP15c6c3o0 |
      mrcP15c6c3o1 | mrcP15c6c4o0 | mrcP15c6c4o1 | mrcP15c6c5o0 | mrcP15c6c5o1 | mrcP15c6c6o0 | mrcP15c6c6o1 |
      mrcP15c6c7o0 | mrcP15c6c7o1 | mrcP15c9c0o0 | mrcP15c9c0o1 | mrcP15c15c0o0 =>
    exact cp15Read_sound ..
  case mcrP15c1c0o0 | mcrP15c2c0o0 | mcrP15c2c0o1 | mcrP15c3c0o0 | mcrP15c5c0o0 | mcrP15c5c0o1 | mcrP15c6c0o0 |
      mcrP15c6c0o1 | mcrP15c6c1o0 | mcrP15c6c1o1 | mcrP15c6c2o0 | mcrP15c6c2o1 | mcrP15c6c3o0 | mcrP15c6c3o1 |
      mcrP15c6c4o0 | mcrP15c6c4o1 | mcrP15c6c5o0 | mcrP15c6c5o1 | mcrP15c6c6o0 | mcrP15c6c6o1 | mcrP15c6c7o0 |
      mcrP15c6c7o1 | mcrP15c9c0o0 | mcrP15c9c0o1 | mcrP15c15c0o0 =>
    exact cp15Write_sound ..
  case mcrP15c7c5o0 | mcrP15c7c5o2 | mcrP15c7c6o0 | mcrP15c7c6o2 | mcrP15c7c10o2 | mcrP15c7c13o1 | mcrP15c7c14o2
      | mcrP15c7c0o4 | mcrP15c15c8o2 | mcrP15c7c10o4 =>
    exact cp15Op_sound ..
  case mcrP15c7c8o2 | mcrP15c7c5o1 =>
    exact cp15None_sound ..
  case mrcP14c0c0o0 =>
    exact execMrcP14c0c0o0_sound ..
  case mcrP14c1c0o0 =>
    exact execMcrP14c1c0o0_sound ..
  case mrcP14c1c0o0 =>
    exact execMrcP14c1c0o0_sound ..
  case tLslImm | tLsrImm | tAsrImm | tAddReg | tSubReg | tAddImm3 | tSubImm3 | tMovImm | tAddImm8 | tSubImm8 |
      tNeg | tAnd | tEor | tAdc | tSbc | tOrr | tBic | tMvn | tLslReg | tLsrReg | tAsrReg | tRorReg =>
    exact thumbWrite_sound ..
  case tCmpImm | tTst | tCmpReg | tCmn =>
    exact thumbCompare_sound ..
  case tMul =>
    exact execTMul_sound ..
  case tAddHi | tAddLoHi =>
    exact highAdd_sound (fun h => h rfl) ..
  case tCmpHi | tCmpLoHi =>
    exact highCompare_sound ..
  case tMovHi | tMovLoHi =>
    exact highWrite_sound (fun h => h rfl) ..
  case tBx =>
    exact execTBx_sound ..
  case tLdrPc | tLdrReg | tLdrImm | tLdrSp => exact thumbLoad_sound .word ..
  case tLdrbReg | tLdrbImm => exact thumbLoad_sound .byte ..
  case tLdrhReg | tLdrhImm => exact thumbLoad_sound .half ..
  case tLdsbReg => exact thumbLoad_sound .signedByte ..
  case tLdshReg => exact thumbLoad_sound .signedHalf ..
  case tStrReg | tStrImm | tStrSp => exact thumbStore_sound .word ..
  case tStrbReg | tStrbImm => exact thumbStore_sound .byte ..
  case tStrhReg | tStrhImm => exact thumbStore_sound .half ..
  case tAddPc | tAddSp | tAddSpImm | tSubSpImm | tBlFirst =>
    exact finish_setReg_sound ..
  case tPush =>
    exact execTPush_sound ..
  case tPop =>
    exact execTPop_sound (fun h => h rfl) ..
  case tUndB1 | tUndB2 | tUndB6 | tUndB8 | tUndBE | tUndCond | tSwi | tUndE8 =>
    exact raise_sound _ (.refl s)
  case tStmia =>
    exact execTStmia_sound ..
  case tLdmia =>
    exact execTLdmia_sound ..
  case tBeq | tBne | tBcs | tBcc | tBmi | tBpl | tBvs | tBvc | tBhi | tBls | tBge | tBlt | tBgt | tBle =>
    exact thumbCondBranch_sound (fun h => h rfl) ..
  case tB =>
    exact execTB_sound (fun h => h rfl) _
  case tBlSecond =>
    exact execTBlSecond_sound (fun h => h rfl) ..

end Sys2Proof.Machine
end

section
/-!
PROOFS. Every step keeps the invariant: every input does, in debug state every clock of the core does, and so does what
happens at an instruction boundary.
-/

namespace Sys2Proof.Machine

/-- Where the machine goes on, the invariant holds. -/
structure InvAfter (r : Result) : Prop where
  next : ∀ t, r = .next t → Inv t

theorem invAfter_next {t : State} (h : Inv t) : InvAfter (.next t) := by
  refine ⟨fun t' e => ?_⟩
  cases e
  exact h

theorem invAfter_refused (e : Refusal) : InvAfter (.refused e) := by
  refine ⟨fun t h => ?_⟩
  cases h

theorem invAfter_fault (e : Fault) : InvAfter (.fault e) := by
  refine ⟨fun t h => ?_⟩
  cases h

/-- The instruction of a fetched item belongs to the instruction set of the state. -/
theorem decodeFetched_thumb (thumb : Bool) (w : Word) (h : (encode (decodeFetched thumb w)).isArm = false) :
    thumb = true := by
  cases thumb
  · exact absurd (decodeArm_isArm w) (by rw [Bool.not_eq_true]; exact h)
  · rfl

/-- A fetched item that executes keeps the invariant. -/
theorem exec_inv {s t : State} {w : Word} (i : Inv s) (e : exec (decodeFetched s.thumb w) s = .next t) : Inv t :=
  ((exec_sound _ s).next t e).inv (decodeFetched_thumb s.thumb w) i

section
variable {s : State}

/-! The debug port. -/

theorem scanIr_inv (v : BitVec 4) (h : Inv s) : InvAfter (scanIr v s) := by
  unfold scanIr
  split
  · exact invAfter_refused _
  · exact invAfter_next h.congr

theorem Inv.afterIceRead (h : Inv s) (r : IceReg) : Inv (s.afterIceRead r) := by
  unfold State.afterIceRead
  split
  · exact h.congr
  · exact h.congr
  · exact h

theorem iceWrite_inv (r : IceReg) (v : Word) (h : Inv s) : InvAfter (iceWrite r v s) := by
  unfold iceWrite
  split
  case h_4 => exact invAfter_refused _
  all_goals exact invAfter_next h.congr

theorem update2_inv (v : BitVec 38) (h : Inv s) : InvAfter (update2 v s) := by
  unfold update2
  split
  · exact invAfter_refused _
  · rename_i r _
    split
    · exact iceWrite_inv _ _ h.congr
    · exact invAfter_next ((Inv.afterIceRead (s := s.draw.2) h.congr r).congr)

theorem update15_inv (v : BitVec 39) (h : Inv s) : InvAfter (update15 v s) := by
  unfold update15
  dsimp only
  split
  · exact invAfter_refused _
  · exact invAfter_next h.congr
  · exact invAfter_next h.congr
  · split
    · exact invAfter_refused _
    · exact invAfter_next h.congr
  · split <;> exact invAfter_next h.congr

theorem scanIntest_inv (v : BitVec 67) (h : Inv s) : InvAfter (scanIntest v s) := by
  unfold scanIntest
  split
  · exact invAfter_next h.congr
  · exact update2_inv _ h.congr
  · split
    · exact invAfter_refused _
    · exact invAfter_next h.congr
  · split
    · exact invAfter_refused _
    · exact invAfter_next h.congr
  · exact update15_inv _ h.congr
  · split
    · exact invAfter_next h.congr
    · exact invAfter_refused _

theorem scanSample_inv (v : BitVec 67) (h : Inv s) : InvAfter (scanSample v s) := by
  unfold scanSample
  split
  case h_7 =>
    split
    · exact invAfter_next h.congr
    · exact invAfter_refused _
  all_goals exact invAfter_next h.congr

theorem scanDr_inv (v : BitVec 67) (h : Inv s) : InvAfter (scanDr v s) := by
  unfold scanDr
  split
  case h_3 => exact scanIntest_inv v h
  case h_4 => exact scanSample_inv v h
  case h_5 => split <;> exact invAfter_next h.congr
  all_goals exact invAfter_next h.congr

/-! The core in debug state. -/

theorem Inv.showExec (h : Inv s) (w : Word) : Inv (s.showExec w) := h.congr

theorem Inv.clockIn (h : Inv s) : Inv s.clockIn.2 := by
  obtain ⟨⟨d, e⟩, -⟩ := clockIn_cases s
  rw [e]
  exact h.congr

theorem clockIn_thumb (s : State) : s.clockIn.2.thumb = s.thumb := by
  obtain ⟨⟨d, e⟩, -⟩ := clockIn_cases s
  rw [e]
  rfl

theorem Inv.exportWord (h : Inv s) : Inv (exportWord s) := by
  unfold Machine.exportWord
  split
  · exact h
  · exact h.congr

theorem debugRun_inv {w item : Word} {ins : List Word} (h : Inv s) :
    InvAfter (debugRun (decodeFetched s.thumb w) ins item s) := by
  refine ⟨fun t e => ?_⟩
  obtain ⟨-, u, hu, rfl⟩ := debugRun_next e
  have i : Inv u := exec_inv (s := { s with dbg := { s.dbg with dataIn := ins } }) h.congr hu
  exact Inv.exportWord i.congr

theorem debugClock_inv (h : Inv s) : InvAfter (debugClock s) := by
  unfold debugClock
  split
  · exact invAfter_next h.exportWord
  split
  · exact invAfter_next h.congr
  split
  · exact invAfter_next h.congr
  split
  · exact invAfter_next h.clockIn.congr
  · rename_i w _
    dsimp only
    split
    · exact invAfter_next h.congr
    · rw [show s.thumb = (s.clockIn.2.showExec w).thumb from (clockIn_thumb s).symm]
      exact debugRun_inv (h.clockIn.showExec w)

theorem systemDone_inv (p : State) (h : Inv s) : Inv (systemDone p.ilen s) := by
  have four : (4#32 * p.ilen).toNat % 4 = 0 := by
    unfold State.ilen
    split <;> decide
  exact (h.setPc (alignedFor_add h.aligned (alignedFor_of_four _ four))).congr

theorem debugRestart_inv (h : Inv s) : InvAfter (debugRestart s) := by
  unfold debugRestart
  split
  · exact invAfter_next h.congr
  · rename_i w _
    dsimp only
    split
    · unfold leaveDebug
      refine ⟨fun t e => ?_⟩
      cases hx : exec (decodeFetched s.thumb w) (s.showExec w) with
      | next u =>
        rw [hx] at e
        cases e
        exact (exec_inv (s := s.showExec w) h.congr hx).congr
      | fault f => rw [hx] at e; cases e
      | refused f => rw [hx] at e; cases e
    · unfold systemAccess
      refine ⟨fun t e => ?_⟩
      cases hx : exec (decodeFetched s.thumb w)
          { s.showExec w with dbg := { (s.showExec w).dbg with system := true } } with
      | next u =>
        rw [hx] at e
        cases e
        exact systemDone_inv _
          (exec_inv (s := { s.showExec w with dbg := { (s.showExec w).dbg with system := true } }) h.congr hx)
      | fault f => rw [hx] at e; cases e
      | refused f => rw [hx] at e; cases e
    · exact invAfter_refused _

theorem runTestIdle_inv (h : Inv s) : InvAfter (runTestIdle s) := by
  unfold runTestIdle
  split
  · exact invAfter_next h
  split
  · split
    · exact debugClock_inv h.congr
    · exact invAfter_next h
  · split
    · exact debugRestart_inv h.congr
    · exact invAfter_next h
  · exact invAfter_next h

/-! The inputs. -/

theorem whileTap_inv {f : State → Result} (h : Inv s) (hf : InvAfter (f s)) : InvAfter (whileTap f s) := by
  unfold whileTap
  split
  · exact hf
  · exact invAfter_next h

theorem applyInput_inv (i : Input) (h : Inv s) : InvAfter (applyInput i s) := by
  cases i with
  | pins p =>
    refine invAfter_next ?_
    split
    · exact h.congr
    · exact h.congr
  | busWrite cell v =>
    exact invAfter_next ⟨⟨memSet_wf v h.fits.mem cell.isLt, h.fits.addresses, h.fits.slots⟩, h.aligned, h.legal,
      ⟨h.clean.cpsr, h.clean.spsrFiq, h.clean.spsrIrq, h.clean.spsrSvc, h.clean.spsrAbt, h.clean.spsrUnd⟩⟩
  | busErrors es => exact invAfter_next h.congr
  | cpAnswers as => exact invAfter_next h.congr
  | scanIr v => exact whileTap_inv h (scanIr_inv v h)
  | scanDr v => exact whileTap_inv h (scanDr_inv v h)
  | runTestIdle => exact whileTap_inv h (runTestIdle_inv h)

theorem Inv.backgroundDrain (h : Inv s) : Inv (backgroundDrain s) :=
  h.kept (backgroundDrain_kept s) (backgroundDrain_fits h.fits)

theorem Inv.betweenInputs (h : Inv s) : Inv s.betweenInputs := by
  rcases betweenInputs_cases s with e | e <;> rw [e]
  · exact h
  · exact h.backgroundDrain

end

theorem applyInputs_inv (is : List Input) {s : State} (h : Inv s) : InvAfter (applyInputs is s) := by
  induction is generalizing s with
  | nil => exact invAfter_next h
  | cons i rest ih =>
    have hi := applyInput_inv i h.betweenInputs
    unfold applyInputs
    cases hx : applyInput i s.betweenInputs with
    | next t => exact ih (hi.next t hx)
    | fault e => exact invAfter_fault e
    | refused e => exact invAfter_refused e

section
variable {s : State}

/-! Around an instruction. -/

theorem Inv.afterInstruction (h : Inv s) : Inv (afterInstruction s) := by
  unfold Machine.afterInstruction
  split
  · exact h.congr
  split
  · exact h
  split
  · exact h.enterDebug ..
  · split
    · exact h.enterDebug ..
    · exact h.congr
  · split
    · exact h.enterDebug ..
    · exact h

theorem runDecoded_inv {i : Instr} (h : Inv s) (hi : (encode i).isArm = false → s.thumb = true) :
    InvAfter (runDecoded i s) := by
  unfold runDecoded
  refine ⟨fun t e => ?_⟩
  cases hx : exec i { s with busy := none } with
  | next u =>
    rw [hx] at e
    cases e
    exact (((exec_sound i { s with busy := none }).next u hx).inv hi h.congr).afterInstruction
  | fault f => rw [hx] at e; cases e
  | refused f => rw [hx] at e; cases e

/-- The CHAINOUT latch and the count of free values are all a watched fetch changes. -/
theorem watchFetch_cases (w : Word) (s : State) :
    ∃ ice n, watchFetch w s = { s with ice := ice, draws := n } := by
  unfold watchFetch
  split
  · exact ⟨_, _, rfl⟩
  · exact ⟨s.ice, s.draws, rfl⟩

theorem runFetched_inv (w : Word) (h : Inv s) : InvAfter (runFetched w s) := by
  obtain ⟨ice, n, e⟩ := watchFetch_cases w s
  unfold runFetched
  rw [e]
  split
  · exact invAfter_next (Inv.enterDebug h.congr ..)
  · exact runDecoded_inv h.congr (decodeFetched_thumb s.thumb w)

theorem runInstruction_inv (h : Inv s) : InvAfter (runInstruction s) := by
  unfold runInstruction
  split
  · rename_i w _
    exact runDecoded_inv h.congr fun hw => absurd (decodeFetched_thumb false w hw) Bool.false_ne_true
  · have hb : Inv s.beforeFetch := h.congr
    rcases fetch_cases s.beforeFetch with ⟨w, c, n, e⟩ | e | ⟨f, e⟩ <;> rw [e]
    · exact runFetched_inv w hb.congr
    · exact invAfter_next (inv_takeException _ hb.fits hb.clean).afterInstruction
    · exact invAfter_fault f

theorem interrupt_inv (e : Exc) (h : Inv s) : InvAfter (interrupt e s) :=
  have h' : Inv { s with busy := none, instrExec := false } := h.congr
  invAfter_next (inv_takeException e h'.fits h'.clean)

theorem boundary_inv (h : Inv s) : InvAfter (boundary s) := by
  unfold boundary
  split
  · unfold requested
    split
    · exact runInstruction_inv h
    · exact invAfter_next (Inv.enterDebug h.congr ..)
  split
  · exact interrupt_inv _ h
  split
  · exact interrupt_inv _ h
  · exact runInstruction_inv h

/-- A reset leaves clean status words, an empty write buffer and memory as it was. -/
theorem resetEntry_inv (h : Inv s) : Inv (resetEntry s) := by
  have hm : (resetState s).mem = s.mem := by simp only [resetState]
  have hw : (resetState s).wbuf = [] := by simp only [resetState]
  have hf : Fits (resetState s) := by
    refine ⟨?_, ?_, ?_⟩
    · rw [hm]; exact h.fits.mem
    · rw [hw]; exact Nat.zero_le _
    · rw [hw]; exact Nat.zero_le _
  have hc : CleanStatus (resetState s) := ⟨statusClean_idem _, statusClean_idem _, statusClean_idem _,
    statusClean_idem _, statusClean_idem _, statusClean_idem _⟩
  have t := inv_takeException .reset hf hc
  exact ⟨⟨t.fits.mem, t.fits.addresses, t.fits.slots⟩, t.aligned, t.legal,
    ⟨t.clean.cpsr, t.clean.spsrFiq, t.clean.spsrIrq, statusClean_idem _, t.clean.spsrAbt, t.clean.spsrUnd⟩⟩

theorem advance_inv (h : Inv s) : InvAfter (advance s) := by
  unfold advance
  split
  · exact invAfter_next h.congr
  split
  · exact invAfter_next (resetEntry_inv h)
  split
  · exact invAfter_next h.backgroundDrain
  split
  · exact invAfter_next h
  · exact boundary_inv (Inv.backgroundDrain h.congr)

theorem step_inv (h : Inv s) : InvAfter (step s) := by
  unfold step stepOnce
  split
  · exact advance_inv h.congr
  · rename_i now later _
    have hi := applyInputs_inv now (s := { s with inputs := later, instrExec := false }) h.congr
    split
    · rename_i t e
      exact advance_inv (hi.next t e)
    · exact ⟨hi.next⟩

end

/-- Settles O45: the invariant in its parts is kept by every input and by what the machine does after them. -/
theorem stepKeepsTheInvariant : Obligations.StepKeepsTheInvariant :=
  fun s t h e => (inv_iff t).mpr ((step_inv ((inv_iff s).mp h)).next t e)

/-- Settles O47: it is the outside part of `exec_sound`. -/
theorem instructionsKeepTheOutside : Obligations.InstructionsKeepTheOutside := by
  intro i s t hu e
  obtain ⟨pins, tap, ice, dbg, attached, busErrors, inputs, resetHeld, wbFifo, wbRawCoherent, draws⟩ :=
    ((exec_sound i s).next t e).outside hu
  exact ⟨pins, tap, ice, dbg, attached, busErrors, inputs, resetHeld, wbFifo, wbRawCoherent, draws⟩

end Sys2Proof.Machine
end

section
/-!
PROOFS. The register banks: which register of which mode is which place of the register file.
-/

namespace Sys2Proof.Machine

/-- The register number that a place of the register file has in the modes that use it. -/
def registerNumber (k : Fin 30) : BitVec 4 :=
  if k.val < 15 then BitVec.ofNat 4 k.val
  else if k.val < 22 then BitVec.ofNat 4 (k.val - 7)
  else BitVec.ofNat 4 (13 + (k.val - 22) % 2)

theorem registerNumber_regIndex {m : BitVec 5} {i : BitVec 4} (h : i ≠ 15#4) : registerNumber (regIndex m i) = i := by
  revert m i
  decide

/-- The columns of R31: the two modes share their register `i`. -/
abbrev SharesRegister (m m' : BitVec 5) (i : BitVec 4) : Prop :=
  m = m' ∨ ((m = modeUsr ∨ m = modeSys) ∧ (m' = modeUsr ∨ m' = modeSys)) ∨ i.toNat < 8 ∨
    (i.toNat < 13 ∧ m ≠ modeFiq ∧ m' ≠ modeFiq)

theorem regIndex_eq_iff_shares {m m' : BitVec 5} {i : BitVec 4} (hm : modeLegal m = true) (hm' : modeLegal m' = true)
    (hi : i ≠ 15#4) : regIndex m i = regIndex m' i ↔ SharesRegister m m' i := by
  revert m m' i
  decide

/-- Settles O34: a written place is read where the register numbers agree and the modes share the register. -/
theorem registerBanks : Obligations.RegisterBanks := by
  intro s m m' i j v hm hm' hi hj
  have place : regIndex m i = regIndex m' j ↔ i = j ∧ SharesRegister m m' i := by
    constructor
    · intro e
      have hij : i = j := by rw [← registerNumber_regIndex (m := m) hi, e, registerNumber_regIndex hj]
      subst hij
      exact ⟨rfl, (regIndex_eq_iff_shares hm hm' hi).mp e⟩
    · rintro ⟨rfl, hs⟩
      exact (regIndex_eq_iff_shares hm hm' hi).mpr hs
  rw [State.bankGet_bankSet]
  constructor
  · exact fun hij hs => if_pos (place.mpr ⟨hij, hs⟩)
  · rintro (hij | hs)
    · exact if_neg fun e => hij (place.mp e).1
    · exact if_neg fun e => hs (place.mp e).2

end Sys2Proof.Machine
end

section
/-!
PROOFS. The state after reset, and the debug communications channel.
-/

namespace Sys2Proof.Machine

/-- Every line of a cache after reset is invalid. -/
theorem Cache.empty_line_valid (g : Fin 4) (idx : Fin 64) : (Cache.empty.line g idx).valid = false := by
  simp [Cache.line, Cache.empty, Line.empty]

/-- Settles O39: the reset state is a closed term; what it says of every line and every region is a fact of its tables. -/
theorem stateAfterReset : Obligations.StateAfterReset := by
  have regions (side : Side) (n : Fin 8) : (State.reset.cp15.regions side)[n].enable = false := by
    cases side <;> simp [State.reset, Cp15.reset, Cp15.regions, Region.reset]
  exact ⟨by decide, rfl, rfl, rfl, rfl, rfl, rfl, rfl, rfl, rfl, regions, rfl, rfl, rfl,
    Cache.empty_line_valid, Cache.empty_line_valid, rfl, rfl, rfl, rfl, rfl⟩

/-- What an instruction's last step leaves, where its earlier ones moved neither the pc nor the T bit. -/
theorem finish_of_same {s t : State} (hr : s.room = true) (hd : t.dbg.active = s.dbg.active) (hp : t.pc = s.pc)
    (ht : t.thumb = s.thumb) : finish t = .next { t with pc := s.pc + s.ilen } := by
  rw [finish_room ((room_congr hd hp ht).trans hr), State.stepped, hp, State.ilen, ht, ← State.ilen]

section
variable {s : State} {rd cond : BitVec 4} (hr : s.room = true)
include hr

/-- A coprocessor's word goes to Rd (R385, R400, R432). -/
theorem transferIn_register {t : State} (h : rd ≠ 15#4) (v : Word) (hd : t.dbg.active = s.dbg.active) (hp : t.pc = s.pc)
    (hc : t.cpsr = s.cpsr) : transferIn rd v t = .next { t.setReg rd v with pc := s.pc + s.ilen } := by
  rw [transferIn, if_neg h]
  exact finish_of_same hr hd hp (congrArg (·.getLsbD 5) hc)

/-- A coprocessor's word goes to the flags where Rd = 15 (R385). -/
theorem transferIn_flags {t : State} (v : Word) (hd : t.dbg.active = s.dbg.active) (hp : t.pc = s.pc)
    (hc : t.cpsr = s.cpsr) :
    transferIn 15#4 v t =
      .next { t.setFlags (v.getLsbD 31) (v.getLsbD 30) (v.getLsbD 29) (v.getLsbD 28) with pc := s.pc + s.ilen } := by
  rw [transferIn, if_pos rfl]
  exact finish_of_same hr hd hp ((State.setFlags_thumb ..).trans (congrArg (·.getLsbD 5) hc))

end

/-- The top bits of the comms control register are its version. -/
theorem commsControl_getLsbD (s : State) {k : Nat} (h : 28 ≤ k) :
    s.commsControl.getLsbD k = Config.iceVersion.getLsbD (k - 28) := by
  change BitVec.getLsbD (w := 4 + 26 + 1 + 1) (_ ++ _ ++ _ ++ _) k = _
  rw [BitVec.getLsbD_append, BitVec.getLsbD_append, BitVec.getLsbD_append, if_neg (by omega), if_neg (by omega),
    if_neg (by omega), Nat.sub_sub, Nat.sub_sub]

/-! The accesses to CP14. -/

theorem exec_mrcP14c0c0o0 (cond rd : BitVec 4) (s : State) :
    exec (.mrcP14c0c0o0 cond rd) s = ifPassed cond s fun s => transferIn rd s.commsControl s.draw.2 := rfl

theorem exec_mcrP14c1c0o0 (cond rd : BitVec 4) (s : State) :
    exec (.mcrP14c1c0o0 cond rd) s = ifPassed cond s fun s =>
      if rd = 15#4 then .refused .r15Operand else finish { s with dcc := s.dcc.send (s.reg rd) } := rfl

theorem exec_mrcP14c1c0o0 (cond rd : BitVec 4) (s : State) :
    exec (.mrcP14c1c0o0 cond rd) s = ifPassed cond s fun s =>
      transferIn rd s.dcc.readData { s with dcc := s.dcc.receive } := rfl

theorem exec_mcr_cp14 (cond crn rd crm : BitVec 4) (op1 op2 : BitVec 3) (s : State) :
    exec (.mcr cond op1 crn rd 14#4 op2 crm) s = ifPassed cond s fun _ => .refused .cp14Reserved := rfl

theorem exec_mrc_cp14 (cond crn rd crm : BitVec 4) (op1 op2 : BitVec 3) (s : State) :
    exec (.mrc cond op1 crn rd 14#4 op2 crm) s = ifPassed cond s fun _ => .refused .cp14Reserved := rfl

/-- Settles O27: each access is one transfer of a word, or a refusal. -/
theorem debugCommsFromTheProcessor : Obligations.DebugCommsFromTheProcessor := by
  intro cond rd crn crm op1 op2 s hc hr
  rw [exec_mrcP14c0c0o0, exec_mcrP14c1c0o0, exec_mrcP14c1c0o0, exec_mcr_cp14, exec_mrc_cp14, ifPassed_passes hc,
    ifPassed_passes hc, ifPassed_passes hc, ifPassed_passes hc]
  refine ⟨rfl, by simp [State.commTx], fun _ => rfl, fun _ => rfl, ?_, ?_⟩
  · intro hd
    refine ⟨⟨(Config.freeWord s.draws).extractLsb' 2 26, ?_⟩, ?_, ?_⟩
    · exact transferIn_register hr hd s.commsControl rfl rfl rfl
    · exact (if_neg hd).trans (finish_of_same hr rfl rfl rfl)
    · exact transferIn_register hr hd s.dcc.readData rfl rfl rfl
  · rintro rfl
    refine ⟨?_, if_pos rfl, transferIn_flags hr s.dcc.readData rfl rfl rfl⟩
    refine (transferIn_flags (t := s.draw.2) hr s.commsControl rfl rfl rfl).trans ?_
    simp only [commsControl_getLsbD s (Nat.le_refl 28), commsControl_getLsbD s (show 28 ≤ 29 by decide),
      commsControl_getLsbD s (show 28 ≤ 30 by decide), commsControl_getLsbD s (show 28 ≤ 31 by decide)]
    rfl

end Sys2Proof.Machine
end

section
/-!
PROOFS. The transfers of the status registers: MRS and MSR.
-/

namespace Sys2Proof.Machine

/-! A status word by its fields. -/

/-- The flags, the reserved bits as zero, and the control byte. -/
theorem statusClean_fields (w : Word) : statusClean w = w.extractLsb' 28 4 ++ 0#20 ++ w.extractLsb' 0 8 := by
  apply BitVec.eq_of_getLsbD_eq
  intro i hi
  rw [statusClean, BitVec.getLsbD_and, statusMask_bit i hi, BitVec.getLsbD_append, BitVec.getLsbD_append]
  by_cases hl : i < 8
  · simp [hl]
  by_cases hh : i < 28
  · simp [hl, hh, show i - 8 < 20 by omega, show 8 ≤ i by omega]
  · simp [hl, hh, show ¬ i - 8 < 20 by omega, show 28 + (i - 8 - 20) = i by omega, show i - 8 - 20 < 4 by omega]

theorem fieldBytes_flags (mask : BitVec 4) :
    (fieldBytes mask).extractLsb' 28 4 = if mask.getLsbD 3 then BitVec.allOnes 4 else 0#4 := by
  revert mask
  decide

theorem fieldBytes_control (mask : BitVec 4) :
    (fieldBytes mask).extractLsb' 0 8 = if mask.getLsbD 0 then BitVec.allOnes 8 else 0#8 := by
  revert mask
  decide

/-- In User mode an MSR writes the byte of the flags at most. -/
theorem fieldBytes_user (mask : BitVec 4) : fieldBytes mask &&& 0xFF000000#32 = fieldBytes (mask &&& 8#4) := by
  revert mask
  decide

/-- A field of a merge is the new one or the old one. -/
theorem extractLsb'_select {a n : Nat} (old v bytes : Word) {b : Bool} (hn : a + n ≤ 32)
    (h : bytes.extractLsb' a n = if b then BitVec.allOnes n else 0#n) :
    ((old &&& ~~~bytes) ||| (v &&& bytes)).extractLsb' a n = if b then v.extractLsb' a n else old.extractLsb' a n := by
  have hbit (i : Nat) (hi : i < n) : bytes.getLsbD (a + i) = b := by
    have e := congrArg (·.getLsbD i) h
    cases b <;> simpa [hi] using e
  apply BitVec.eq_of_getLsbD_eq
  intro i hi
  have hw : a + i < 32 := by omega
  simp only [BitVec.getLsbD_extractLsb', BitVec.getLsbD_or, BitVec.getLsbD_and, BitVec.getLsbD_not, hbit i hi, hw]
  cases b <;> simp [hi]

/-- What an MSR leaves of a status word, by its fields. -/
def msrWord (mask : BitVec 4) (v old : Word) : Word :=
  (if mask.getLsbD 3 then v.extractLsb' 28 4 else old.extractLsb' 28 4) ++ 0#20 ++
    (if mask.getLsbD 0 then v.extractLsb' 0 8 else old.extractLsb' 0 8)

theorem statusMerge_fieldBytes (mask : BitVec 4) (v old : Word) :
    statusMerge old v (fieldBytes mask) = msrWord mask v old := by
  rw [statusMerge, statusClean_fields, extractLsb'_select _ _ _ (by decide) (fieldBytes_flags mask),
    extractLsb'_select _ _ _ (by decide) (fieldBytes_control mask), msrWord]

theorem msrWord_thumb (mask : BitVec 4) (v old : Word) :
    (msrWord mask v old).getLsbD 5 = (if mask.getLsbD 0 then v.extractLsb' 0 8 else old.extractLsb' 0 8).getLsbD 5 := by
  rw [msrWord, BitVec.getLsbD_append, if_pos (by decide)]

theorem msrWord_mode (mask : BitVec 4) (v old : Word) :
    (msrWord mask v old).extractLsb' 0 5 =
      (if mask.getLsbD 0 then v.extractLsb' 0 8 else old.extractLsb' 0 8).extractLsb' 0 5 := by
  apply BitVec.eq_of_getLsbD_eq
  intro i hi
  simp only [BitVec.getLsbD_extractLsb', msrWord, BitVec.getLsbD_append]
  rw [if_pos (by omega)]

/-- The mode of the control byte. -/
theorem extractLsb'_control_mode (w : Word) : (w.extractLsb' 0 8).extractLsb' 0 5 = w.extractLsb' 0 5 := by
  apply BitVec.eq_of_getLsbD_eq
  intro i hi
  simp [hi]

/-- MSR of User mode leaves all but the flags. -/
theorem msrWord_user (mask : BitVec 4) (v old : Word) :
    msrWord (mask &&& 8#4) v old =
      (if mask.getLsbD 3 then v.extractLsb' 28 4 else old.extractLsb' 28 4) ++ 0#20 ++ old.extractLsb' 0 8 := by
  have h3 : (mask &&& 8#4).getLsbD 3 = mask.getLsbD 3 := by revert mask; decide
  have h0 : (mask &&& 8#4).getLsbD 0 = false := by revert mask; decide
  simp only [msrWord, h3, h0, Bool.false_eq_true, ↓reduceIte]

/-! The two destinations of MSR. -/

section
variable {s : State} (hr : s.room = true)
include hr

/-- A status word with the old T bit and a legal mode goes to the CPSR. -/
theorem msrCpsr_writes {mask mask' : BitVec 4} {v : Word} (hb : s.cpsrBytes mask = fieldBytes mask')
    (ht : (msrWord mask' v s.cpsr).getLsbD 5 = s.thumb)
    (hm : modeLegal ((msrWord mask' v s.cpsr).extractLsb' 0 5) = true) :
    msrCpsr mask v s = .next { s with cpsr := msrWord mask' v s.cpsr, pc := s.pc + s.ilen } := by
  simp only [msrCpsr, hb, statusMerge_fieldBytes]
  rw [if_neg (not_not_intro ht), if_pos hm]
  exact finish_of_same hr rfl rfl ht

end

/-- MSR does not change the T bit (R281). -/
theorem msrCpsr_thumb {mask : BitVec 4} {v : Word} {s : State} (hb : s.cpsrBytes mask = fieldBytes mask)
    (ht : (msrWord mask v s.cpsr).getLsbD 5 ≠ s.thumb) : msrCpsr mask v s = .refused .msrThumb := by
  simp only [msrCpsr, hb, statusMerge_fieldBytes]
  exact if_pos ht

theorem msrCpsr_badMode {mask : BitVec 4} {v : Word} {s : State} (hb : s.cpsrBytes mask = fieldBytes mask)
    (ht : (msrWord mask v s.cpsr).getLsbD 5 = s.thumb)
    (hm : modeLegal ((msrWord mask v s.cpsr).extractLsb' 0 5) = false) : msrCpsr mask v s = .refused .badMode := by
  simp only [msrCpsr, hb, statusMerge_fieldBytes]
  rw [if_neg (not_not_intro ht), if_neg (ne_true_of_eq_false hm)]

/-- MSR to the SPSR of a mode that has one. -/
theorem msrSpsr_writes {mask : BitVec 4} {v : Word} {s : State} (hr : s.room = true) (hm : modeHasSpsr s.mode = true) :
    msrSpsr mask v s =
      .next { s.setSpsrOf s.mode (msrWord mask v (s.spsrOf s.mode)) with pc := s.pc + s.ilen } := by
  rw [msrSpsr, if_pos hm, statusMerge_fieldBytes]
  exact finish_of_same hr (by rw [State.setSpsrOf_dbg]) (by rw [State.setSpsrOf_pc]) (State.setSpsrOf_thumb ..)

/-- User and System mode have no SPSR (R36). -/
theorem modeHasSpsr_user {m : BitVec 5} (h : m = modeUsr ∨ m = modeSys) : modeHasSpsr m = false := by
  rcases h with rfl | rfl <;> rfl

/-! MRS. -/

section
variable {cond rd : BitVec 4} {s : State} (hc : s.passes cond = true) (hd : rd ≠ 15#4)
include hc hd

theorem exec_mrs_passes (r : BitVec 1) :
    exec (.mrs cond r 15#4 rd 0#4 0#4) s =
      if r = 0#1 then finish (s.setReg rd (statusClean s.cpsr))
      else if modeHasSpsr s.mode then finish (s.setReg rd (s.spsrOf s.mode))
      else .refused .noSpsr := by
  change execMrs cond r 15#4 rd 0#4 0#4 s = _
  rw [execMrs, ifPassed_passes hc, if_neg (by decide), if_neg hd]

theorem exec_mrs_cpsr (hr : s.room = true) :
    exec (.mrs cond 0#1 15#4 rd 0#4 0#4) s =
      .next { s.setReg rd (s.cpsr &&& 0xF00000FF#32) with pc := s.pc + s.ilen } := by
  rw [exec_mrs_passes hc hd, if_pos rfl]
  exact finish_of_same hr rfl rfl rfl

theorem exec_mrs_spsr (hr : s.room = true) {m : BitVec 5} (hm : s.mode = m) (hs : modeHasSpsr m = true) :
    exec (.mrs cond 1#1 15#4 rd 0#4 0#4) s =
      .next { s.setReg rd (s.spsrOf m) with pc := s.pc + s.ilen } := by
  subst hm
  rw [exec_mrs_passes hc hd, if_neg (by decide), if_pos hs]
  exact finish_of_same hr rfl rfl rfl

theorem exec_mrs_noSpsr (hm : modeHasSpsr s.mode = false) :
    exec (.mrs cond 1#1 15#4 rd 0#4 0#4) s = .refused .noSpsr := by
  rw [exec_mrs_passes hc hd, if_neg (by decide), if_neg (ne_true_of_eq_false hm)]

end

/-! MSR. -/

/-- Both forms of MSR write their operand. -/
theorem exec_msr_passes {cond mask rm rot : BitVec 4} {imm8 : BitVec 8} {s : State} (hc : s.passes cond = true)
    (hm : rm ≠ 15#4) (r : BitVec 1) :
    ∀ p ∈ ([(.msrReg cond r mask 15#4 0#4 rm, s.reg rm),
        (.msrImm cond r mask 15#4 rot imm8, (rotImm rot imm8 s.flagC).value)] : List (Instr × Word)),
      exec p.1 s = msrWrite r mask p.2 s := by
  simp only [List.forall_mem_cons, List.not_mem_nil, false_implies, implies_true, and_true]
  constructor
  · change execMsrReg cond r mask 15#4 0#4 rm s = _
    rw [execMsrReg, ifPassed_passes hc, if_neg (by decide), if_neg hm]
  · change execMsrImm cond r mask 15#4 rot imm8 s = _
    rw [execMsrImm, ifPassed_passes hc, if_neg (by decide)]

/-- The bytes that an MSR may write in a privileged mode and in debug state. -/
theorem cpsrBytes_free {s : State} (h : s.mode ≠ modeUsr ∨ s.dbg.active = true) (mask : BitVec 4) :
    s.cpsrBytes mask = fieldBytes mask := by
  rw [State.cpsrBytes, if_pos]
  simpa [State.privileged] using h

theorem cpsrBytes_user {s : State} (h : ¬ (s.mode ≠ modeUsr ∨ s.dbg.active = true)) (mask : BitVec 4) :
    s.cpsrBytes mask = fieldBytes (mask &&& 8#4) := by
  rw [State.cpsrBytes, if_neg, fieldBytes_user]
  simpa [State.privileged] using h

/-- In User mode only the flags change. -/
theorem msrCpsr_user {s : State} (h : ¬ (s.mode ≠ modeUsr ∨ s.dbg.active = true)) (hr : s.room = true)
    (mask : BitVec 4) (v : Word) :
    msrCpsr mask v s =
      .next { s with
        cpsr := (if mask.getLsbD 3 then v.extractLsb' 28 4 else s.cpsr.extractLsb' 28 4) ++ 0#20 ++
          s.cpsr.extractLsb' 0 8
        pc := s.pc + s.ilen } := by
  have hmode : s.mode = modeUsr := not_not.mp (not_or.mp h).1
  have h0 : (mask &&& 8#4).getLsbD 0 = false := by revert mask; decide
  have ht : (msrWord (mask &&& 8#4) v s.cpsr).getLsbD 5 = s.thumb := by
    rw [msrWord_thumb, h0]
    simp [State.thumb]
  have hm : modeLegal ((msrWord (mask &&& 8#4) v s.cpsr).extractLsb' 0 5) = true := by
    rw [msrWord_mode, h0, if_neg Bool.false_ne_true, extractLsb'_control_mode]
    exact congrArg modeLegal hmode
  rw [← msrWord_user]
  exact msrCpsr_writes hr (cpsrBytes_user h mask) ht hm

/-- Settles O7: each transfer by its destination, the mode, and the fields of the word written. -/
theorem statusRegisterTransfers : Obligations.StatusRegisterTransfers := by
  refine ⟨?_, ?_, ?_⟩
  · intro cond rd s hc hd hr
    exact ⟨exec_mrs_cpsr hc hd hr, fun h => exec_mrs_spsr hc hd hr h rfl, fun h => exec_mrs_spsr hc hd hr h rfl,
      fun h => exec_mrs_spsr hc hd hr h rfl, fun h => exec_mrs_spsr hc hd hr h rfl,
      fun h => exec_mrs_spsr hc hd hr h rfl, fun h => exec_mrs_noSpsr hc hd (modeHasSpsr_user h)⟩
  · intro cond mask rm rot imm8 s hc hm hr _ free p hp flags control
    rw [exec_msr_passes hc hm 0#1 p hp, msrWrite, if_pos rfl]
    refine ⟨fun h => msrCpsr_user h hr mask p.2, fun h ht hl => ?_, fun h ht => ?_, fun h ht hl => ?_⟩
    · exact msrCpsr_writes hr (cpsrBytes_free h mask) ((msrWord_thumb ..).trans ht)
        ((congrArg modeLegal (msrWord_mode ..)).trans hl)
    · exact msrCpsr_thumb (cpsrBytes_free h mask) fun e => ht ((msrWord_thumb ..).symm.trans e)
    · exact msrCpsr_badMode (cpsrBytes_free h mask) ((msrWord_thumb ..).trans ht)
        ((congrArg modeLegal (msrWord_mode ..)).trans hl)
  · intro cond mask rm rot imm8 s hc hm hr p hp new
    rw [exec_msr_passes hc hm 1#1 p hp, msrWrite, if_neg (by decide)]
    have writes {m : BitVec 5} (h : s.mode = m) (hs : modeHasSpsr m = true) :
        msrSpsr mask p.2 s = .next { s.setSpsrOf m (new (s.spsrOf m)) with pc := s.pc + s.ilen } := by
      subst h
      exact msrSpsr_writes hr hs
    exact ⟨fun h => writes h rfl, fun h => writes h rfl, fun h => writes h rfl, fun h => writes h rfl,
      fun h => writes h rfl, fun h => if_neg (ne_true_of_eq_false (modeHasSpsr_user h))⟩

end Sys2Proof.Machine
end

section
/-!
PROOFS. The UNPREDICTABLE forms of the ARM instructions: each shared meaning refuses its own, and the instructions are
these meanings.
-/

namespace Sys2Proof.Machine

/-- The first refusal of two is what an instruction is refused for. -/
theorem unlessRefused_orElse (a b : Option Refusal) (k : Result) :
    unlessRefused a (unlessRefused b k) = unlessRefused (a <|> b) k := by
  cases a <;> rfl

theorem unlessRefused_some {r : Option Refusal} {k : Result} {e : Refusal} (h : r = some e) :
    unlessRefused r k = .refused e := by
  subst h
  rfl

/-! Single transfers: the forms by their registers. -/

/-- The register forms that a single transfer refuses: R15 as its destination where that is barred, and those of the
addressing mode. -/
def transferForm (pcOk wb : Bool) (rn rd : BitVec 4) (rm : Option (BitVec 4)) : Option Refusal :=
  pcRefusal pcOk rd <|> indexRefusal wb rn rd rm

section
variable {pcOk wb : Bool} {rn rd : BitVec 4} {rm : Option (BitVec 4)}

theorem transferForm_pcOffset : transferForm pcOk wb rn rd (some 15#4) = some .r15Operand := by
  unfold transferForm pcRefusal
  split <;> rfl

theorem transferForm_pcBase : transferForm pcOk true 15#4 rd rm = some .r15Operand := by
  unfold transferForm pcRefusal indexRefusal
  split
  · rfl
  · simp

theorem transferForm_pcDestination : transferForm false wb rn 15#4 rm = some .r15Operand := rfl

theorem transferForm_offsetIsBase (hn : rn ≠ 15#4) (hd : rd ≠ 15#4) :
    transferForm pcOk true rn rd (some rn) = some .registerClash := by
  simp [transferForm, pcRefusal, indexRefusal, hn, hd]

theorem transferForm_destinationIsBase (hn : rn ≠ 15#4) (hm : rm ≠ some 15#4) :
    transferForm pcOk true rn rn rm = some .registerClash := by
  simp [transferForm, pcRefusal, indexRefusal, hn, hm]

end

section
variable {cond rn rd rm : BitVec 4} {p u w : BitVec 1} {s : State} {e : Refusal} {pcOk user : Bool}
  (hc : s.passes cond = true)
include hc

theorem loadOp_refused {k : LoadKind} {off : Offset2}
    (h : transferForm pcOk (p == 0#1 || w == 1#1) rn rd (offsetReg2 off) = some e) :
    loadOp k pcOk user cond p u w rn rd off s = .refused e := by
  rw [loadOp, ifPassed_passes hc, unlessRefused_orElse]
  exact unlessRefused_some h

theorem storeOp_refused {sz : Size} {off : Offset2}
    (h : transferForm pcOk (p == 0#1 || w == 1#1) rn rd (offsetReg2 off) = some e) :
    storeOp sz pcOk user cond p u w rn rd off s = .refused e := by
  rw [storeOp, ifPassed_passes hc, unlessRefused_orElse]
  exact unlessRefused_some h

/-- The forms that LDRH, LDRSB, LDRSH and STRH refuse. -/
def halfForm (p w : BitVec 1) (rn rd : BitVec 4) (off : Offset3) : Option Refusal :=
  halfRefusal p w off <|> transferForm false (p == 0#1 || w == 1#1) rn rd (offsetReg3 off)

theorem loadHalfOp_refused {k : LoadKind} {off : Offset3} (h : halfForm p w rn rd off = some e) :
    loadHalfOp k cond p u w rn rd off s = .refused e := by
  rw [loadHalfOp, ifPassed_passes hc, unlessRefused_orElse (pcRefusal false rd), unlessRefused_orElse]
  exact unlessRefused_some h

theorem storeHalfOp_refused {off : Offset3} (h : halfForm p w rn rd off = some e) :
    storeHalfOp cond p u w rn rd off s = .refused e := by
  rw [storeHalfOp, ifPassed_passes hc, unlessRefused_orElse (pcRefusal false rd), unlessRefused_orElse]
  exact unlessRefused_some h

end

theorem halfForm_shouldBe {p w : BitVec 1} {rn rd rm x : BitVec 4} (hx : x ≠ 0#4) :
    halfForm p w rn rd (.reg x rm) = some .shouldBe := by
  rw [halfForm, halfRefusal, if_pos hx]
  rfl

theorem halfForm_indexMode_imm {rn rd x y : BitVec 4} : halfForm 0#1 1#1 rn rd (.imm x y) = some .indexMode := rfl

theorem halfForm_indexMode_reg {rn rd rm : BitVec 4} : halfForm 0#1 1#1 rn rd (.reg 0#4 rm) = some .indexMode := rfl

/-- A form with its should-be field and its indexing in order is judged by its registers. -/
theorem halfForm_pre (w : BitVec 1) (rn rd x y rm : BitVec 4) :
    halfForm 1#1 w rn rd (.imm x y) = transferForm false (w == 1#1) rn rd none ∧
      halfForm 1#1 w rn rd (.reg 0#4 rm) = transferForm false (w == 1#1) rn rd (some rm) := by
  simp [halfForm, halfRefusal, offsetReg3]

theorem halfForm_post (rn rd x y rm : BitVec 4) :
    halfForm 0#1 0#1 rn rd (.imm x y) = transferForm false true rn rd none ∧
      halfForm 0#1 0#1 rn rd (.reg 0#4 rm) = transferForm false true rn rd (some rm) := ⟨rfl, rfl⟩

/-- The four transfers of addressing mode 3 refuse these forms. -/
theorem halfTransfer_refused {cond : BitVec 4} {s : State} (hc : s.passes cond = true) :
    ∀ q ∈ ([(.ldrh cond), (.ldrsb cond), (.ldrsh cond), (.strh cond)] :
        List (BitVec 1 → BitVec 1 → BitVec 1 → BitVec 4 → BitVec 4 → Offset3 → Instr)),
      ∀ {p u w rn rd off e}, halfForm p w rn rd off = some e → exec (q p u w rn rd off) s = .refused e := by
  simp only [List.forall_mem_cons, List.not_mem_nil, false_implies, implies_true, and_true]
  exact ⟨loadHalfOp_refused hc, loadHalfOp_refused hc, loadHalfOp_refused hc, storeHalfOp_refused hc⟩

/-- The transfers of addressing mode 2: offset and pre-indexed, post-indexed, and with User privilege. -/
theorem wordTransfer_refused {cond : BitVec 4} {u : BitVec 1} {s : State} (hc : s.passes cond = true) :
    ∀ q ∈ ([(.ldr cond u, .ldrPost cond u, .ldrt cond u), (.ldrb cond u, .ldrbPost cond u, .ldrbt cond u),
        (.str cond u, .strPost cond u, .strt cond u), (.strb cond u, .strbPost cond u, .strbt cond u)] :
        List ((BitVec 1 → BitVec 4 → BitVec 4 → Offset2 → Instr) × (BitVec 4 → BitVec 4 → Offset2 → Instr) ×
          (BitVec 4 → BitVec 4 → Offset2 → Instr))),
      ∀ {rn rd : BitVec 4} {off : Offset2} {e : Refusal},
        (∀ {w}, (∀ pcOk, transferForm pcOk (w == 1#1) rn rd (offsetReg2 off) = some e) →
          exec (q.1 w rn rd off) s = .refused e) ∧
        ((∀ pcOk, transferForm pcOk true rn rd (offsetReg2 off) = some e) →
          exec (q.2.1 rn rd off) s = .refused e ∧ exec (q.2.2 rn rd off) s = .refused e) := by
  simp only [List.forall_mem_cons, List.not_mem_nil, false_implies, implies_true, and_true]
  refine ⟨?_, ?_, ?_, ?_⟩ <;> intro rn rd off e
  · exact ⟨fun h => loadOp_refused hc (h true), fun h => ⟨loadOp_refused hc (h true), loadOp_refused hc (h false)⟩⟩
  · exact ⟨fun h => loadOp_refused hc (h false), fun h => ⟨loadOp_refused hc (h false), loadOp_refused hc (h false)⟩⟩
  · exact ⟨fun h => storeOp_refused hc (h true), fun h => ⟨storeOp_refused hc (h true), storeOp_refused hc (h true)⟩⟩
  · exact ⟨fun h => storeOp_refused hc (h false), fun h => ⟨storeOp_refused hc (h false), storeOp_refused hc (h false)⟩⟩

/-! Data processing, multiplies, status registers and swaps. -/

section
variable {cond rd rn rs rm x : BitVec 4} {sf : BitVec 1} {s : State} {e : Refusal} (hc : s.passes cond = true)
include hc

theorem moveOp_shouldBe {op : DpOp} {op2 : Operand2} (h : rn ≠ 0#4) :
    moveOp op cond sf rn rd op2 s = .refused .shouldBe := by
  rw [moveOp, ifPassed_passes hc, if_neg h]

theorem compareOp_shouldBe {op : DpOp} {op2 : Operand2} (h : rd ≠ 0#4) :
    compareOp op cond rn rd op2 s = .refused .shouldBe := by
  rw [compareOp, ifPassed_passes hc, if_neg h]

theorem execMul_shouldBe (h : x ≠ 0#4) : execMul cond sf rd x rs rm s = .refused .shouldBe := by
  rw [execMul, ifPassed_passes hc, if_pos h]

theorem execMul_pc (h : rd = 15#4 ∨ rs = 15#4 ∨ rm = 15#4) : execMul cond sf rd 0#4 rs rm s = .refused .r15Operand := by
  rw [execMul, ifPassed_passes hc, if_neg (by decide), if_pos h]

theorem execMul_clash (hd : rd ≠ 15#4) (hs : rs ≠ 15#4) : execMul cond sf rd 0#4 rs rd s = .refused .registerClash := by
  rw [execMul, ifPassed_passes hc, if_neg (by decide), if_neg (by simp [hd, hs]), if_pos rfl]

theorem execMla_pc (h : rd = 15#4 ∨ rn = 15#4 ∨ rs = 15#4 ∨ rm = 15#4) :
    execMla cond sf rd rn rs rm s = .refused .r15Operand := by
  rw [execMla, ifPassed_passes hc, if_pos h]

theorem execMla_clash (hd : rd ≠ 15#4) (hn : rn ≠ 15#4) (hs : rs ≠ 15#4) :
    execMla cond sf rd rn rs rd s = .refused .registerClash := by
  rw [execMla, ifPassed_passes hc, if_neg (by simp [hd, hn, hs]), if_pos rfl]

theorem longMultiply_refused {signed accumulate : Bool} (h : longRefusal rd rn rs rm = some e) :
    longMultiply signed accumulate cond sf rd rn rs rm s = .refused e := by
  rw [longMultiply, ifPassed_passes hc, h]

theorem swapOp_shouldBe {sz : Size} {k : LoadKind} (h : x ≠ 0#4) :
    swapOp sz k cond rn rd x rm s = .refused .shouldBe := by
  rw [swapOp, ifPassed_passes hc, if_pos h]

theorem swapOp_pc {sz : Size} {k : LoadKind} (h : rn = 15#4 ∨ rd = 15#4 ∨ rm = 15#4) :
    swapOp sz k cond rn rd 0#4 rm s = .refused .r15Operand := by
  rw [swapOp, ifPassed_passes hc, if_neg (by decide), if_pos h]

theorem swapOp_clash {sz : Size} {k : LoadKind} (hn : rn ≠ 15#4) (hd : rd ≠ 15#4) (hm : rm ≠ 15#4)
    (h : rn = rd ∨ rn = rm) : swapOp sz k cond rn rd 0#4 rm s = .refused .registerClash := by
  rw [swapOp, ifPassed_passes hc, if_neg (by decide), if_neg (by simp [hn, hd, hm]), if_pos h]

variable {sbo sbz sbz' : BitVec 4} {r : BitVec 1}

theorem execMrs_shouldBe (h : sbo ≠ 15#4 ∨ sbz ≠ 0#4 ∨ sbz' ≠ 0#4) :
    execMrs cond r sbo rd sbz sbz' s = .refused .shouldBe := by
  rw [execMrs, ifPassed_passes hc, if_pos h]

theorem execMrs_pc : execMrs cond r 15#4 15#4 0#4 0#4 s = .refused .r15Operand := by
  rw [execMrs, ifPassed_passes hc, if_neg (by decide), if_pos rfl]

theorem execMsrReg_shouldBe {mask : BitVec 4} (h : sbo ≠ 15#4 ∨ sbz ≠ 0#4) :
    execMsrReg cond r mask sbo sbz rm s = .refused .shouldBe := by
  rw [execMsrReg, ifPassed_passes hc, if_pos h]

theorem execMsrReg_pc {mask : BitVec 4} : execMsrReg cond r mask 15#4 0#4 15#4 s = .refused .r15Operand := by
  rw [execMsrReg, ifPassed_passes hc, if_neg (by decide), if_pos rfl]

theorem execMsrImm_shouldBe {mask rot : BitVec 4} {imm8 : BitVec 8} (h : sbo ≠ 15#4) :
    execMsrImm cond r mask sbo rot imm8 s = .refused .shouldBe := by
  rw [execMsrImm, ifPassed_passes hc, if_pos h]

end

theorem longRefusal_pc {rdHi rdLo rs rm : BitVec 4} (h : rdHi = 15#4 ∨ rdLo = 15#4 ∨ rs = 15#4 ∨ rm = 15#4) :
    longRefusal rdHi rdLo rs rm = some .r15Operand := if_pos h

theorem longRefusal_clash {rdHi rdLo rs rm : BitVec 4} (hh : rdHi ≠ 15#4) (hl : rdLo ≠ 15#4) (hs : rs ≠ 15#4)
    (hm : rm ≠ 15#4) (h : rdHi = rdLo ∨ rdHi = rm ∨ rdLo = rm) : longRefusal rdHi rdLo rs rm = some .registerClash := by
  rw [longRefusal, if_neg (by simp [hh, hl, hs, hm]), if_pos h]

/-- The four long multiplies refuse these operands. -/
theorem longMultiplies_refused {cond : BitVec 4} {sf : BitVec 1} {s : State} (hc : s.passes cond = true) :
    ∀ long ∈ ([.umull cond sf, .umlal cond sf, .smull cond sf, .smlal cond sf] :
        List (BitVec 4 → BitVec 4 → BitVec 4 → BitVec 4 → Instr)),
      ∀ {rdHi rdLo rs rm e}, longRefusal rdHi rdLo rs rm = some e → exec (long rdHi rdLo rs rm) s = .refused e := by
  simp only [List.forall_mem_cons, List.not_mem_nil, false_implies, implies_true, and_true]
  exact ⟨longMultiply_refused hc, longMultiply_refused hc, longMultiply_refused hc, longMultiply_refused hc⟩

/-! Block transfers. -/

/-- The lowest register of a list. -/
theorem regsOf_head {list : BitVec 16} {i : BitVec 4} (h : (regsOf list).head? = some i) :
    ∀ j < i.toNat, list.getLsbD j = false := by
  rw [regsOf, List.head?_map, List.head?_filter, Option.map_eq_some_iff] at h
  obtain ⟨k, hk, rfl⟩ := h
  obtain ⟨-, hlt, hbelow⟩ := List.find?_range_eq_some.mp hk
  intro j hj
  have : k % 2 ^ 4 = k := Nat.mod_eq_of_lt (List.mem_range.mp hlt)
  simpa using hbelow j (by rwa [BitVec.toNat_ofNat, this] at hj)

theorem storedBaseRefusal_higher {rn : BitVec 4} {list : BitVec 16} (h : list.getLsbD rn.toNat = true)
    (hj : ∃ j, j < rn.toNat ∧ list.getLsbD j = true) : storedBaseRefusal 1#1 rn list = some .blockForm := by
  refine if_pos ⟨rfl, h, fun hh => ?_⟩
  obtain ⟨j, hlt, hbit⟩ := hj
  rw [regsOf_head hh j hlt] at hbit
  cases hbit

/-- A list with the pc in it is not empty. -/
theorem listWithPc_ne_zero (low : BitVec 15) : (1#1 ++ low : BitVec 16) ≠ 0#16 := by
  intro h
  have := congrArg (·.getLsbD 15) h
  rw [BitVec.getLsbD_append] at this
  cases this

/-- Below the pc, the list with the pc in it is the list. -/
theorem inList_listWithPc (low : BitVec 15) {rn : BitVec 4} (h : rn ≠ 15#4) :
    inList (1#1 ++ low) rn = low.getLsbD rn.toNat := by
  rw [inList, BitVec.getLsbD_append, if_pos]
  have : rn.toNat ≠ 15 := fun e => h (BitVec.eq_of_toNat_eq e)
  omega

section
variable {cond rn : BitVec 4} {p u w : BitVec 1} {list : BitVec 16} {low : BitVec 15} {s : State} {e : Refusal}
  (hc : s.passes cond = true)
include hc

theorem execLdm_refused (h : (blockRefusal rn list <|> baseRefusal w rn list) = some e) :
    execLdm cond p u w rn list s = .refused e := by
  rw [execLdm, ifPassed_passes hc, unlessRefused_orElse]
  exact unlessRefused_some h

theorem execStm_refused (h : (blockRefusal rn list <|> storedBaseRefusal w rn list) = some e) :
    execStm cond p u w rn list s = .refused e := by
  rw [execStm, ifPassed_passes hc, unlessRefused_orElse]
  exact unlessRefused_some h

theorem execLdmUser_refused (h : (blockRefusal rn (0#1 ++ low) <|> userRefusal w s) = some e) :
    execLdmUser cond p u w rn low s = .refused e := by
  rw [execLdmUser, ifPassed_passes hc, unlessRefused_orElse]
  exact unlessRefused_some h

theorem execStmUser_refused (h : (blockRefusal rn list <|> userRefusal w s) = some e) :
    execStmUser cond p u w rn list s = .refused e := by
  rw [execStmUser, ifPassed_passes hc, unlessRefused_orElse]
  exact unlessRefused_some h

theorem execLdmRestore_refused (h : (blockRefusal rn (1#1 ++ low) <|> baseRefusal w rn (1#1 ++ low)) = some e) :
    execLdmRestore cond p u w rn low s = .refused e := by
  rw [execLdmRestore, ifPassed_passes hc, unlessRefused_orElse]
  exact unlessRefused_some h

theorem execLdmRestore_noSpsr (hn : rn ≠ 15#4) (hl : low.getLsbD rn.toNat = false) (hm : modeHasSpsr s.mode = false) :
    execLdmRestore cond p u w rn low s = .refused .noSpsr := by
  have hb : blockRefusal rn (1#1 ++ low) = none := if_neg (not_or.mpr ⟨listWithPc_ne_zero low, hn⟩)
  have hw : baseRefusal w rn (1#1 ++ low) = none := by
    refine if_neg fun h => ?_
    rw [inList_listWithPc low hn, hl] at h
    cases h.2
  rw [execLdmRestore, ifPassed_passes hc, hb, hw, hm]
  rfl

end

theorem blockRefusal_some {rn : BitVec 4} {list : BitVec 16} (h : list = 0#16 ∨ rn = 15#4) (r : Option Refusal) :
    (blockRefusal rn list <|> r) = some .blockForm := by
  rw [blockRefusal, if_pos h]
  rfl

/-- A block transfer that its second check refuses too is refused for its form. -/
theorem blockRefusal_or {rn : BitVec 4} {list : BitVec 16} {r : Option Refusal} (h : r = some .blockForm) :
    (blockRefusal rn list <|> r) = some .blockForm := by
  subst h
  unfold blockRefusal
  split <;> rfl

theorem baseRefusal_listed {rn : BitVec 4} {list : BitVec 16} (h : inList list rn = true) :
    baseRefusal 1#1 rn list = some .blockForm := if_pos ⟨rfl, h⟩

theorem userRefusal_writeback (s : State) : userRefusal 1#1 s = some .blockForm := if_pos (.inl rfl)

theorem userRefusal_userMode {s : State} (w : BitVec 1) (h : s.mode = modeUsr ∨ s.mode = modeSys) :
    userRefusal w s = some .blockForm := if_pos (.inr h)

/-- Settles O15: each form is refused by the meaning it shares with its kind. -/
theorem unpredictableForms : Obligations.UnpredictableForms := by
  intro cond rn rd ra rs rm x y z rot sf r p u w imm8 op2 off n ty list low s hc refused
  simp only [refused, List.forall_mem_cons (α := Instr), List.not_mem_nil, false_implies, implies_true, and_true]
  refine ⟨?_, ?_, ?_, ?_, ?_, ?_, ?_, ?_, ?_, ?_, ?_, ?_, ?_, ?_⟩
  · intro hx
    have half := halfTransfer_refused hc
    simp only [List.forall_mem_cons, List.not_mem_nil, false_implies, implies_true, and_true] at half
    obtain ⟨ldrh, ldrsb, ldrsh, strh⟩ := half
    exact ⟨moveOp_shouldBe hc hx, moveOp_shouldBe hc hx, compareOp_shouldBe hc hx, compareOp_shouldBe hc hx,
      compareOp_shouldBe hc hx, compareOp_shouldBe hc hx, execMul_shouldBe hc hx, swapOp_shouldBe hc hx,
      swapOp_shouldBe hc hx, execMrs_shouldBe hc (.inr (.inl hx)), execMrs_shouldBe hc (.inr (.inr hx)),
      execMsrReg_shouldBe hc (.inr hx), ldrh (halfForm_shouldBe hx), ldrsb (halfForm_shouldBe hx),
      ldrsh (halfForm_shouldBe hx), strh (halfForm_shouldBe hx)⟩
  · exact fun hx => ⟨execMrs_shouldBe hc (.inl hx), execMsrReg_shouldBe hc (.inl hx), execMsrImm_shouldBe hc hx⟩
  · exact ⟨execMrs_pc hc, execMsrReg_pc hc, execMul_pc hc (by simp), execMul_pc hc (by simp), execMul_pc hc (by simp),
      execMla_pc hc (by simp), execMla_pc hc (by simp), execMla_pc hc (by simp), execMla_pc hc (by simp),
      swapOp_pc hc (by simp), swapOp_pc hc (by simp), swapOp_pc hc (by simp), swapOp_pc hc (by simp),
      swapOp_pc hc (by simp), swapOp_pc hc (by simp)⟩
  · intro long hlong
    have h {rdHi rdLo rs rm e} (hr : longRefusal rdHi rdLo rs rm = some e) := longMultiplies_refused hc long hlong hr
    exact ⟨⟨h (longRefusal_pc (by simp)), h (longRefusal_pc (by simp)), h (longRefusal_pc (by simp)),
        h (longRefusal_pc (by simp))⟩, fun hx hy hz => ⟨h (longRefusal_clash hx hx hy hz (by simp)),
        h (longRefusal_clash hx hy hz hx (by simp)), h (longRefusal_clash hy hx hz hx (by simp))⟩⟩
  · exact fun hx hy hz => ⟨execMul_clash hc hx hy, execMla_clash hc hx hy hz, swapOp_clash hc hx hx hy (.inl rfl),
      swapOp_clash hc hx hx hy (.inl rfl), swapOp_clash hc hx hy hx (.inr rfl), swapOp_clash hc hx hy hx (.inr rfl)⟩
  · have half := halfTransfer_refused hc
    simp only [List.forall_mem_cons, List.not_mem_nil, false_implies, implies_true, and_true] at half
    obtain ⟨ldrh, ldrsb, ldrsh, strh⟩ := half
    exact ⟨ldrh halfForm_indexMode_imm, ldrh halfForm_indexMode_reg, ldrsb halfForm_indexMode_imm,
      ldrsb halfForm_indexMode_reg, ldrsh halfForm_indexMode_imm, ldrsh halfForm_indexMode_reg,
      strh halfForm_indexMode_imm, strh halfForm_indexMode_reg⟩
  · intro q hq
    have pre {w rn rd e} (x y : BitVec 4) (h : transferForm false (w == 1#1) rn rd none = some e) :=
      halfTransfer_refused hc q hq (u := u) ((halfForm_pre w rn rd x y x).1.trans h)
    have preReg {w rn rd rm e} (h : transferForm false (w == 1#1) rn rd (some rm) = some e) :=
      halfTransfer_refused hc q hq (u := u) ((halfForm_pre w rn rd 0#4 0#4 rm).2.trans h)
    have post {rn rd e} (x y : BitVec 4) (h : transferForm false true rn rd none = some e) :=
      halfTransfer_refused hc q hq (u := u) ((halfForm_post rn rd x y x).1.trans h)
    have postReg {rn rd rm e} (h : transferForm false true rn rd (some rm) = some e) :=
      halfTransfer_refused hc q hq (u := u) ((halfForm_post rn rd 0#4 0#4 rm).2.trans h)
    refine ⟨⟨pre x y transferForm_pcDestination, post x y transferForm_pcDestination,
        preReg transferForm_pcDestination, postReg transferForm_pcDestination, preReg transferForm_pcOffset,
        postReg transferForm_pcOffset, pre x y transferForm_pcBase, post x y transferForm_pcBase,
        preReg transferForm_pcBase, postReg transferForm_pcBase⟩, fun hn hd => ?_, fun hn hm => ?_⟩
    · exact ⟨preReg (transferForm_offsetIsBase hn hd), postReg (transferForm_offsetIsBase hn hd)⟩
    · have hm' : some rm ≠ some 15#4 := fun e => hm (Option.some.inj e)
      exact ⟨pre x y (transferForm_destinationIsBase hn nofun), post x y (transferForm_destinationIsBase hn nofun),
        preReg (transferForm_destinationIsBase hn hm'), postReg (transferForm_destinationIsBase hn hm')⟩
  · intro q hq
    have pre {w rn rd off e} (h : ∀ pcOk, transferForm pcOk (w == 1#1) rn rd (offsetReg2 off) = some e) :=
      (wordTransfer_refused (u := u) hc q hq).1 h
    have post {rn rd off e} (h : ∀ pcOk, transferForm pcOk true rn rd (offsetReg2 off) = some e) :=
      (wordTransfer_refused (u := u) hc q hq).2 h
    refine ⟨?_, fun hn hd => ?_, fun hn hoff => ?_⟩
    · exact ⟨pre fun _ => transferForm_pcOffset, (post fun _ => transferForm_pcOffset).1,
        (post fun _ => transferForm_pcOffset).2, pre fun _ => transferForm_pcBase,
        (post fun _ => transferForm_pcBase).1, (post fun _ => transferForm_pcBase).2⟩
    · exact ⟨pre fun _ => transferForm_offsetIsBase hn hd, post fun _ => transferForm_offsetIsBase hn hd⟩
    · exact ⟨pre fun _ => transferForm_destinationIsBase hn hoff, post fun _ => transferForm_destinationIsBase hn hoff⟩
  · exact ⟨loadOp_refused hc transferForm_pcDestination, loadOp_refused hc transferForm_pcDestination,
      loadOp_refused hc transferForm_pcDestination, loadOp_refused hc transferForm_pcDestination,
      storeOp_refused hc transferForm_pcDestination, storeOp_refused hc transferForm_pcDestination,
      storeOp_refused hc transferForm_pcDestination⟩
  · exact ⟨execLdm_refused hc (blockRefusal_some (.inl rfl) _), execLdm_refused hc (blockRefusal_some (.inr rfl) _),
      execLdmUser_refused hc (blockRefusal_some (.inl rfl) _), execLdmUser_refused hc (blockRefusal_some (.inr rfl) _),
      execLdmRestore_refused hc (blockRefusal_some (.inr rfl) _), execStm_refused hc (blockRefusal_some (.inl rfl) _),
      execStm_refused hc (blockRefusal_some (.inr rfl) _), execStmUser_refused hc (blockRefusal_some (.inl rfl) _),
      execStmUser_refused hc (blockRefusal_some (.inr rfl) _),
      execLdmUser_refused hc (blockRefusal_or (userRefusal_writeback s)),
      execStmUser_refused hc (blockRefusal_or (userRefusal_writeback s))⟩
  · exact fun h => execLdm_refused hc (blockRefusal_or (baseRefusal_listed h))
  · exact fun h hj => execStm_refused hc (blockRefusal_or (storedBaseRefusal_higher h hj))
  · intro h
    refine execLdmRestore_refused hc ?_
    by_cases hn : rn = 15#4
    · exact blockRefusal_some (.inr hn) _
    · exact blockRefusal_or (baseRefusal_listed ((inList_listWithPc low hn).trans h))
  · intro hm
    have noSpsr := modeHasSpsr_user hm
    refine ⟨⟨execLdmUser_refused hc (blockRefusal_or (userRefusal_userMode w hm)),
        execStmUser_refused hc (blockRefusal_or (userRefusal_userMode w hm))⟩, fun hd => exec_mrs_noSpsr hc hd noSpsr,
        fun hm => ?_, fun hn hl => execLdmRestore_noSpsr hc hn hl noSpsr⟩
    have msr := exec_msr_passes (mask := y) (rot := rot) (imm8 := imm8) hc hm 1#1
    simp only [List.forall_mem_cons, List.not_mem_nil, false_implies, implies_true, and_true] at msr
    have write (v : Word) : msrWrite 1#1 y v s = .refused .noSpsr := if_neg (ne_true_of_eq_false noSpsr)
    exact ⟨msr.1.trans (write _), msr.2.trans (write _)⟩

end Sys2Proof.Machine
end

section
/-!
PROOFS. The conditions: every word of the ARM set has its condition in bits 31:28, and its instruction runs under it.
-/

namespace Sys2Proof.Machine

/-- The code word begins with the four bits `cond`. -/
inductive Heads (cond : BitVec 4) : {n : Nat} → BitVec n → Prop
  | self : Heads cond cond
  | append {n m : Nat} {x : BitVec n} (y : BitVec m) : Heads cond x → Heads cond (x ++ y)

theorem Heads.width {cond : BitVec 4} {n : Nat} {x : BitVec n} (h : Heads cond x) : 4 ≤ n := by
  induction h with
  | self => exact Nat.le_refl 4
  | append _ _ ih => omega

theorem Heads.top {cond : BitVec 4} {n : Nat} {x : BitVec n} (h : Heads cond x) : fld x (n - 4) 4 = cond := by
  induction h with
  | self => exact Laws.fld_whole cond
  | @append n m x y hx ih =>
    have := hx.width
    refine (Laws.fld_append_high x y (by omega)).trans ?_
    rw [show n + m - 4 - m = n - 4 by omega, ih]

/-- The result is what an instruction under this condition gives (R203, R204). -/
def Conditional (cond : BitVec 4) (s : State) (r : Result) : Prop := ∃ f, r = ifPassed cond s f

/-- If the term is an ARM instruction, it runs under the condition in its word. -/
def RunsUnderItsCondition (i : Instr) : Prop :=
  ∀ w, encode i = .arm w → ∀ s, Conditional (fld w 28 4) s (exec i s)

theorem RunsUnderItsCondition.arm {i : Instr} {cond : BitVec 4} {w : Word} (e : encode i = .arm w) (hw : Heads cond w)
    (h : ∀ s, Conditional cond s (exec i s)) : RunsUnderItsCondition i := by
  intro w' e' s
  cases e.symm.trans e'
  exact hw.top ▸ h s

theorem RunsUnderItsCondition.thumb {i : Instr} {h : BitVec 16} (e : encode i = .thumb h) : RunsUnderItsCondition i :=
  fun _ e' => by cases e.symm.trans e'

/-! The shared meanings of the ARM instructions. -/

section
variable {cond a b c d e : BitVec 4} {p u w : BitVec 1} {s : State}

theorem dataOp_conditional {op : DpOp} {op2 : Operand2} : Conditional cond s (dataOp op cond p a b op2 s) := ⟨_, rfl⟩
theorem moveOp_conditional {op : DpOp} {op2 : Operand2} : Conditional cond s (moveOp op cond p a b op2 s) := ⟨_, rfl⟩
theorem compareOp_conditional {op : DpOp} {op2 : Operand2} : Conditional cond s (compareOp op cond a b op2 s) := ⟨_, rfl⟩
theorem execMrs_conditional : Conditional cond s (execMrs cond p a b c d s) := ⟨_, rfl⟩
theorem execMsrReg_conditional : Conditional cond s (execMsrReg cond p a b c d s) := ⟨_, rfl⟩
theorem execMsrImm_conditional {imm8 : BitVec 8} : Conditional cond s (execMsrImm cond p a b c imm8 s) := ⟨_, rfl⟩
theorem execMul_conditional : Conditional cond s (execMul cond p a b c d s) := ⟨_, rfl⟩
theorem execMla_conditional : Conditional cond s (execMla cond p a b c d s) := ⟨_, rfl⟩
theorem longMultiply_conditional {x y : Bool} : Conditional cond s (longMultiply x y cond p a b c d s) := ⟨_, rfl⟩
theorem execBx_conditional : Conditional cond s (execBx cond a b c d s) := ⟨_, rfl⟩
theorem execB_conditional {imm24 : BitVec 24} : Conditional cond s (execB cond imm24 s) := ⟨_, rfl⟩
theorem execBl_conditional {imm24 : BitVec 24} : Conditional cond s (execBl cond imm24 s) := ⟨_, rfl⟩
theorem execSwi_conditional {imm24 : BitVec 24} : Conditional cond s (execSwi cond imm24 s) := ⟨_, rfl⟩
theorem undefinedArm_conditional : Conditional cond s (undefinedArm cond s) := ⟨_, rfl⟩
theorem swapOp_conditional {sz : Size} {k : LoadKind} : Conditional cond s (swapOp sz k cond a b c d s) := ⟨_, rfl⟩

theorem loadOp_conditional {k : LoadKind} {x y : Bool} {off : Offset2} :
    Conditional cond s (loadOp k x y cond p u w a b off s) := ⟨_, rfl⟩

theorem storeOp_conditional {sz : Size} {x y : Bool} {off : Offset2} :
    Conditional cond s (storeOp sz x y cond p u w a b off s) := ⟨_, rfl⟩

theorem loadHalfOp_conditional {k : LoadKind} {off : Offset3} :
    Conditional cond s (loadHalfOp k cond p u w a b off s) := ⟨_, rfl⟩

theorem storeHalfOp_conditional {off : Offset3} : Conditional cond s (storeHalfOp cond p u w a b off s) := ⟨_, rfl⟩

variable {list : BitVec 16} {low : BitVec 15}

theorem execLdm_conditional : Conditional cond s (execLdm cond p u w a list s) := ⟨_, rfl⟩
theorem execLdmUser_conditional : Conditional cond s (execLdmUser cond p u w a low s) := by
  unfold execLdmUser
  exact ⟨_, rfl⟩
theorem execLdmRestore_conditional : Conditional cond s (execLdmRestore cond p u w a low s) := by
  unfold execLdmRestore
  exact ⟨_, rfl⟩
theorem execStm_conditional : Conditional cond s (execStm cond p u w a list s) := ⟨_, rfl⟩
theorem execStmUser_conditional : Conditional cond s (execStmUser cond p u w a list s) := ⟨_, rfl⟩

variable {op1 op2 : BitVec 3} {word : Word} {ix : State → Indexing}

theorem cpLoad_conditional : Conditional cond s (cpLoad cond w a b word ix s) := ⟨_, rfl⟩
theorem cpStore_conditional : Conditional cond s (cpStore cond w a b word ix s) := ⟨_, rfl⟩
theorem execCdp_conditional : Conditional cond s (execCdp cond a b c d op1 e s) := by
  unfold execCdp
  exact ⟨_, rfl⟩

/-! The coprocessors of the core. -/

theorem cp15Access_conditional {f : State → Result} : Conditional cond s (cp15Access cond s f) := ⟨_, rfl⟩
theorem cp15Read_conditional {r : SysReg} : Conditional cond s (cp15Read r cond a s) := cp15Access_conditional
theorem cp15Write_conditional {r : SysReg} : Conditional cond s (cp15Write r cond a s) := cp15Access_conditional
theorem cp15Op_conditional {op : CacheOp} : Conditional cond s (cp15Op op cond a s) := cp15Access_conditional
theorem cp15None_conditional : Conditional cond s (cp15None cond s) := cp15Access_conditional
theorem cp14None_conditional : Conditional cond s (cp14None cond s) := ⟨_, rfl⟩

theorem execMcr_conditional : Conditional cond s (execMcr cond op1 a b c op2 d s) := by
  unfold execMcr
  split
  · exact cp15None_conditional
  split
  · exact cp14None_conditional
  · exact ⟨_, rfl⟩

theorem execMrc_conditional : Conditional cond s (execMrc cond op1 a b c op2 d s) := by
  unfold execMrc
  split
  · exact cp15None_conditional
  split
  · exact cp14None_conditional
  · exact ⟨_, rfl⟩

end

/-- Every ARM instruction runs under the condition in its word. -/
theorem exec_runsUnderItsCondition (i : Instr) : RunsUnderItsCondition i := by
  cases i
  case condNever =>
    exact .arm rfl (by repeat constructor) fun _ => ⟨fun _ => .refused .condNever, rfl⟩
  case and | eor | sub | rsb | add | adc | sbc | rsc | orr | bic =>
    rename_i op2
    cases op2 <;> exact .arm rfl (by repeat constructor) fun _ => dataOp_conditional
  case tst | teq | cmp | cmn =>
    rename_i op2
    cases op2 <;> exact .arm rfl (by repeat constructor) fun _ => compareOp_conditional
  case mov | mvn =>
    rename_i op2
    cases op2 <;> exact .arm rfl (by repeat constructor) fun _ => moveOp_conditional
  case mrs =>
    exact .arm rfl (by repeat constructor) fun _ => execMrs_conditional
  case msrReg =>
    exact .arm rfl (by repeat constructor) fun _ => execMsrReg_conditional
  case msrImm =>
    exact .arm rfl (by repeat constructor) fun _ => execMsrImm_conditional
  case bx =>
    exact .arm rfl (by repeat constructor) fun _ => execBx_conditional
  case undControlImm | undControlOne | undControlOneR | undControlHigh | undControlLow | undControlEven |
      undMultiply | undSwapHigh | undSwapOdd | undSwapEven | undSignedStore | undSpace | undCoproc =>
    exact .arm rfl (by repeat constructor) fun _ => undefinedArm_conditional
  case mul =>
    exact .arm rfl (by repeat constructor) fun _ => execMul_conditional
  case mla =>
    exact .arm rfl (by repeat constructor) fun _ => execMla_conditional
  case umull | umlal | smull | smlal =>
    exact .arm rfl (by repeat constructor) fun _ => longMultiply_conditional
  case swp | swpb =>
    exact .arm rfl (by repeat constructor) fun _ => swapOp_conditional
  case strh =>
    rename_i off
    cases off <;> exact .arm rfl (by repeat constructor) fun _ => storeHalfOp_conditional
  case ldrh | ldrsb | ldrsh =>
    rename_i off
    cases off <;> exact .arm rfl (by repeat constructor) fun _ => loadHalfOp_conditional
  case ldr | ldrPost | ldrt | ldrb | ldrbPost | ldrbt =>
    rename_i off
    cases off <;> exact .arm rfl (by repeat constructor) fun _ => loadOp_conditional
  case str | strPost | strt | strb | strbPost | strbt =>
    rename_i off
    cases off <;> exact .arm rfl (by repeat constructor) fun _ => storeOp_conditional
  case ldm =>
    exact .arm rfl (by repeat constructor) fun _ => execLdm_conditional
  case ldmUser =>
    exact .arm rfl (by repeat constructor) fun _ => execLdmUser_conditional
  case ldmRestore =>
    exact .arm rfl (by repeat constructor) fun _ => execLdmRestore_conditional
  case stm =>
    exact .arm rfl (by repeat constructor) fun _ => execStm_conditional
  case stmUser =>
    exact .arm rfl (by repeat constructor) fun _ => execStmUser_conditional
  case b =>
    exact .arm rfl (by repeat constructor) fun _ => execB_conditional
  case bl =>
    exact .arm rfl (by repeat constructor) fun _ => execBl_conditional
  case ldcPre | ldcUp | ldcDown =>
    exact .arm rfl (by repeat constructor) fun _ => cpLoad_conditional
  case stcPre | stcUp | stcDown =>
    exact .arm rfl (by repeat constructor) fun _ => cpStore_conditional
  case cdp =>
    exact .arm rfl (by repeat constructor) fun _ => execCdp_conditional
  case mcr =>
    exact .arm rfl (by repeat constructor) fun _ => execMcr_conditional
  case mrc =>
    exact .arm rfl (by repeat constructor) fun _ => execMrc_conditional
  case swi _ imm24 =>
    exact .arm rfl (by repeat constructor) fun _ => execSwi_conditional (imm24 := imm24)
  case mrcP15c0c0o0 | mrcP15c0c0o2 | mrcP15c0c0o3 | mrcP15c0c0o4 | mrcP15c0c0o5 | mrcP15c0c0o6 | mrcP15c0c0o7 |
      mrcP15c0c0o1 | mrcP15c1c0o0 | mrcP15c2c0o0 | mrcP15c2c0o1 | mrcP15c3c0o0 | mrcP15c5c0o0 | mrcP15c5c0o1 |
      mrcP15c6c0o0 | mrcP15c6c0o1 | mrcP15c6c1o0 | mrcP15c6c1o1 | mrcP15c6c2o0 | mrcP15c6c2o1 | mrcP15c6c3o0 |
      mrcP15c6c3o1 | mrcP15c6c4o0 | mrcP15c6c4o1 | mrcP15c6c5o0 | mrcP15c6c5o1 | mrcP15c6c6o0 | mrcP15c6c6o1 |
      mrcP15c6c7o0 | mrcP15c6c7o1 | mrcP15c9c0o0 | mrcP15c9c0o1 | mrcP15c15c0o0 =>
    exact .arm rfl (by repeat constructor) fun _ => cp15Read_conditional
  case mcrP15c1c0o0 | mcrP15c2c0o0 | mcrP15c2c0o1 | mcrP15c3c0o0 | mcrP15c5c0o0 | mcrP15c5c0o1 | mcrP15c6c0o0 |
      mcrP15c6c0o1 | mcrP15c6c1o0 | mcrP15c6c1o1 | mcrP15c6c2o0 | mcrP15c6c2o1 | mcrP15c6c3o0 | mcrP15c6c3o1 |
      mcrP15c6c4o0 | mcrP15c6c4o1 | mcrP15c6c5o0 | mcrP15c6c5o1 | mcrP15c6c6o0 | mcrP15c6c6o1 | mcrP15c6c7o0 |
      mcrP15c6c7o1 | mcrP15c9c0o0 | mcrP15c9c0o1 | mcrP15c15c0o0 =>
    exact .arm rfl (by repeat constructor) fun _ => cp15Write_conditional
  case mcrP15c7c5o0 | mcrP15c7c5o2 | mcrP15c7c6o0 | mcrP15c7c6o2 | mcrP15c7c10o2 | mcrP15c7c13o1 | mcrP15c7c14o2 |
      mcrP15c7c0o4 | mcrP15c15c8o2 | mcrP15c7c10o4 =>
    exact .arm rfl (by repeat constructor) fun _ => cp15Op_conditional
  case mcrP15c7c8o2 | mcrP15c7c5o1 =>
    exact .arm rfl (by repeat constructor) fun _ => cp15None_conditional
  case mrcP14c0c0o0 =>
    exact .arm rfl (by repeat constructor) fun _ => ⟨_, exec_mrcP14c0c0o0 ..⟩
  case mcrP14c1c0o0 =>
    exact .arm rfl (by repeat constructor) fun _ => ⟨_, exec_mcrP14c1c0o0 ..⟩
  case mrcP14c1c0o0 =>
    exact .arm rfl (by repeat constructor) fun _ => ⟨_, exec_mrcP14c1c0o0 ..⟩
  case tAddLow | tCmpLow | tMovLow | tBxHigh | tLslImm | tLsrImm | tAsrImm | tAddReg | tSubReg | tAddImm3 |
      tSubImm3 | tMovImm | tAddImm8 | tSubImm8 | tNeg | tCmpImm | tAnd | tEor | tAdc | tSbc | tOrr | tBic | tMvn |
      tLslReg | tLsrReg | tAsrReg | tRorReg | tTst | tCmpReg | tCmn | tMul | tAddHi | tAddLoHi | tCmpHi | tCmpLoHi |
      tMovHi | tMovLoHi | tBx | tLdrPc | tLdrReg | tLdrbReg | tLdrhReg | tLdsbReg | tLdshReg | tLdrImm | tLdrbImm |
      tLdrhImm | tLdrSp | tStrReg | tStrbReg | tStrhReg | tStrImm | tStrbImm | tStrhImm | tStrSp | tAddPc | tAddSp |
      tAddSpImm | tSubSpImm | tBlFirst | tPush | tPop | tUndB1 | tUndB2 | tUndB6 | tUndB8 | tUndBE | tUndCond |
      tSwi | tUndE8 | tStmia | tLdmia | tBeq | tBne | tBcs | tBcc | tBmi | tBpl | tBvs | tBvc | tBhi | tBls | tBge |
      tBlt | tBgt | tBle | tB | tBlSecond =>
    exact .thumb rfl

/-- Settles O3: the table of the conditions, and what an instruction does under a condition that fails. -/
theorem conditionsAndTheirFailure : Obligations.ConditionsAndTheirFailure := by
  refine ⟨⟨fun n z c v => ⟨rfl, rfl, rfl, rfl, rfl, rfl, rfl, rfl, rfl, rfl, rfl, rfl, rfl, rfl, rfl⟩, ?_⟩, ?_⟩
  · intro i w s e hne hc
    obtain ⟨f, h⟩ := exec_runsUnderItsCondition i w e s
    rw [h, ifPassed, if_neg hne, if_neg (ne_true_of_eq_false hc)]
    rcases finish_cases s with ⟨hr, hf⟩ | ⟨hr, hf⟩ <;> simp [hr, hf]
  · intro i w s e hnever
    obtain ⟨f, h⟩ := exec_runsUnderItsCondition i w e s
    rw [h, ifPassed, if_pos hnever]

end Sys2Proof.Machine
end

section
/-!
PROOFS. The registers of CP15: their fields, their accesses, and what a write leaves in them.
-/

namespace Sys2Proof.Machine
open Laws

/-! The bits of a word put together from fields (with `Laws.bitAt_append_high` and `Laws.bitAt_append_low`). -/

theorem bitAt_ofBool (b : Bool) : bitAt (BitVec.ofBool b) 0 = b := by cases b <;> rfl

theorem bitAt_zero (n i : Nat) : bitAt (0#n) i = false := by simp [bitAt]

theorem bitAt_extract (v : Word) {a n i : Nat} (h : i < n) : bitAt (v.extractLsb' a n) i = v.getLsbD (a + i) := by
  simp [bitAt, h]

theorem bitAt_zeroExtend {n : Nat} (x : BitVec n) {i : Nat} (h : i < 32) : bitAt (x.zeroExtend 32) i = bitAt x i := by
  simp [bitAt, h]

theorem bitAt_beyond {n : Nat} (x : BitVec n) {i : Nat} (h : n ≤ i) : bitAt x i = false := BitVec.getLsbD_of_ge x i h

/-- A bit that reads open belongs to no field of its register. -/
theorem stated_bit_of_free (c : Cp15) (r : SysReg) {i : Nat} (hi : i < 32) (h : r.freeBits.getLsbD i = true) :
    (c.stated r).getLsbD i = false := by
  change bitAt _ i = false
  cases r <;> simp only [Cp15.stated, SysReg.freeBits, HAppend.hAppend] at h ⊢ <;> interval_cases i <;>
    simp (decide := true) only [bitAt_append_high, bitAt_append_low, bitAt_zero, bitAt_zeroExtend, bitAt_beyond,
      Nat.reduceSub] at h ⊢

/-! Reads. -/

/-- A read gives the stated bits. -/
theorem sysRead_stated (s : State) (r : SysReg) : s.sysRead r &&& ~~~r.freeBits = s.cp15.stated r := by
  apply BitVec.eq_of_getLsbD_eq
  intro i hi
  simp only [State.sysRead, BitVec.getLsbD_and, BitVec.getLsbD_or, BitVec.getLsbD_not]
  cases h : r.freeBits.getLsbD i
  · simp [hi]
  · simpa using (stated_bit_of_free s.cp15 r hi h).symm

/-- The ID code but for its layout revision (R42). -/
theorem sysRead_idCode (s : State) : s.sysRead .idCode &&& 0xFFFFFFF0#32 = 0x41029400#32 := by
  have rev : ∀ v : BitVec 4, (0x41029400#32 ||| v.zeroExtend 32) &&& 0xFFFFFFF0#32 = 0x41029400#32 := by decide
  have none : s.sysRead .idCode = 0x41029400#32 ||| Config.layoutRev.zeroExtend 32 := by
    simp [State.sysRead, SysReg.freeBits, Cp15.stated, Config.idCodeBase]
  rw [none, rev]

theorem sysRead_cacheType (s : State) : s.sysRead .cacheType = 0x0F0F10F1#32 := by
  simp [State.sysRead, SysReg.freeBits, Cp15.stated, Config.cacheType]

theorem privileged_of_mode {s : State} (h : s.mode ≠ modeUsr) : s.privileged = true := bne_iff_ne.mpr h

/-- A read uses up a free word where some bits are open. -/
def SysReg.readDraws (r : SysReg) : Nat := if r.freeBits = 0#32 then 0 else 1

/-- The listed reads are reads of their registers. -/
theorem exec_cp15Reads (cond rd : BitVec 4) (s : State) :
    ∀ p ∈ cp15Reads cond rd, exec p.1 s = cp15Read p.2 cond rd s := by
  simp only [cp15Reads, List.forall_mem_cons, List.not_mem_nil, false_implies, implies_true, and_true]
  and_intros <;> rfl

theorem exec_cp15Writes (cond rd : BitVec 4) (s : State) :
    ∀ p ∈ cp15Writes cond rd, exec p.1 s = cp15Write p.2 cond rd s := by
  simp only [cp15Writes, List.forall_mem_cons, List.not_mem_nil, false_implies, implies_true, and_true]
  and_intros <;> rfl

section
variable {cond rd : BitVec 4} {s : State} (hc : s.passes cond = true) (hm : s.mode ≠ modeUsr)
include hc hm

theorem cp15Access_passes (f : State → Result) : cp15Access cond s f = f s := by
  rw [cp15Access, ifPassed_passes hc, if_pos (privileged_of_mode hm)]

theorem cp15Read_passes (r : SysReg) :
    cp15Read r cond rd s = transferIn rd (s.sysRead r) { s with draws := s.draws + r.readDraws } := by
  rw [cp15Read, cp15Access_passes hc hm, SysReg.readDraws]
  split <;> rfl

theorem cp15Write_allowed (r : SysReg) (hd : rd ≠ 15#4) (h : r.writeRefusal (s.reg rd) = none) :
    cp15Write r cond rd s = finish { s with cp15 := s.cp15.write r (s.reg rd) } := by
  rw [cp15Write, cp15Access_passes hc hm, if_neg hd, h]

theorem cp15Write_refused (r : SysReg) (hd : rd ≠ 15#4) {e : Refusal} (h : r.writeRefusal (s.reg rd) = some e) :
    cp15Write r cond rd s = .refused e := by
  rw [cp15Write, cp15Access_passes hc hm, if_neg hd, h]

theorem cp15Write_pc (r : SysReg) : cp15Write r cond 15#4 s = .refused .r15Operand := by
  rw [cp15Write, cp15Access_passes hc hm, if_pos rfl]

end

/-- Settles O21: every listed access is the read or the write of its register. -/
theorem cp15RegisterAccesses : Obligations.Cp15RegisterAccesses := by
  constructor
  · intro cond rd s hc hm hr p hp
    rw [exec_cp15Reads cond rd s p hp, cp15Read_passes hc hm]
    refine ⟨s.sysRead p.2, p.2.readDraws, sysRead_stated s p.2, ?_, ?_, fun hd => ?_, ?_⟩
    · intro h
      rw [h]
      exact sysRead_idCode s
    · intro h
      rw [h]
      exact sysRead_cacheType s
    · exact transferIn_register hr hd _ rfl rfl rfl
    · rintro rfl
      exact transferIn_flags hr _ rfl rfl rfl
  · intro cond rd s hc hm hr p hp
    rw [exec_cp15Writes cond rd s p hp]
    refine ⟨fun hd h => ?_, fun e hd h => ?_, ?_⟩
    · exact (cp15Write_allowed hc hm p.2 hd h).trans (finish_of_same hr rfl rfl rfl)
    · exact cp15Write_refused hc hm p.2 hd h
    · rintro rfl
      exact cp15Write_pc hc hm p.2

/-! What a write leaves. -/

/-- A written region register, and every other one as it was. -/
theorem write_region_get (c : Cp15) (side side' : Side) (n m : Fin 8) (v : Word) :
    ((c.write (.region side n) v).regions side')[m] =
      if side = side' ∧ n = m then Region.ofWord v else (c.regions side')[m] := by
  have set (rs : Vector Region 8) : (rs.set n (Region.ofWord v))[m] = if n = m then Region.ofWord v else rs[m] := by
    simp only [Fin.getElem_fin, Vector.getElem_set, Fin.val_inj]
  cases side <;> cases side' <;> simp [Cp15.write, Cp15.regions, set]

/-- The written register holds the fields of the value. -/
theorem write_stated_self (c : Cp15) (r : SysReg) (v : Word) (hid : r ≠ .idCode) (hct : r ≠ .cacheType) :
    (c.write r v).stated r = v &&& ~~~r.freeBits := by
  apply BitVec.eq_of_getLsbD_eq
  intro i hi
  rw [BitVec.getLsbD_and]
  change bitAt _ i = _
  cases r
  case idCode => exact absurd rfl hid
  case cacheType => exact absurd rfl hct
  case region side n =>
    simp only [Cp15.stated, write_region_get, and_self, if_true, Region.ofWord, SysReg.freeBits, HAppend.hAppend]
    interval_cases i <;>
      simp (decide := true) only [bitAt_append_high, bitAt_append_low, bitAt_ofBool, bitAt_zero, bitAt_extract,
        Nat.reduceSub, Nat.reduceAdd, Bool.and_true, Bool.and_false, BitVec.reduceGetLsb, BitVec.reduceNot]
  case cachable side | permission side | lockdown side =>
    cases side <;>
      simp only [Cp15.write, Cp15.stated, SysReg.freeBits, HAppend.hAppend, Cp15.cachable, Cp15.ap, Cp15.lock,
        Lockdown.ofWord] <;>
      interval_cases i <;>
        simp (decide := true) only [bitAt_append_high, bitAt_append_low, bitAt_ofBool, bitAt_zero, bitAt_extract,
          bitAt_zeroExtend, bitAt_beyond,
          Nat.reduceSub, Nat.reduceAdd, Bool.and_true, Bool.and_false, BitVec.reduceGetLsb, BitVec.reduceNot]
  case control | bufferable | test =>
    simp only [Cp15.write, Cp15.stated, SysReg.freeBits, HAppend.hAppend]
    interval_cases i <;>
      simp (decide := true) only [bitAt_append_high, bitAt_append_low, bitAt_ofBool, bitAt_zero, bitAt_extract,
        bitAt_zeroExtend, bitAt_beyond,
        Nat.reduceSub, Nat.reduceAdd, Bool.and_true, Bool.and_false, BitVec.reduceGetLsb, BitVec.reduceNot]

/-- Every other register keeps its fields. -/
theorem write_stated_other (c : Cp15) {r q : SysReg} (v : Word) (h : q ≠ r) : (c.write r v).stated q = c.stated q := by
  cases r with
  | idCode => rfl
  | cacheType => rfl
  | control => cases q with
    | control => exact absurd rfl h
    | _ => rfl
  | bufferable => cases q with
    | bufferable => exact absurd rfl h
    | _ => rfl
  | test => cases q with
    | test => exact absurd rfl h
    | _ => rfl
  | cachable side => cases q with
    | cachable side' => match side, side', h with
      | .data, .instr, _ => rfl
      | .instr, .data, _ => rfl
      | .data, .data, h => exact absurd rfl h
      | .instr, .instr, h => exact absurd rfl h
    | _ => cases side <;> rfl
  | permission side => cases q with
    | permission side' => match side, side', h with
      | .data, .instr, _ => rfl
      | .instr, .data, _ => rfl
      | .data, .data, h => exact absurd rfl h
      | .instr, .instr, h => exact absurd rfl h
    | _ => cases side <;> rfl
  | lockdown side => cases q with
    | lockdown side' => match side, side', h with
      | .data, .instr, _ => rfl
      | .instr, .data, _ => rfl
      | .data, .data, h => exact absurd rfl h
      | .instr, .instr, h => exact absurd rfl h
    | _ => cases side <;> rfl
  | region side n => cases q with
    | region side' m =>
      have : ¬ (side = side' ∧ n = m) := fun ⟨hs, hn⟩ => h (hs ▸ hn ▸ rfl)
      simp only [Cp15.stated, write_region_get, if_neg this]
    | _ => cases side <;> rfl

/-! The values that a write refuses. -/

/-- The masked bits of a word are zero. -/
theorem and_mask_eq_zero_iff {mask v : Word} {P : Nat → Prop} [DecidablePred P]
    (h : ∀ i < 32, mask.getLsbD i = decide (P i)) : v &&& mask = 0#32 ↔ ∀ i < 32, P i → v.getLsbD i = false := by
  constructor
  · intro e i hi hp
    have := congrArg (·.getLsbD i) e
    simpa [h i hi, hp] using this
  · intro hz
    apply BitVec.eq_of_getLsbD_eq
    intro i hi
    rw [BitVec.getLsbD_and, h i hi, BitVec.getLsbD_zero]
    by_cases hp : P i
    · rw [hz i hi hp, Bool.false_and]
    · rw [decide_eq_false hp, Bool.and_false]

/-- A field of a word is zero. -/
theorem extractLsb'_eq_zero_iff (v : Word) {lo n : Nat} :
    v.extractLsb' lo n = 0#n ↔ ∀ i, lo ≤ i → i < lo + n → v.getLsbD i = false := by
  constructor
  · intro e i hl hh
    have := congrArg (·.getLsbD (i - lo)) e
    simpa [show i - lo < n by omega, show lo + (i - lo) = i by omega] using this
  · intro hz
    apply BitVec.eq_of_getLsbD_eq
    intro i hi
    simp [hi, hz (lo + i) (by omega) (by omega)]

/-- A register whose bits from `low` to `high` should be zero refuses a value where they are not. -/
theorem zeroField_refusal {r : SysReg} {v : Word} {high low : Nat} (hh : high < 32)
    (hr : r.writeRefusal v = if v &&& r.zeroBits ≠ 0#32 then some .cp15ShouldBe else none)
    (hm : ∀ i < 32, r.zeroBits.getLsbD i = decide (low ≤ i ∧ i ≤ high)) :
    ((∀ i, low ≤ i → i ≤ high → v.getLsbD i = false) → r.writeRefusal v = none) ∧
      ((∃ i, low ≤ i ∧ i ≤ high ∧ v.getLsbD i = true) → r.writeRefusal v = some .cp15ShouldBe) := by
  rw [hr]
  refine ⟨fun hz => if_neg (not_not_intro ?_), fun ⟨i, hl, hi, hb⟩ => if_pos fun e => ?_⟩
  · exact (and_mask_eq_zero_iff hm).mpr fun i _ hp => hz i hp.1 hp.2
  · rw [(and_mask_eq_zero_iff hm).mp e i (by omega) ⟨hl, hi⟩] at hb
    cases hb

theorem test_writeRefusal_none_iff (v : Word) :
    SysReg.test.writeRefusal v = none ↔ ∀ i, i < 32 → i ≠ 2 → i ≠ 3 → v.getLsbD i = false := by
  have hm : ∀ i < 32, SysReg.test.zeroBits.getLsbD i = decide (i ≠ 2 ∧ i ≠ 3) := by decide
  rw [show SysReg.test.writeRefusal v = if v &&& SysReg.test.zeroBits ≠ 0#32 then some .cp15ShouldBe else none from rfl,
    ite_eq_right_iff, not_imp_not.symm]
  simp [and_mask_eq_zero_iff hm]

/-- The bits of a region's base below its size, as the rest of a division (R111). -/
theorem lowBase_toNat (v : Word) :
    (Region.ofWord v).lowBase.toNat = v.toNat / 4096 * 4096 % 2 ^ ((v.extractLsb' 1 5).toNat + 1) := by
  have hsize : (v.extractLsb' 1 5).toNat < 32 := (v.extractLsb' 1 5).isLt
  have hbase : BitVec.toNat (w := 20 + 12) (v.extractLsb' 12 20 ++ 0#12) = v.toNat / 4096 * 4096 := by
    have := v.isLt
    rw [BitVec.toNat_append, BitVec.extractLsb'_toNat, Nat.shiftRight_eq_div_pow, Nat.shiftLeft_eq, BitVec.toNat_zero,
      Nat.or_zero]
    omega
  have hmask : ∀ n < 32, ((2#32 <<< n) - 1#32).toNat = 2 ^ (n + 1) - 1 := by decide
  rw [Region.lowBase, BitVec.toNat_and]
  change BitVec.toNat (w := 20 + 12) (v.extractLsb' 12 20 ++ 0#12) &&& ((2#32 <<< (v.extractLsb' 1 5).toNat) - 1#32).toNat = _
  rw [hbase, hmask _ hsize, Nat.and_two_pow_sub_one_eq_mod]

/-- A region of at least 4KB whose base is a multiple of its size (R50). -/
theorem region_formed_iff (v : Word) :
    (Region.ofWord v).formed = true ↔
      4096 ≤ 2 ^ ((v.extractLsb' 1 5).toNat + 1) ∧
        v.toNat / 4096 * 4096 % 2 ^ ((v.extractLsb' 1 5).toNat + 1) = 0 := by
  have hsize : 4096 ≤ 2 ^ ((v.extractLsb' 1 5).toNat + 1) ↔ 11 ≤ (v.extractLsb' 1 5).toNat := by
    rw [show 4096 = 2 ^ (11 + 1) from rfl, Nat.pow_le_pow_iff_right (by decide)]
    omega
  have hlow : (Region.ofWord v).lowBase = 0#32 ↔ (Region.ofWord v).lowBase.toNat = 0 := by
    rw [← BitVec.toNat_inj]
    rfl
  rw [hsize, ← lowBase_toNat, ← hlow, Region.formed, Bool.and_eq_true, decide_eq_true_eq, beq_iff_eq]
  rfl

theorem region_zeroBits_iff (side : Side) (n : Fin 8) (v : Word) :
    v &&& (SysReg.region side n).zeroBits = 0#32 ↔ v.extractLsb' 6 6 = 0#6 := by
  have hm : ∀ i < 32, (0x00000FC0#32).getLsbD i = decide (6 ≤ i ∧ i < 12) := by decide
  change v &&& 0x00000FC0#32 = 0#32 ↔ _
  rw [and_mask_eq_zero_iff hm, extractLsb'_eq_zero_iff]
  exact ⟨fun h i hl hh => h i (by omega) ⟨hl, hh⟩, fun h i _ hp => h i hp.1 hp.2⟩

/-- The three outcomes of a write of a region register (R409). -/
theorem region_writeRefusal (side : Side) (n : Fin 8) (v : Word) :
    (SysReg.region side n).writeRefusal v =
      if v.extractLsb' 6 6 ≠ 0#6 then some .cp15ShouldBe
      else if v.getLsbD 0 = true ∧ (Region.ofWord v).formed = false then some .regionForm
      else none := by
  have enabled : ((Region.ofWord v).enable && !(Region.ofWord v).formed) = true ↔
      v.getLsbD 0 = true ∧ (Region.ofWord v).formed = false := by
    rw [Bool.and_eq_true, Bool.not_eq_true']
    rfl
  simp only [SysReg.writeRefusal, ne_eq, region_zeroBits_iff, enabled]

theorem control_zeroBits_iff (v : Word) :
    v &&& SysReg.control.zeroBits = 0#32 ↔
      v.extractLsb' 14 16 = 0#16 ∧ v.extractLsb' 8 4 = 0#4 ∧ v.getLsbD 1 = false := by
  have hm : ∀ i < 32, (0x3FFFCF02#32).getLsbD i = decide ((14 ≤ i ∧ i < 30) ∨ (8 ≤ i ∧ i < 12) ∨ i = 1) := by decide
  change v &&& 0x3FFFCF02#32 = 0#32 ↔ _
  rw [and_mask_eq_zero_iff hm, extractLsb'_eq_zero_iff, extractLsb'_eq_zero_iff]
  constructor
  · intro h
    exact ⟨fun i hl hh => h i (by omega) (.inl ⟨hl, hh⟩), fun i hl hh => h i (by omega) (.inr (.inl ⟨hl, hh⟩)),
      h 1 (by decide) (.inr (.inr rfl))⟩
  · rintro ⟨hhigh, hlow, hone⟩ i _ (hp | hp | rfl)
    · exact hhigh i hp.1 hp.2
    · exact hlow i hp.1 hp.2
    · exact hone

theorem threeRefusals_none_iff {a b c : Prop} [Decidable a] [Decidable b] [Decidable c] {x y z : Refusal} :
    (if a then some x else if b then some y else if c then some z else none) = none ↔ ¬ a ∧ ¬ b ∧ ¬ c := by
  split_ifs <;> simp [*]

theorem control_writeRefusal_none_iff (v : Word) :
    SysReg.control.writeRefusal v = none ↔
      v.extractLsb' 14 16 = 0#16 ∧ v.extractLsb' 8 4 = 0#4 ∧ v.getLsbD 1 = false ∧ v.extractLsb' 3 4 = 0b1111#4 ∧
        v.extractLsb' 30 2 ≠ 0b10#2 ∧ (v.getLsbD 12 = true ∨ v.getLsbD 2 = true → v.getLsbD 0 = true) := by
  have guarded : ¬ ((v.getLsbD 12 || v.getLsbD 2) && !v.getLsbD 0) = true ↔
      (v.getLsbD 12 = true ∨ v.getLsbD 2 = true → v.getLsbD 0 = true) := by
    cases v.getLsbD 12 <;> cases v.getLsbD 2 <;> cases v.getLsbD 0 <;> decide
  rw [← guarded]
  simp only [SysReg.writeRefusal, ne_eq, control_zeroBits_iff, threeRefusals_none_iff]
  tauto

/-- Settles O22: the fields that a write leaves, and register by register the values it refuses. -/
theorem cp15WriteReadsBack : Obligations.Cp15WriteReadsBack := by
  refine ⟨fun c r q v hid hct => ⟨write_stated_self c r v hid hct, write_stated_other c v⟩, ⟨?_, ?_⟩, ?_⟩
  · intro r
    cases r <;> rfl
  · intro v side n zero
    have byte : ∀ i < 32, (0xFFFFFF00#32).getLsbD i = decide (8 ≤ i ∧ i ≤ 31) := by decide
    have half : ∀ i < 32, (0xFFFF0000#32).getLsbD i = decide (16 ≤ i ∧ i ≤ 31) := by decide
    have lock : ∀ i < 32, (0x7FFFFFC0#32).getLsbD i = decide (6 ≤ i ∧ i ≤ 30) := by decide
    refine ⟨zeroField_refusal (by decide) rfl byte, zeroField_refusal (by decide) rfl byte,
      zeroField_refusal (by decide) rfl half, zeroField_refusal (by decide) rfl lock,
      test_writeRefusal_none_iff v, rfl, rfl, ?_⟩
    intro size formed r
    have formed_iff : formed ↔ ¬ (v.getLsbD 0 = true ∧ (Region.ofWord v).formed = false) := by
      rw [not_and, Bool.not_eq_false, region_formed_iff]
    rw [formed_iff, region_writeRefusal]
    refine ⟨fun hz hf => ?_, fun hz hf => ?_, fun hz => if_pos hz⟩
    · rw [if_neg (not_not_intro hz), if_neg hf]
    · rw [if_neg (not_not_intro hz), if_pos (not_not.mp hf)]
  · intro c v
    refine ⟨rfl, rfl, rfl, rfl, rfl, rfl, rfl, control_writeRefusal_none_iff v, fun s h => ?_⟩
    rw [State.bigEndOut, h]
    rfl

end Sys2Proof.Machine
end

section
/-!
PROOFS. An instruction stored at the pc: what the placing changes, what the fetch returns, and the step that runs it.
-/

namespace Sys2Proof.Machine
open Laws

/-! Bytes and halfwords of a word. -/

theorem byteOf_getLsbD (w : Word) {k i : Nat} (h : i < 8) : (byteOf w k).getLsbD i = w.getLsbD (8 * k + i) := by
  simp [byteOf, h]

/-- A word is its four bytes. -/
theorem bytes_append (w : Word) : byteOf w 3 ++ byteOf w 2 ++ byteOf w 1 ++ byteOf w 0 = w := by
  apply BitVec.eq_of_getLsbD_eq
  intro i hi
  rw [BitVec.getLsbD_append, BitVec.getLsbD_append, BitVec.getLsbD_append]
  split_ifs <;> rw [byteOf_getLsbD _ (by omega)] <;> congr 1 <;> omega

/-- The halfword that begins at a byte lane, as an item. -/
def halfAt (w : Word) (l : Nat) : Word := (byteOf w (l + 1) ++ byteOf w l).zeroExtend 32

theorem lanesGet_half (big : Bool) (a w : Word) : lanesGet big .half a w = halfAt w (laneOf big .half a) := by
  have mask : ∀ i < 32, (0xFFFF#32).getLsbD i = decide (i < 16) := by decide
  apply BitVec.eq_of_getLsbD_eq
  intro i hi
  simp only [lanesGet, halfAt, BitVec.getLsbD_and, BitVec.getLsbD_ushiftRight, mask i hi, BitVec.truncate_eq_setWidth,
    BitVec.getLsbD_setWidth, BitVec.getLsbD_append]
  by_cases hl : i < 8
  · rw [if_pos hl, byteOf_getLsbD _ hl]
    simp [hi, show i < 16 by omega]
  · by_cases hh : i < 16
    · rw [if_neg hl, byteOf_getLsbD _ (by omega)]
      simp only [hh, hi, decide_true, Bool.and_true, Bool.true_and]
      congr 1
      omega
    · simp [hl, hh, byteOf, show ¬ i - 8 < 8 by omega]

/-- The first byte lane of a halfword is 0 or 2, and that of the other halfword of its word is the other one. -/
theorem laneOf_half (big : Bool) (a : Word) :
    (laneOf big .half a = 0 ∧ laneOf big .half (a ^^^ 2#32) = 2) ∨
      (laneOf big .half a = 2 ∧ laneOf big .half (a ^^^ 2#32) = 0) := by
  have flip : (a ^^^ 2#32).extractLsb' 1 1 = ~~~(a.extractLsb' 1 1) := by
    apply BitVec.eq_of_getLsbD_eq
    intro i hi
    obtain rfl : i = 0 := by omega
    simp
  have bit : ∀ b : BitVec 1, b = 0#1 ∨ b = 1#1 := by decide
  unfold laneOf
  simp only [flip]
  rcases bit (a.extractLsb' 1 1) with h | h <;> rw [h] <;> cases big <;> decide

theorem wordAddr_otherHalf (a : Word) : wordAddr (a ^^^ 2#32) = wordAddr a := by
  unfold wordAddr
  rw [BitVec.xor_comm]
  apply BitVec.eq_of_getLsbD_eq
  intro i hi
  have mask : ∀ i < 32, (2#32).getLsbD i = true → (0xFFFFFFFC#32).getLsbD i = false := by decide
  rw [BitVec.getLsbD_and, BitVec.getLsbD_and, BitVec.getLsbD_xor]
  cases hb : (2#32).getLsbD i
  · simp
  · simp [mask i hi hb]

/-- The bytes of a word in memory. -/
theorem byteOf_memWord (m : Memory) (a : Word) {k : Nat} (hk : k < 4) :
    byteOf (memWord m a) k = memGet m ((wordAddr a).toNat + k) := by
  change fld (memWord m a) (8 * k) 8 = _
  simp only [memWord, HAppend.hAppend]
  interval_cases k <;>
    simp (decide := true) only [fld_append_high, fld_append_low, fld_whole, Nat.reduceMul, Nat.reduceSub, Nat.add_zero]

/-- A byte of a word after a write of some of its lanes. -/
theorem byteOf_memWrite {m : Memory} (a : Word) (lanes : BitVec 4) (v : Word) (h : m.wf = true) {k : Nat} (hk : k < 4) :
    byteOf (memWord (memWrite m a lanes v) a) k = if lanes.getLsbD k then byteOf v k else byteOf (memWord m a) k := by
  rw [byteOf_memWord _ _ hk, byteOf_memWord _ _ hk, memGet_memWrite a lanes v h]
  interval_cases k <;> simp

/-- An item of at most sixteen bits is its low halfword. -/
theorem halfAt_zero {v : Word} (h : v.toNat < 2 ^ 16) : halfAt v 0 = v := by
  apply BitVec.eq_of_getLsbD_eq
  intro i hi
  simp only [halfAt, BitVec.truncate_eq_setWidth, BitVec.getLsbD_setWidth, BitVec.getLsbD_append]
  by_cases hl : i < 8
  · rw [if_pos hl, byteOf_getLsbD _ hl]
    simp [hi]
  by_cases hh : i < 16
  · rw [if_neg hl, byteOf_getLsbD _ (by omega), show 8 * (0 + 1) + (i - 8) = i by omega]
    simp [hi]
  · have hz : v.getLsbD i = false := by
      rw [BitVec.getLsbD, Nat.testBit_lt_two_pow (Nat.lt_of_lt_of_le h (Nat.pow_le_pow_right (by decide) (by omega)))]
    simp [hl, hz, byteOf, show ¬ i - 8 < 8 by omega]

/-- A byte of an item moved to its lanes. -/
theorem byteOf_shiftLeft (v : Word) {l k : Nat} (h : l + k < 4) : byteOf (v <<< (8 * l)) (l + k) = byteOf v k := by
  apply BitVec.eq_of_getLsbD_eq
  intro i hi
  rw [byteOf_getLsbD _ hi, byteOf_getLsbD _ hi, BitVec.getLsbD_shiftLeft]
  simp [show 8 * (l + k) + i < 32 by omega, show ¬ 8 * (l + k) + i < 8 * l by omega,
    show 8 * (l + k) + i - 8 * l = 8 * k + i by omega]

section
variable {m : Memory} (a v : Word) (big : Bool) (h : m.wf = true)
include h

/-- A stored halfword reads back. -/
theorem memWrite_half_same (hv : v.toNat < 2 ^ 16) :
    lanesGet big .half a (memWord (memWrite m a (laneMask big .half a) (lanesPut big .half a v)) a) = v := by
  rw [lanesGet_half]
  unfold halfAt laneMask lanesPut
  rcases laneOf_half big a with ⟨hl, -⟩ | ⟨hl, -⟩ <;>
  · rw [hl, byteOf_memWrite _ _ _ h (by decide), byteOf_memWrite _ _ _ h (by decide), if_pos (by decide),
      if_pos (by decide), byteOf_shiftLeft v (by decide)]
    exact (congrArg (fun b => (byteOf v 1 ++ b : BitVec 16).zeroExtend 32)
      (byteOf_shiftLeft v (k := 0) (by decide))).trans (halfAt_zero hv)

/-- The other halfword of its word keeps its bytes. -/
theorem memWrite_half_other :
    lanesGet big .half (a ^^^ 2#32)
        (memWord (memWrite m a (laneMask big .half a) (lanesPut big .half a v)) (a ^^^ 2#32)) =
      lanesGet big .half (a ^^^ 2#32) (memWord m (a ^^^ 2#32)) := by
  have same (m : Memory) : memWord m (a ^^^ 2#32) = memWord m a := by
    unfold memWord
    rw [wordAddr_otherHalf]
  rw [same, same, lanesGet_half, lanesGet_half]
  unfold halfAt laneMask
  rcases laneOf_half big a with ⟨hl, ho⟩ | ⟨hl, ho⟩ <;>
    rw [hl, ho, byteOf_memWrite _ _ _ h (by decide), byteOf_memWrite _ _ _ h (by decide), if_neg (by decide),
      if_neg (by decide)]

/-- A stored word reads back. -/
theorem memWrite_word_same : memWord (memWrite m a 15#4 v) a = v := by
  rw [memWord_memWrite_same a 15#4 v h]
  exact bytes_append v

end

/-! The decoder reads back what the encoder wrote. -/

theorem roundTrip (i : Instr) : RoundTrip.Statement i := by
  cases i with
  | condNever => apply RoundTrip.condNever | and => apply RoundTrip.and | eor => apply RoundTrip.eor
  | sub => apply RoundTrip.sub | rsb => apply RoundTrip.rsb | add => apply RoundTrip.add | adc => apply RoundTrip.adc
  | sbc => apply RoundTrip.sbc | rsc => apply RoundTrip.rsc | tst => apply RoundTrip.tst | teq => apply RoundTrip.teq
  | cmp => apply RoundTrip.cmp | cmn => apply RoundTrip.cmn | orr => apply RoundTrip.orr | mov => apply RoundTrip.mov
  | bic => apply RoundTrip.bic | mvn => apply RoundTrip.mvn | mrs => apply RoundTrip.mrs
  | msrReg => apply RoundTrip.msrReg | msrImm => apply RoundTrip.msrImm | bx => apply RoundTrip.bx
  | undControlImm => apply RoundTrip.undControlImm | undControlOne => apply RoundTrip.undControlOne
  | undControlOneR => apply RoundTrip.undControlOneR | undControlHigh => apply RoundTrip.undControlHigh
  | undControlLow => apply RoundTrip.undControlLow | undControlEven => apply RoundTrip.undControlEven
  | mul => apply RoundTrip.mul | mla => apply RoundTrip.mla | umull => apply RoundTrip.umull
  | umlal => apply RoundTrip.umlal | smull => apply RoundTrip.smull | smlal => apply RoundTrip.smlal
  | undMultiply => apply RoundTrip.undMultiply | swp => apply RoundTrip.swp | swpb => apply RoundTrip.swpb
  | undSwapHigh => apply RoundTrip.undSwapHigh | undSwapOdd => apply RoundTrip.undSwapOdd
  | undSwapEven => apply RoundTrip.undSwapEven | strh => apply RoundTrip.strh | ldrh => apply RoundTrip.ldrh
  | ldrsb => apply RoundTrip.ldrsb | ldrsh => apply RoundTrip.ldrsh | undSignedStore => apply RoundTrip.undSignedStore
  | ldr => apply RoundTrip.ldr | ldrPost => apply RoundTrip.ldrPost | ldrt => apply RoundTrip.ldrt
  | str => apply RoundTrip.str | strPost => apply RoundTrip.strPost | strt => apply RoundTrip.strt
  | ldrb => apply RoundTrip.ldrb | ldrbPost => apply RoundTrip.ldrbPost | ldrbt => apply RoundTrip.ldrbt
  | strb => apply RoundTrip.strb | strbPost => apply RoundTrip.strbPost | strbt => apply RoundTrip.strbt
  | undSpace => apply RoundTrip.undSpace | ldm => apply RoundTrip.ldm | ldmUser => apply RoundTrip.ldmUser
  | ldmRestore => apply RoundTrip.ldmRestore | stm => apply RoundTrip.stm | stmUser => apply RoundTrip.stmUser
  | b => apply RoundTrip.b | bl => apply RoundTrip.bl | ldcPre => apply RoundTrip.ldcPre
  | ldcUp => apply RoundTrip.ldcUp | ldcDown => apply RoundTrip.ldcDown | stcPre => apply RoundTrip.stcPre
  | stcUp => apply RoundTrip.stcUp | stcDown => apply RoundTrip.stcDown | undCoproc => apply RoundTrip.undCoproc
  | cdp => apply RoundTrip.cdp | mcr => apply RoundTrip.mcr | mrc => apply RoundTrip.mrc | swi => apply RoundTrip.swi
  | mrcP15c0c0o0 => apply RoundTrip.mrcP15c0c0o0 | mrcP15c0c0o2 => apply RoundTrip.mrcP15c0c0o2
  | mrcP15c0c0o3 => apply RoundTrip.mrcP15c0c0o3 | mrcP15c0c0o4 => apply RoundTrip.mrcP15c0c0o4
  | mrcP15c0c0o5 => apply RoundTrip.mrcP15c0c0o5 | mrcP15c0c0o6 => apply RoundTrip.mrcP15c0c0o6
  | mrcP15c0c0o7 => apply RoundTrip.mrcP15c0c0o7 | mrcP15c0c0o1 => apply RoundTrip.mrcP15c0c0o1
  | mrcP15c1c0o0 => apply RoundTrip.mrcP15c1c0o0 | mrcP15c2c0o0 => apply RoundTrip.mrcP15c2c0o0
  | mrcP15c2c0o1 => apply RoundTrip.mrcP15c2c0o1 | mrcP15c3c0o0 => apply RoundTrip.mrcP15c3c0o0
  | mrcP15c5c0o0 => apply RoundTrip.mrcP15c5c0o0 | mrcP15c5c0o1 => apply RoundTrip.mrcP15c5c0o1
  | mrcP15c6c0o0 => apply RoundTrip.mrcP15c6c0o0 | mrcP15c6c0o1 => apply RoundTrip.mrcP15c6c0o1
  | mrcP15c6c1o0 => apply RoundTrip.mrcP15c6c1o0 | mrcP15c6c1o1 => apply RoundTrip.mrcP15c6c1o1
  | mrcP15c6c2o0 => apply RoundTrip.mrcP15c6c2o0 | mrcP15c6c2o1 => apply RoundTrip.mrcP15c6c2o1
  | mrcP15c6c3o0 => apply RoundTrip.mrcP15c6c3o0 | mrcP15c6c3o1 => apply RoundTrip.mrcP15c6c3o1
  | mrcP15c6c4o0 => apply RoundTrip.mrcP15c6c4o0 | mrcP15c6c4o1 => apply RoundTrip.mrcP15c6c4o1
  | mrcP15c6c5o0 => apply RoundTrip.mrcP15c6c5o0 | mrcP15c6c5o1 => apply RoundTrip.mrcP15c6c5o1
  | mrcP15c6c6o0 => apply RoundTrip.mrcP15c6c6o0 | mrcP15c6c6o1 => apply RoundTrip.mrcP15c6c6o1
  | mrcP15c6c7o0 => apply RoundTrip.mrcP15c6c7o0 | mrcP15c6c7o1 => apply RoundTrip.mrcP15c6c7o1
  | mrcP15c9c0o0 => apply RoundTrip.mrcP15c9c0o0 | mrcP15c9c0o1 => apply RoundTrip.mrcP15c9c0o1
  | mrcP15c15c0o0 => apply RoundTrip.mrcP15c15c0o0 | mcrP15c1c0o0 => apply RoundTrip.mcrP15c1c0o0
  | mcrP15c2c0o0 => apply RoundTrip.mcrP15c2c0o0 | mcrP15c2c0o1 => apply RoundTrip.mcrP15c2c0o1
  | mcrP15c3c0o0 => apply RoundTrip.mcrP15c3c0o0 | mcrP15c5c0o0 => apply RoundTrip.mcrP15c5c0o0
  | mcrP15c5c0o1 => apply RoundTrip.mcrP15c5c0o1 | mcrP15c6c0o0 => apply RoundTrip.mcrP15c6c0o0
  | mcrP15c6c0o1 => apply RoundTrip.mcrP15c6c0o1 | mcrP15c6c1o0 => apply RoundTrip.mcrP15c6c1o0
  | mcrP15c6c1o1 => apply RoundTrip.mcrP15c6c1o1 | mcrP15c6c2o0 => apply RoundTrip.mcrP15c6c2o0
  | mcrP15c6c2o1 => apply RoundTrip.mcrP15c6c2o1 | mcrP15c6c3o0 => apply RoundTrip.mcrP15c6c3o0
  | mcrP15c6c3o1 => apply RoundTrip.mcrP15c6c3o1 | mcrP15c6c4o0 => apply RoundTrip.mcrP15c6c4o0
  | mcrP15c6c4o1 => apply RoundTrip.mcrP15c6c4o1 | mcrP15c6c5o0 => apply RoundTrip.mcrP15c6c5o0
  | mcrP15c6c5o1 => apply RoundTrip.mcrP15c6c5o1 | mcrP15c6c6o0 => apply RoundTrip.mcrP15c6c6o0
  | mcrP15c6c6o1 => apply RoundTrip.mcrP15c6c6o1 | mcrP15c6c7o0 => apply RoundTrip.mcrP15c6c7o0
  | mcrP15c6c7o1 => apply RoundTrip.mcrP15c6c7o1 | mcrP15c9c0o0 => apply RoundTrip.mcrP15c9c0o0
  | mcrP15c9c0o1 => apply RoundTrip.mcrP15c9c0o1 | mcrP15c15c0o0 => apply RoundTrip.mcrP15c15c0o0
  | mcrP15c7c5o0 => apply RoundTrip.mcrP15c7c5o0 | mcrP15c7c5o2 => apply RoundTrip.mcrP15c7c5o2
  | mcrP15c7c6o0 => apply RoundTrip.mcrP15c7c6o0 | mcrP15c7c6o2 => apply RoundTrip.mcrP15c7c6o2
  | mcrP15c7c10o2 => apply RoundTrip.mcrP15c7c10o2 | mcrP15c7c13o1 => apply RoundTrip.mcrP15c7c13o1
  | mcrP15c7c14o2 => apply RoundTrip.mcrP15c7c14o2 | mcrP15c7c0o4 => apply RoundTrip.mcrP15c7c0o4
  | mcrP15c15c8o2 => apply RoundTrip.mcrP15c15c8o2 | mcrP15c7c10o4 => apply RoundTrip.mcrP15c7c10o4
  | mcrP15c7c8o2 => apply RoundTrip.mcrP15c7c8o2 | mcrP15c7c5o1 => apply RoundTrip.mcrP15c7c5o1
  | mrcP14c0c0o0 => apply RoundTrip.mrcP14c0c0o0 | mcrP14c1c0o0 => apply RoundTrip.mcrP14c1c0o0
  | mrcP14c1c0o0 => apply RoundTrip.mrcP14c1c0o0 | tLslImm => apply RoundTrip.tLslImm
  | tLsrImm => apply RoundTrip.tLsrImm | tAsrImm => apply RoundTrip.tAsrImm | tAddReg => apply RoundTrip.tAddReg
  | tSubReg => apply RoundTrip.tSubReg | tAddImm3 => apply RoundTrip.tAddImm3 | tSubImm3 => apply RoundTrip.tSubImm3
  | tMovImm => apply RoundTrip.tMovImm | tCmpImm => apply RoundTrip.tCmpImm | tAddImm8 => apply RoundTrip.tAddImm8
  | tSubImm8 => apply RoundTrip.tSubImm8 | tAnd => apply RoundTrip.tAnd | tEor => apply RoundTrip.tEor
  | tLslReg => apply RoundTrip.tLslReg | tLsrReg => apply RoundTrip.tLsrReg | tAsrReg => apply RoundTrip.tAsrReg
  | tAdc => apply RoundTrip.tAdc | tSbc => apply RoundTrip.tSbc | tRorReg => apply RoundTrip.tRorReg
  | tTst => apply RoundTrip.tTst | tNeg => apply RoundTrip.tNeg | tCmpReg => apply RoundTrip.tCmpReg
  | tCmn => apply RoundTrip.tCmn | tOrr => apply RoundTrip.tOrr | tMul => apply RoundTrip.tMul
  | tBic => apply RoundTrip.tBic | tMvn => apply RoundTrip.tMvn | tAddHi => apply RoundTrip.tAddHi
  | tAddLoHi => apply RoundTrip.tAddLoHi | tAddLow => apply RoundTrip.tAddLow | tCmpHi => apply RoundTrip.tCmpHi
  | tCmpLoHi => apply RoundTrip.tCmpLoHi | tCmpLow => apply RoundTrip.tCmpLow | tMovHi => apply RoundTrip.tMovHi
  | tMovLoHi => apply RoundTrip.tMovLoHi | tMovLow => apply RoundTrip.tMovLow | tBx => apply RoundTrip.tBx
  | tBxHigh => apply RoundTrip.tBxHigh | tLdrPc => apply RoundTrip.tLdrPc | tStrReg => apply RoundTrip.tStrReg
  | tStrbReg => apply RoundTrip.tStrbReg | tLdrReg => apply RoundTrip.tLdrReg | tLdrbReg => apply RoundTrip.tLdrbReg
  | tStrhReg => apply RoundTrip.tStrhReg | tLdrhReg => apply RoundTrip.tLdrhReg | tLdsbReg => apply RoundTrip.tLdsbReg
  | tLdshReg => apply RoundTrip.tLdshReg | tStrImm => apply RoundTrip.tStrImm | tLdrImm => apply RoundTrip.tLdrImm
  | tStrbImm => apply RoundTrip.tStrbImm | tLdrbImm => apply RoundTrip.tLdrbImm | tStrhImm => apply RoundTrip.tStrhImm
  | tLdrhImm => apply RoundTrip.tLdrhImm | tStrSp => apply RoundTrip.tStrSp | tLdrSp => apply RoundTrip.tLdrSp
  | tAddPc => apply RoundTrip.tAddPc | tAddSp => apply RoundTrip.tAddSp | tAddSpImm => apply RoundTrip.tAddSpImm
  | tSubSpImm => apply RoundTrip.tSubSpImm | tPush => apply RoundTrip.tPush | tPop => apply RoundTrip.tPop
  | tUndB1 => apply RoundTrip.tUndB1 | tUndB2 => apply RoundTrip.tUndB2 | tUndB6 => apply RoundTrip.tUndB6
  | tUndB8 => apply RoundTrip.tUndB8 | tUndBE => apply RoundTrip.tUndBE | tStmia => apply RoundTrip.tStmia
  | tLdmia => apply RoundTrip.tLdmia | tBeq => apply RoundTrip.tBeq | tBne => apply RoundTrip.tBne
  | tBcs => apply RoundTrip.tBcs | tBcc => apply RoundTrip.tBcc | tBmi => apply RoundTrip.tBmi
  | tBpl => apply RoundTrip.tBpl | tBvs => apply RoundTrip.tBvs | tBvc => apply RoundTrip.tBvc
  | tBhi => apply RoundTrip.tBhi | tBls => apply RoundTrip.tBls | tBge => apply RoundTrip.tBge
  | tBlt => apply RoundTrip.tBlt | tBgt => apply RoundTrip.tBgt | tBle => apply RoundTrip.tBle
  | tUndCond => apply RoundTrip.tUndCond | tSwi => apply RoundTrip.tSwi | tB => apply RoundTrip.tB
  | tUndE8 => apply RoundTrip.tUndE8 | tBlFirst => apply RoundTrip.tBlFirst | tBlSecond => apply RoundTrip.tBlSecond

end Sys2Proof.Machine
end

section
/-!
PROOFS. The step that runs a stored instruction.
-/

namespace Sys2Proof.Machine
open Laws

/-! The conditions of a quiet and of a direct state by name. -/

/-- The parts of `State.direct`. -/
structure Direct (s : State) : Prop where
  active : s.dbg.active = false
  dbgen : s.pins.dbgen = false
  p : s.cp15.p = false
  i : s.cp15.i = false
  c : s.cp15.c = false
  wbuf : s.wbuf = []
  busErrors : s.busErrors = []

theorem direct_iff (s : State) : s.direct = true ↔ Direct s := by
  simp only [State.direct, State.undebugged, Bool.and_eq_true, Bool.not_eq_true', decide_eq_true_eq]
  exact ⟨fun ⟨⟨⟨⟨⟨⟨ha, hd⟩, hp⟩, hi⟩, hc⟩, hw⟩, he⟩ => ⟨ha, hd, hp, hi, hc, hw, he⟩,
    fun ⟨ha, hd, hp, hi, hc, hw, he⟩ => ⟨⟨⟨⟨⟨⟨ha, hd⟩, hp⟩, hi⟩, hc⟩, hw⟩, he⟩⟩

/-- The parts of `State.quiet`. -/
structure Quiet (s : State) : Prop where
  inputs : s.inputs = []
  bnRES : s.pins.bnRES = true
  resetHeld : s.resetHeld = false
  waiting : s.waiting = false
  active : s.dbg.active = false
  dbgen : s.pins.dbgen = false
  fiq : s.pins.nFIQ = true ∨ s.flagF = true
  irq : s.pins.nIRQ = true ∨ s.flagI = true

theorem quiet_iff (s : State) : s.quiet = true ↔ Quiet s := by
  simp only [State.quiet, State.undebugged, Bool.and_eq_true, Bool.or_eq_true, Bool.not_eq_true', decide_eq_true_eq]
  exact ⟨fun ⟨⟨⟨⟨⟨⟨hn, hr⟩, hh⟩, hw⟩, ha, hd⟩, hf⟩, hi⟩ => ⟨hn, hr, hh, hw, ha, hd, hf, hi⟩,
    fun ⟨hn, hr, hh, hw, ha, hd, hf, hi⟩ => ⟨⟨⟨⟨⟨⟨hn, hr⟩, hh⟩, hw⟩, ha, hd⟩, hf⟩, hi⟩⟩

/-! What a fetch and a step do there. -/

/-- With everything off, a fetch is one external read. -/
theorem fetch_direct {s : State} (h : Direct s) :
    fetch s = .done (if s.thumb then lanesGet s.cp15.b .half s.pc (memWord s.mem s.pc) else memWord s.mem s.pc) s := by
  simp [fetch, checkAccess, fetchWord, extAbort, h.p, h.i, h.busErrors]

/-- With no interrupt and no debugger an instruction boundary is the next instruction. -/
theorem boundary_of_quiet {s : State} (h : Quiet s) : boundary s = runInstruction s := by
  have fiq : (s.interruptsEnabled && !s.pins.nFIQ && !s.flagF) = false := by rcases h.fiq with e | e <;> simp [e]
  have irq : (s.interruptsEnabled && !s.pins.nIRQ && !s.flagI) = false := by rcases h.irq with e | e <;> simp [e]
  rw [boundary, State.watching, h.dbgen, fiq, irq]
  rfl

theorem advance_of_quiet {s : State} (h : Quiet s) (hw : s.wbuf = []) : advance s = runInstruction s := by
  have awake : ({ s with waiting := false } : State) = s :=
    congrArg (fun b => { s with waiting := b }) h.waiting.symm
  rw [advance, awake, h.bnRES, h.resetHeld, h.active, h.waiting, backgroundDrain_empty hw]
  exact boundary_of_quiet h

theorem runInstruction_fetches {s t : State} {w : Word} (hb : s.busy = none) (hf : fetch s.beforeFetch = .done w t) :
    runInstruction s = runFetched w t := by
  simp only [runInstruction, hb, hf]

theorem runFetched_unwatched {s : State} (w : Word) (h : s.pins.dbgen = false) :
    runFetched w s = runDecoded (decodeFetched s.thumb w) (s.showExec w) := by
  have watch : s.watching = false := by rw [State.watching, h, Bool.false_and]
  rw [runFetched, breakpointed, watchFetch, watch]
  rfl

/-- Where nothing comes first, a step runs the fetched instruction. -/
theorem step_of_quiet {s : State} {w : Word} (h : Quiet s) (hb : s.busy = none) (hw : s.wbuf = [])
    (hf : fetch s.beforeFetch = .done w s.beforeFetch) :
    step s = runDecoded (decodeFetched s.thumb w) (s.beforeFetch.showExec w) := by
  have now : step s = advance { s with instrExec := false } := by
    unfold step stepOnce
    simp only [h.inputs]
  have h' : Quiet { s with instrExec := false } :=
    ⟨h.inputs, h.bnRES, h.resetHeld, h.waiting, h.active, h.dbgen, h.fiq, h.irq⟩
  have run : runInstruction { s with instrExec := false } = runFetched w s.beforeFetch := runInstruction_fetches hb hf
  rw [now, advance_of_quiet h' hw, run]
  exact runFetched_unwatched w h.dbgen

section
variable {i : Instr} {s t : State} (hb : s.busy = none)
include hb

theorem runDecoded_next (e : exec i s = .next t) : runDecoded i s = .next (afterInstruction t) := by
  have free : ({ s with busy := none } : State) = s := congrArg (fun b => { s with busy := b }) hb.symm
  rw [runDecoded, free, e]

theorem runDecoded_fault {f : Fault} (e : exec i s = .fault f) : runDecoded i s = .fault f := by
  have free : ({ s with busy := none } : State) = s := congrArg (fun b => { s with busy := b }) hb.symm
  rw [runDecoded, free, e]

theorem runDecoded_refused {r : Refusal} (e : exec i s = .refused r) : runDecoded i s = .refused r := by
  have free : ({ s with busy := none } : State) = s := congrArg (fun b => { s with busy := b }) hb.symm
  rw [runDecoded, free, e]

end

/-- The three outcomes of a step are those of its instruction. -/
theorem stepOutcomes_of_quiet {i : Instr} {s t : State} {w : Word} (h : Quiet s) (hb : s.busy = none) (hw : s.wbuf = [])
    (hf : fetch s.beforeFetch = .done w s.beforeFetch) (hi : decodeFetched s.thumb w = i)
    (ht : s.beforeFetch.showExec w = t) :
    (∀ u, exec i t = .next u → step s = .next (afterInstruction u)) ∧
    (∀ e, exec i t = .fault e → step s = .fault e) ∧ (∀ e, exec i t = .refused e → step s = .refused e) := by
  have held : t.busy = none := ht ▸ hb
  rw [step_of_quiet h hb hw hf, hi, ht]
  exact ⟨fun u e => runDecoded_next held e, fun f e => runDecoded_fault held e, fun f e => runDecoded_refused held e⟩

/-! The placing. -/

theorem withFetchWord_eq {s : State} (h : Direct s) (n w : Nat) :
    s.withFetchWord n w =
      { s with
        cpsr := s.cpsr.extractLsb' 6 26 ++ BitVec.ofBool (n == 16) ++ s.cpsr.extractLsb' 0 5
        busy := none
        mem := storeFetchWord s n w } := by
  rw [State.withFetchWord, placeFetchWord, drainWriteBuffer_empty h.wbuf, h.i]
  rfl

/-- The CPSR with another T bit. -/
theorem withThumb_getLsbD (c : Word) (t : Bool) {k : Nat} (hk : k < 32) :
    (c.extractLsb' 6 26 ++ BitVec.ofBool t ++ c.extractLsb' 0 5 : Word).getLsbD k = if k = 5 then t else c.getLsbD k := by
  rw [BitVec.getLsbD_append, BitVec.getLsbD_append]
  by_cases hl : k < 5
  · simp [hl, show k ≠ 5 by omega]
  by_cases he : k = 5
  · subst he
    simp
  · simp [hl, he, show ¬ k - 5 < 1 by omega, show 6 + (k - 5 - 1) = k by omega, show k - 5 - 1 < 26 by omega]

section
variable {s : State} (hd : Direct s) (n w : Nat)
include hd

theorem withFetchWord_thumb : (s.withFetchWord n w).thumb = (n == 16) := by
  rw [withFetchWord_eq hd]
  exact (withThumb_getLsbD s.cpsr _ (by decide)).trans (if_pos rfl)

theorem withFetchWord_direct : Direct (s.withFetchWord n w) := by
  rw [withFetchWord_eq hd]
  exact ⟨hd.active, hd.dbgen, hd.p, hd.i, hd.c, hd.wbuf, hd.busErrors⟩

theorem withFetchWord_quiet (hq : Quiet s) : Quiet (s.withFetchWord n w) := by
  have keeps {k : Nat} (hk : k < 32) (h5 : k ≠ 5) := (withThumb_getLsbD s.cpsr (n == 16) hk).trans (if_neg h5)
  rw [withFetchWord_eq hd]
  exact ⟨hq.inputs, hq.bnRES, hq.resetHeld, hq.waiting, hq.active, hq.dbgen,
    hq.fiq.imp_right (keeps (k := 6) (by decide) (by decide)).trans,
    hq.irq.imp_right (keeps (k := 7) (by decide) (by decide)).trans⟩

end

/-- What the next step fetches is the item that was placed. -/
theorem withFetchWord_fetches {s : State} (hd : Direct s) (hm : s.mem.wf = true) {n w : Nat}
    (hn : (n = 32 ∧ w < 2 ^ 32) ∨ (n = 16 ∧ w < 2 ^ 16)) :
    fetch (s.withFetchWord n w).beforeFetch = .done (BitVec.ofNat 32 w) (s.withFetchWord n w).beforeFetch := by
  have hd' : Direct (s.withFetchWord n w).beforeFetch :=
    have h := withFetchWord_direct hd n w
    ⟨h.active, h.dbgen, h.p, h.i, h.c, h.wbuf, h.busErrors⟩
  have ht : (s.withFetchWord n w).beforeFetch.thumb = (n == 16) := withFetchWord_thumb hd n w
  rw [fetch_direct hd', ht, withFetchWord_eq hd]
  rcases hn with ⟨rfl, -⟩ | ⟨rfl, hw⟩
  · exact congrArg (Access.done · _) (memWrite_word_same s.pc _ hm)
  · have small : (BitVec.ofNat 32 w).toNat < 2 ^ 16 := Nat.lt_of_le_of_lt (Nat.mod_le ..) hw
    exact congrArg (Access.done · _) (memWrite_half_same s.pc _ s.cp15.b hm small)

/-- Outside the word at the pc, memory is as it was. -/
theorem storeFetchWord_other {s : State} (hm : s.mem.wf = true) (n w : Nat) {a : Word} (ha : wordAddr a ≠ wordAddr s.pc) :
    memWord (storeFetchWord s n w) a = memWord s.mem a := by
  unfold storeFetchWord
  split <;> exact memWord_memWrite_other s.pc a _ _ hm ha

/-- A placed halfword leaves the other half of its word. -/
theorem storeFetchWord_otherHalf {s : State} (hm : s.mem.wf = true) (w : Nat) :
    lanesGet s.cp15.b .half (s.pc ^^^ 2#32) (memWord (storeFetchWord s 16 w) (s.pc ^^^ 2#32)) =
      s.memItem .half (s.pc ^^^ 2#32) :=
  memWrite_half_other s.pc _ s.cp15.b hm

/-! The item as a code word. -/

theorem decodeTableWord_arm (w : Word) : decodeTableWord 32 w.toNat = some (decode (.arm w)) := by
  have bytes : wordOfBytes (fld w 0 8) (fld w 8 8) (fld w 16 8) (fld w 24 8) = w := bytes_append w
  rw [decodeTableWord, if_neg (by decide), if_pos rfl, BitVec.ofNat_toNat, BitVec.setWidth_eq]
  exact congrArg (fun v => some (decodeArm v)) bytes

theorem decodeTableWord_thumb (h : BitVec 16) : decodeTableWord 16 h.toNat = some (decode (.thumb h)) := by
  have bytes : halfOfBytes (fld h 0 8) (fld h 8 8) = h := by
    unfold halfOfBytes fld
    exact BitVec.extractLsb'_append_extractLsb'_eq_extractLsb' rfl |>.trans (by simp)
  rw [decodeTableWord, if_pos rfl, BitVec.ofNat_toNat, BitVec.setWidth_eq]
  exact congrArg (fun v => some (decodeThumb v)) bytes

theorem decodeFetched_arm (w : Word) : decodeFetched false (BitVec.ofNat 32 w.toNat) = decode (.arm w) := by
  rw [BitVec.ofNat_toNat, BitVec.setWidth_eq]
  rfl

theorem decodeFetched_thumb_half (h : BitVec 16) :
    decodeFetched true (BitVec.ofNat 32 h.toNat) = decode (.thumb h) := by
  have low : (BitVec.ofNat 32 h.toNat).extractLsb' 0 16 = h := by
    apply BitVec.eq_of_toNat_eq
    have := h.isLt
    simp
    omega
  exact congrArg (fun v => decode (.thumb v)) low

/-- The next step after the placing runs the instruction of the placed item. -/
theorem withFetchWord_runs {i : Instr} {s : State} (hq : Quiet s) (hd : Direct s) (hm : s.mem.wf = true) {n w : Nat}
    (hn : (n = 32 ∧ w < 2 ^ 32) ∨ (n = 16 ∧ w < 2 ^ 16)) (hi : decodeFetched (n == 16) (BitVec.ofNat 32 w) = i) :
    let placed := s.withFetchWord n w
    let runs := placed.condPassed (condField (n == 16) (BitVec.ofNat 32 w))
    let r := exec i { placed.beforeFetch with instrExec := runs }
    (∃ mem : Memory,
      placed =
        { s with
          cpsr := s.cpsr.extractLsb' 6 26 ++ BitVec.ofBool (n == 16) ++ s.cpsr.extractLsb' 0 5
          busy := none
          mem := mem } ∧
      (n = 16 → placed.memItem .half (s.pc ^^^ 2#32) = s.memItem .half (s.pc ^^^ 2#32)) ∧
      ∀ a, wordAddr a ≠ wordAddr s.pc → memWord mem a = memWord s.mem a) ∧
    (∀ u, r = .next u → step placed = .next (afterInstruction u)) ∧
    (∀ e, r = .fault e → step placed = .fault e) ∧
    (∀ e, r = .refused e → step placed = .refused e) := by
  intro placed runs r
  have held : placed.busy = none := congrArg State.busy (withFetchWord_eq hd n w)
  have thumb : placed.thumb = (n == 16) := withFetchWord_thumb hd n w
  have shown : placed.beforeFetch.showExec (BitVec.ofNat 32 w) = { placed.beforeFetch with instrExec := runs } := by
    change { placed.beforeFetch with instrExec := placed.condPassed (condField placed.thumb (BitVec.ofNat 32 w)) } = _
    rw [thumb]
  refine ⟨⟨storeFetchWord s n w, withFetchWord_eq hd n w, ?_, fun a ha => storeFetchWord_other hm n w ha⟩,
    stepOutcomes_of_quiet (withFetchWord_quiet hd n w hq) held (withFetchWord_direct hd n w).wbuf
      (withFetchWord_fetches hd hm hn) (by rw [thumb, hi]) shown⟩
  rintro rfl
  rw [State.memItem, show placed = _ from withFetchWord_eq hd 16 w]
  exact storeFetchWord_otherHalf hm w

/-- Settles O41: the placed item is what the next fetch returns, and it decodes to the instruction. -/
theorem storedInstructionRuns : Obligations.StoredInstructionRuns := by
  intro i s hw hq hd hm
  have hq := (quiet_iff s).mp hq
  have hd := (direct_iff s).mp hd
  have hi := roundTrip i hw
  generalize encode i = code at hi ⊢
  cases code with
  | arm w =>
    intro _ _ _
    exact ⟨(decodeTableWord_arm w).trans (congrArg some hi),
      withFetchWord_runs hq hd hm (.inl ⟨rfl, w.isLt⟩) ((decodeFetched_arm w).trans hi)⟩
  | thumb h =>
    intro _ _ _
    exact ⟨(decodeTableWord_thumb h).trans (congrArg some hi),
      withFetchWord_runs hq hd hm (.inr ⟨rfl, h.isLt⟩) ((decodeFetched_thumb_half h).trans hi)⟩

end Sys2Proof.Machine
end

section
/-!
PROOFS. The debugger's accesses through the TAP: a scan of chain 2 by the fields of the value shifted in.
-/

namespace Sys2Proof.Machine
open Laws

/-! The value that an access through scan chain 2 shifts in (R597): a read/write bit, an address and a word. -/

/-- The 67 bits of an access. -/
def accessBits (rw : BitVec 1) (addr : BitVec 5) (data : Word) : BitVec 67 := 0#29 ++ rw ++ addr ++ data

/-- The register of scan chain 2 takes the low 38 bits. -/
theorem accessBits_register (rw : BitVec 1) (addr : BitVec 5) (data : Word) :
    (accessBits rw addr data).extractLsb' 0 38 = (rw ++ addr ++ data : BitVec 38) := by
  apply BitVec.eq_of_getLsbD_eq
  intro i hi
  rw [BitVec.getLsbD_extractLsb', accessBits, Nat.zero_add]
  change (_ && BitVec.getLsbD (w := 29 + 1 + 5 + 32) (_ ++ _ ++ _ ++ _) i) =
    BitVec.getLsbD (w := 1 + 5 + 32) (_ ++ _ ++ _) i
  simp only [BitVec.getLsbD_append, hi, decide_true, Bool.true_and]
  by_cases hd : i < 32
  · simp only [hd, if_true]
  by_cases ha : i - 32 < 5
  · simp only [hd, ha, if_true, if_false]
  · simp only [hd, ha, if_false, show i - 32 - 5 < 1 by omega, if_true]

section
variable (rw : BitVec 1) (addr : BitVec 5) (data : Word)

theorem register_addr : (rw ++ addr ++ data : BitVec 38).extractLsb' 32 5 = addr := by
  change fld _ 32 5 = _
  simp only [HAppend.hAppend]
  simp (decide := true) only [fld_append_high, fld_append_low, fld_whole, Nat.reduceSub]

theorem register_data : (rw ++ addr ++ data : BitVec 38).extractLsb' 0 32 = data := by
  change fld _ 0 32 = _
  simp only [HAppend.hAppend]
  simp (decide := true) only [fld_append_low, fld_whole]

theorem register_write : (rw ++ addr ++ data : BitVec 38).getLsbD 37 = (rw == 1#1) := by
  change bitAt _ 37 = _
  simp only [HAppend.hAppend]
  simp (decide := true) only [bitAt_append_high, Nat.reduceSub]
  revert rw
  decide

end

/-! A scan by the register it addresses. -/

theorem applyInput_scanDr {s : State} (h : s.pins.nTRST = true) (v : BitVec 67) : applyInput (.scanDr v) s = scanDr v s :=
  if_pos h

/-- The TAP as a scan of chain 2 leaves it, with `r` in the register. -/
def Tap.scanned2 (t : Tap) (r : BitVec 38) : Tap := { t with out := t.scan2.zeroExtend 67, scan2 := r }

section
variable {s : State} (hn : s.pins.nTRST = true) (hi : s.tap.ir = 0b1100#4) (hc : s.tap.chain = 2#5)
include hn hi hc

theorem scan2_eq (rw : BitVec 1) (addr : BitVec 5) (data : Word) :
    applyInput (.scanDr (accessBits rw addr data)) s =
      update2 (rw ++ addr ++ data) (s.setOut (s.tap.scan2.zeroExtend 67)) := by
  rw [applyInput_scanDr hn, scanDr, hi, ← accessBits_register]
  change scanIntest _ s = _
  rw [scanIntest, hc]
  rfl

/-- An address of no register is refused. -/
theorem scan2_refused {rw : BitVec 1} {addr : BitVec 5} {data : Word} (h : iceReg addr = none) :
    applyInput (.scanDr (accessBits rw addr data)) s = .refused .debugPort := by
  rw [scan2_eq hn hi hc, update2, register_addr, h]

/-- A write. -/
theorem scan2_write {addr : BitVec 5} {data : Word} {r : IceReg} (h : iceReg addr = some r) :
    applyInput (.scanDr (accessBits 1#1 addr data)) s =
      iceWrite r data { s with tap := s.tap.scanned2 (1#1 ++ addr ++ data) } := by
  rw [scan2_eq hn hi hc, update2, register_addr, h, register_write, register_data]
  rfl

/-- A read. -/
theorem scan2_read {addr : BitVec 5} {data : Word} {r : IceReg} (h : iceReg addr = some r) :
    ∃ high : BitVec 6, applyInput (.scanDr (accessBits 0#1 addr data)) s =
      .next { ({ s with draws := s.draws + 1 } : State).afterIceRead r with
        tap := s.tap.scanned2 (high ++ s.iceRead r (Config.freeWord s.draws)) } := by
  rw [scan2_eq hn hi hc, update2, register_addr, h, register_write]
  refine ⟨(0#1 ++ addr ++ data : BitVec 38).extractLsb' 32 6, ?_⟩
  cases r <;> rfl

/-- A register that a write replaces and a read leaves alone, read and written through the TAP: `val` is what its `n`
bits read, `ice` the unit after the write. -/
theorem scan2_register {addr : BitVec 5} {data : Word} {r : IceReg} {n : Nat} {val : Word} {ice : Ice}
    (h : iceReg addr = some r) (h32 : n ≤ 32)
    (hw : ∀ t, iceWrite r data { s with tap := t } = .next { s with tap := t, ice := ice })
    (hr : ∀ free k, k < n → (s.iceRead r free).getLsbD k = val.getLsbD k)
    (ha : ∀ x : State, x.afterIceRead r = x) :
    ∃ t u, applyInput (.scanDr (accessBits 1#1 addr data)) s = .next t ∧ t = { s with ice := ice, tap := t.tap } ∧
      applyInput (.scanDr (accessBits 0#1 addr data)) s = .next u ∧ u = { s with tap := u.tap, draws := u.draws } ∧
      ∀ k, k < n → u.tap.scan2.getLsbD k = val.getLsbD k := by
  obtain ⟨high, read⟩ := scan2_read hn hi hc (data := data) h
  rw [ha] at read
  refine ⟨_, _, (scan2_write hn hi hc h).trans (hw _), rfl, read, rfl, fun k hk => ?_⟩
  rw [← hr (Config.freeWord s.draws) k hk]
  change BitVec.getLsbD (w := 6 + 32) (high ++ _) k = _
  rw [BitVec.getLsbD_append, if_pos (by omega)]

/-- A register of a whole word. -/
theorem scan2_wordRegister {addr : BitVec 5} {data : Word} {r : IceReg} {val : Word} {ice : Ice}
    (h : iceReg addr = some r)
    (hw : ∀ t, iceWrite r data { s with tap := t } = .next { s with tap := t, ice := ice })
    (hr : ∀ free, s.iceRead r free = val) (ha : ∀ x : State, x.afterIceRead r = x) :
    ∃ t u, applyInput (.scanDr (accessBits 1#1 addr data)) s = .next t ∧ t = { s with ice := ice, tap := t.tap } ∧
      applyInput (.scanDr (accessBits 0#1 addr data)) s = .next u ∧ u = { s with tap := u.tap, draws := u.draws } ∧
      u.tap.scan2.extractLsb' 0 32 = val := by
  obtain ⟨t, u, write, ht, read, hu, bits⟩ :=
    scan2_register hn hi hc h (Nat.le_refl 32) hw (fun free k _ => by rw [hr]) ha
  refine ⟨t, u, write, ht, read, hu, BitVec.eq_of_getLsbD_eq fun k hk => ?_⟩
  rw [BitVec.getLsbD_extractLsb', Nat.zero_add, bits k hk, decide_eq_true hk, Bool.true_and]

end

/-- The low bits of a register with open bits above them. -/
theorem freeAbove_getLsbD {n m : Nat} (x : BitVec n) (y : BitVec m) {k : Nat} (hk : k < m) (h32 : k < 32) :
    (x ++ y).getLsbD k = (y.zeroExtend 32).getLsbD k := by
  rw [BitVec.getLsbD_append, if_pos hk]
  simp [h32]

/-- The word that a read leaves in bits 31:0 of the register. -/
theorem readWord_low (high : BitVec 6) (w : Word) : (high ++ w : BitVec 38).extractLsb' 0 32 = w :=
  (fld_append_low high w (Nat.le_refl 32)).trans (fld_whole w)

/-- The comms control register as the debugger reads it. -/
theorem commsRead_fields (high : BitVec 6) (s : State) (free : Word) :
    (high ++ s.iceRead .commsControl free : BitVec 38).extractLsb' 28 4 = 0b0010#4 ∧
      (high ++ s.iceRead .commsControl free : BitVec 38).getLsbD 1 = s.dcc.w ∧
      (high ++ s.iceRead .commsControl free : BitVec 38).getLsbD 0 = s.dcc.r := by
  change fld _ 28 4 = _ ∧ bitAt _ 1 = _ ∧ bitAt _ 0 = _
  simp only [State.iceRead, HAppend.hAppend]
  simp (decide := true) only [fld_append_high, fld_append_low, fld_whole, bitAt_append_high, bitAt_append_low,
    bitAt_ofBool, Nat.reduceSub, and_self]

/-- Every address but the seventeen of the register map. -/
theorem iceReg_none : ∀ addr : BitVec 5,
    addr ∉ [0b01000#5, 0b01001#5, 0b01010#5, 0b01011#5, 0b10000#5, 0b10001#5, 0b10010#5, 0b10011#5] →
    addr ∉ [0b00000#5, 0b00010#5, 0b01100#5, 0b01101#5, 0b10100#5, 0b10101#5] →
    addr ≠ 0b00001#5 → addr ≠ 0b00100#5 → addr ≠ 0b00101#5 → iceReg addr = none := by
  decide

/-- Settles O58: each access through chain 2 by the register of its address, and the TAP's own registers. -/
theorem debuggerThroughTheTap : Obligations.DebuggerThroughTheTap := by
  intro s data v pins hn scan words narrow
  refine ⟨fun hi hc => ⟨?_, ?_, ?_, ?_, ?_, ?_⟩, ?_, ?_, ?_⟩
  · have word {addr r val ice} (h : iceReg addr = some r) (hw hr ha) :=
      scan2_wordRegister (data := data) (val := val) (ice := ice) hn hi hc h hw hr ha
    simp only [words, List.forall_mem_cons, List.not_mem_nil, false_implies, implies_true, and_true]
    exact ⟨word rfl (fun _ => rfl) (fun _ => rfl) (fun _ => rfl), word rfl (fun _ => rfl) (fun _ => rfl) (fun _ => rfl),
      word rfl (fun _ => rfl) (fun _ => rfl) (fun _ => rfl), word rfl (fun _ => rfl) (fun _ => rfl) (fun _ => rfl),
      word rfl (fun _ => rfl) (fun _ => rfl) (fun _ => rfl), word rfl (fun _ => rfl) (fun _ => rfl) (fun _ => rfl),
      word rfl (fun _ => rfl) (fun _ => rfl) (fun _ => rfl), word rfl (fun _ => rfl) (fun _ => rfl) (fun _ => rfl)⟩
  · have field {addr n r val ice} (h : iceReg addr = some r) (h32) (hw hr ha) :=
      scan2_register (data := data) (n := n) (val := val) (ice := ice) hn hi hc h h32 hw hr ha
    have low {n m : Nat} (y : BitVec m) (hm : m ≤ 32) (x : BitVec n) (k : Nat) (hk : k < m) :=
      freeAbove_getLsbD x y hk (Nat.lt_of_lt_of_le hk hm)
    simp only [narrow, List.forall_mem_cons, List.not_mem_nil, false_implies, implies_true, and_true]
    exact ⟨field rfl (by decide) (fun _ => rfl) (fun _ => low _ (by decide) _) (fun _ => rfl),
      field rfl (by decide) (fun _ => rfl) (fun _ => low _ (by decide) _) (fun _ => rfl),
      field rfl (by decide) (fun _ => rfl) (fun _ => low _ (by decide) _) (fun _ => rfl),
      field rfl (by decide) (fun _ => rfl) (fun _ => low _ (by decide) _) (fun _ => rfl),
      field rfl (by decide) (fun _ => rfl) (fun _ => low _ (by decide) _) (fun _ => rfl),
      field rfl (by decide) (fun _ => rfl) (fun _ => low _ (by decide) _) (fun _ => rfl)⟩
  · have write := scan2_write (addr := 0b00101#5) (data := data) (r := .commsData) hn hi hc rfl
    exact ⟨_, write, rfl⟩
  · obtain ⟨high, read⟩ := scan2_read (addr := 0b00101#5) (data := data) (r := .commsData) hn hi hc rfl
    exact ⟨_, read, readWord_low high _, rfl⟩
  · obtain ⟨high, read⟩ := scan2_read (addr := 0b00100#5) (data := data) (r := .commsControl) hn hi hc rfl
    obtain ⟨version, w, r⟩ := commsRead_fields high s (Config.freeWord s.draws)
    exact ⟨_, read, version, w, r, rfl⟩
  · intro addr rw hw hnr h1 h4 h5
    exact scan2_refused hn hi hc (iceReg_none addr hw hnr h1 h4 h5)
  · intro hi
    refine ⟨_, (applyInput_scanDr hn v).trans (by rw [scanDr, hi]; rfl), rfl⟩
  · intro hi
    refine ⟨_, (applyInput_scanDr hn v).trans (by rw [scanDr, hi]; rfl), rfl⟩
  · intro hp
    refine ⟨_, congrArg Host.Outcome.next (if_neg (ne_true_of_eq_false hp)), rfl, rfl, rfl, rfl⟩

end Sys2Proof.Machine
end

section
/-!
PROOFS. External memory byte by byte: memories that read alike, and the lanes of an access in the two byte orders.
-/

namespace Sys2Proof.Machine

/-! The canonical form. -/

/-- The first cell of a sorted memory is not below the bound, and holds something; the others lie above it. -/
theorem memSortedAbove_cons {lo k : Nat} {u : Byte} {rest : Memory} :
    memSortedAbove lo ((k, u) :: rest) = true ↔
      lo ≤ k ∧ k < 2 ^ 32 ∧ u ≠ unlistedByte ∧ memSortedAbove (k + 1) rest = true := by
  simp only [memSortedAbove, Bool.and_eq_true, decide_eq_true_eq, bne_iff_ne, and_assoc]

@[simp] theorem memGet_head (k : Nat) (u : Byte) (rest : Memory) : memGet ((k, u) :: rest) k = u := if_pos rfl

/-- Cells above the first one are read from the rest. -/
theorem memGet_tail {k a : Nat} (u : Byte) (rest : Memory) (h : k < a) : memGet ((k, u) :: rest) a = memGet rest a := by
  rw [memGet, if_neg (by omega), if_neg (by omega)]

/-- The first cell of a sorted memory is listed in every sorted memory that reads alike. -/
theorem first_cell_le {lo lo' k j : Nat} {u v : Byte} {m n : Memory} (hm : memSortedAbove lo ((k, u) :: m) = true)
    (hn : memSortedAbove lo' ((j, v) :: n) = true) (h : ∀ a, memGet ((k, u) :: m) a = memGet ((j, v) :: n) a) :
    j ≤ k := by
  obtain ⟨-, -, hu, -⟩ := memSortedAbove_cons.mp hm
  by_contra hlt
  have hj : j ≤ j := Nat.le_refl j
  have below : memSortedAbove j ((j, v) :: n) = true :=
    memSortedAbove_cons.mpr ⟨hj, (memSortedAbove_cons.mp hn).2⟩
  have := h k
  rw [memGet_head, memGet_below below (by omega)] at this
  exact hu this

/-- Sorted memories that read alike are equal. -/
theorem memory_ext {m n : Memory} {lo lo' : Nat} (hm : memSortedAbove lo m = true) (hn : memSortedAbove lo' n = true)
    (h : ∀ a, memGet m a = memGet n a) : m = n := by
  induction m generalizing n lo lo' with
  | nil => cases n with
    | nil => rfl
    | cons c n =>
      obtain ⟨j, v⟩ := c
      obtain ⟨-, -, hv, -⟩ := memSortedAbove_cons.mp hn
      exact absurd ((h j).trans (memGet_head j v n)).symm hv
  | cons c m ih =>
    obtain ⟨k, u⟩ := c
    obtain ⟨-, -, hu, hm'⟩ := memSortedAbove_cons.mp hm
    cases n with
    | nil => exact absurd ((memGet_head k u m).symm.trans (h k)) hu
    | cons d n =>
      obtain ⟨j, v⟩ := d
      obtain ⟨-, -, -, hn'⟩ := memSortedAbove_cons.mp hn
      obtain rfl : j = k :=
        Nat.le_antisymm (first_cell_le hm hn h) (first_cell_le hn hm fun a => (h a).symm)
      obtain rfl : u = v := by simpa using h j
      rw [ih hm' hn' fun a => ?_]
      by_cases ha : j < a
      · simpa only [memGet_tail _ _ ha] using h a
      · rw [memGet_below hm' (by omega), memGet_below hn' (by omega)]

/-- Settles O35, by the rules of `memSet` and by induction on the two lists of cells. -/
theorem memoryIsCanonical : Obligations.MemoryIsCanonical := fun m _ a b v hm hn =>
  ⟨memSet_wf v hm, memGet_memSet_same m 0 a v hm, memGet_memSet_other m 0 a b v hm, memory_ext hm hn⟩

/-! The lanes of an access. -/

/-- The address of a byte within its word. -/
theorem laneOf_byte (big : Bool) (a : Word) :
    laneOf big .byte a = if big then 3 - a.toNat % 4 else a.toNat % 4 := by
  have low : (a.extractLsb' 0 2).toNat = a.toNat % 4 := by simp
  rw [laneOf, low]

/-- A halfword begins at an even lane. -/
theorem laneOf_half_eq (big : Bool) (a : Word) :
    laneOf big .half a = 2 * if big then 1 - a.toNat / 2 % 2 else a.toNat / 2 % 2 := by
  have bit : (a.extractLsb' 1 1).toNat = a.toNat / 2 % 2 := by
    rw [BitVec.extractLsb'_toNat, Nat.shiftRight_eq_div_pow]
  rw [laneOf, bit]
  split <;> rfl

/-- The item of an access is the bits from its lowest lane up, zero-extended. -/
theorem lanesGet_field {mask w : Word} {k n : Nat} (hm : ∀ i < 32, mask.getLsbD i = decide (i < n)) :
    (w >>> (8 * k)) &&& mask = (w.extractLsb' (8 * k) n).zeroExtend 32 := by
  apply BitVec.eq_of_getLsbD_eq
  intro i hi
  simp only [BitVec.getLsbD_and, BitVec.getLsbD_ushiftRight, hm i hi, BitVec.truncate_eq_setWidth,
    BitVec.getLsbD_setWidth, BitVec.getLsbD_extractLsb', hi, decide_true, Bool.true_and]
  exact Bool.and_comm ..

/-- A bit of a word in memory after a write of some of its lanes. -/
theorem getLsbD_memWrite {m : Memory} (a : Word) (lanes : BitVec 4) (v : Word) (h : m.wf = true) {i : Nat} (hi : i < 32) :
    (memWord (memWrite m a lanes v) a).getLsbD i =
      if lanes.getLsbD (i / 8) then v.getLsbD i else (memWord m a).getLsbD i := by
  have byte := congrArg (·.getLsbD (i % 8)) (byteOf_memWrite a lanes v h (k := i / 8) (by omega))
  have bit (w : Word) : (byteOf w (i / 8)).getLsbD (i % 8) = w.getLsbD i := by
    rw [byteOf_getLsbD w (by omega), Nat.div_add_mod]
  rw [← bit, ← bit v, ← bit (memWord m a)]
  exact byte.trans (apply_ite (fun b : Byte => b.getLsbD (i % 8)) ..)

/-- A bit of an item moved to its lanes. -/
theorem lanesPut_getLsbD (v : Word) {k i : Nat} (hi : i < 32) (hk : 8 * k ≤ i) :
    (v <<< (8 * k)).getLsbD i = v.getLsbD (i - 8 * k) := by
  rw [BitVec.getLsbD_shiftLeft]
  simp [hi, Nat.not_lt.mpr hk]

theorem byteLane_getLsbD : ∀ k < 4, ∀ j < 4, (1#4 <<< k).getLsbD j = decide (j = k) := by decide

theorem halfLane_getLsbD : ∀ h < 2, ∀ j < 4, (3#4 <<< (2 * h)).getLsbD j = decide (j / 2 = h) := by decide

/-- A word in memory after the store of a byte (R104, R105). -/
theorem memStored_byte_getLsbD {s : State} (a v : Word) (h : s.mem.wf = true) {k : Nat}
    (hl : laneOf s.cp15.b .byte a = k) (hk : k < 4) {i : Nat} (hi : i < 32) :
    (memWord (s.memStored .byte a v) a).getLsbD i =
      if i / 8 = k then v.getLsbD (i % 8) else (memWord s.mem a).getLsbD i := by
  change (memWord (memWrite s.mem a (1#4 <<< laneOf s.cp15.b .byte a) (v <<< (8 * laneOf s.cp15.b .byte a))) a).getLsbD i = _
  rw [hl, getLsbD_memWrite a _ _ h hi, byteLane_getLsbD k hk _ (by omega)]
  simp only [decide_eq_true_eq]
  split_ifs with hw
  · rw [lanesPut_getLsbD v hi (by omega), show i - 8 * k = i % 8 by omega]
  · rfl

/-- A word in memory after the store of a halfword (R104, R105). -/
theorem memStored_half_getLsbD {s : State} (a v : Word) (h : s.mem.wf = true) {k : Nat}
    (hl : laneOf s.cp15.b .half a = 2 * k) (hk : k < 2) {i : Nat} (hi : i < 32) :
    (memWord (s.memStored .half a v) a).getLsbD i =
      if i / 16 = k then v.getLsbD (i % 16) else (memWord s.mem a).getLsbD i := by
  change (memWord (memWrite s.mem a (3#4 <<< laneOf s.cp15.b .half a) (v <<< (8 * laneOf s.cp15.b .half a))) a).getLsbD i = _
  rw [hl, getLsbD_memWrite a _ _ h hi, halfLane_getLsbD k hk _ (by omega), Nat.div_div_eq_div_mul]
  simp only [decide_eq_true_eq]
  split_ifs with hw
  · rw [lanesPut_getLsbD v hi (by omega), show i - 8 * (2 * k) = i % 16 by omega]
  · rfl

theorem wordAddr_idem (a : Word) : wordAddr (wordAddr a) = wordAddr a := by
  unfold wordAddr
  rw [BitVec.and_assoc, BitVec.and_self]

/-- The word at the address of a word. -/
theorem memWord_wordAddr (m : Memory) (a : Word) : memWord m (wordAddr a) = memWord m a := by
  unfold memWord
  rw [wordAddr_idem]

/-- Settles O16: an access reads and writes the bits of its lanes. -/
theorem byteLanesOfBothOrders : Obligations.ByteLanesOfBothOrders := by
  intro s a v hm big k h
  have byteMask : ∀ i < 32, (0xFF#32).getLsbD i = decide (i < 8) := by decide
  have halfMask : ∀ i < 32, (0xFFFF#32).getLsbD i = decide (i < 16) := by decide
  have byteLane : laneOf big .byte a = k := laneOf_byte big a
  have halfLane : laneOf big .half a = 2 * h := laneOf_half_eq big a
  have k_lt : k < 4 := by simp only [k]; split <;> omega
  have h_lt : h < 2 := by simp only [h]; split <;> omega
  refine ⟨rfl, ?_, ?_, ?_, fun i => memStored_half_getLsbD a v hm halfLane h_lt,
    fun i => memStored_byte_getLsbD a v hm byteLane k_lt, fun sz b hb => ?_⟩
  · change (memWord s.mem a >>> (8 * laneOf big .half a)) &&& 0xFFFF#32 = _
    rw [halfLane, lanesGet_field halfMask, ← Nat.mul_assoc]
  · change (memWord s.mem a >>> (8 * laneOf big .byte a)) &&& 0xFF#32 = _
    rw [byteLane, lanesGet_field byteMask]
  · change memWord (memWrite s.mem (wordAddr a) 15#4 (v <<< (8 * 0))) a = v
    rw [← memWord_wordAddr, memWrite_word_same _ _ hm, Nat.mul_zero, BitVec.shiftLeft_zero]
  · refine memWord_memWrite_other _ b _ _ hm fun e => hb (e.trans ?_)
    cases sz with
    | word => exact wordAddr_idem a
    | byte => rfl
    | half => rfl

end Sys2Proof.Machine
end

section
/-!
PROOFS. The protection unit: regions as ranges of addresses, the highest one that holds an address, and the outcomes of a
check.
-/

namespace Sys2Proof.Machine
open Laws

/-! A region as a range of addresses. -/

/-- The first address of a region (R50). -/
def Region.first (r : Region) : Nat := 4096 * r.base.toNat

/-- The bytes of a region (R50). -/
def Region.bytes (r : Region) : Nat := 2 ^ (r.size.toNat + 1)

/-- Every region register is one that some word writes. -/
theorem Region.exists_ofWord (r : Region) : ∃ v : Word, Region.ofWord v = r ∧ v.toNat / 4096 = r.base.toNat := by
  have word (v : Word) (hb : v.extractLsb' 12 20 = r.base) (hs : v.extractLsb' 1 5 = r.size) (he : v.getLsbD 0 = r.enable) :
      Region.ofWord v = r ∧ v.toNat / 4096 = r.base.toNat := by
    refine ⟨by rw [Region.ofWord, hb, hs, he], ?_⟩
    have := v.isLt
    rw [← hb, BitVec.extractLsb'_toNat, Nat.shiftRight_eq_div_pow]
    omega
  refine ⟨(r.base ++ 0#6 ++ r.size ++ BitVec.ofBool r.enable : BitVec 32), word _ ?_ ?_ ?_⟩
  · change fld (_ ++ _ ++ _ ++ _ : BitVec (20 + 6 + 5 + 1)) 12 20 = _
    simp (decide := true) only [HAppend.hAppend, fld_append_high, fld_whole, Nat.reduceSub]
  · change fld (_ ++ _ ++ _ ++ _ : BitVec (20 + 6 + 5 + 1)) 1 5 = _
    simp (decide := true) only [HAppend.hAppend, fld_append_high, fld_append_low, fld_whole, Nat.reduceSub]
  · change bitAt (_ ++ _ ++ _ ++ _ : BitVec (20 + 6 + 5 + 1)) 0 = _
    simp (decide := true) only [HAppend.hAppend, bitAt_append_low, bitAt_ofBool]

/-- A region is formed when it is at least 4KB and its base a multiple of its size (R111). -/
theorem Region.formed_iff (r : Region) : r.formed = true ↔ 4096 ≤ r.bytes ∧ r.first % r.bytes = 0 := by
  obtain ⟨v, rfl, hv⟩ := r.exists_ofWord
  rw [region_formed_iff, hv, Nat.mul_comm]
  rfl

theorem Region.first_toNat (r : Region) : BitVec.toNat (w := 20 + 12) (r.base ++ 0#12) = r.first := by
  rw [BitVec.toNat_append, Nat.shiftLeft_eq, BitVec.toNat_zero, Nat.or_zero, Region.first, Nat.mul_comm]

/-- A formed region covers the addresses from its base up, as many as its size (R111). -/
theorem Region.covers_iff {r : Region} (hf : r.enable = true → r.formed = true) (a : Word) :
    r.covers a = true ↔ r.enable = true ∧ r.first ≤ a.toNat ∧ a.toNat < r.first + r.bytes := by
  rw [Region.covers, Bool.and_eq_true]
  refine and_congr_right fun he => ?_
  obtain ⟨-, hmod⟩ := r.formed_iff.mp (hf he)
  have pos : 0 < r.bytes := Nat.two_pow_pos _
  have first : r.first = r.first / r.bytes * r.bytes := (Nat.div_mul_cancel (Nat.dvd_of_mod_eq_zero hmod)).symm
  rw [beq_iff_eq, ← BitVec.toNat_inj, BitVec.toNat_ushiftRight, BitVec.toNat_ushiftRight, Nat.shiftRight_eq_div_pow,
    Nat.shiftRight_eq_div_pow, Region.first_toNat]
  change a.toNat / r.bytes = r.first / r.bytes ↔ _
  rw [Nat.div_eq_iff pos]
  omega

/-! The highest region. -/

theorem topRegion_none {rs : Vector Region 8} {a : Word} {n : Nat} :
    topRegion rs a n = none ↔ ∀ m : Fin 8, m.val < n → rs[m].covers a = false := by
  induction n with
  | zero => simp [topRegion]
  | succ n ih =>
    have split : (∀ m : Fin 8, m.val < n + 1 → rs[m].covers a = false) ↔
        (∀ h : n < 8, rs[n].covers a = false) ∧ ∀ m : Fin 8, m.val < n → rs[m].covers a = false := by
      constructor
      · exact fun h => ⟨fun hn => h ⟨n, hn⟩ (Nat.lt_succ_self n), fun m hm => h m (Nat.lt_succ_of_lt hm)⟩
      · rintro ⟨hn, h⟩ m hm
        rcases Nat.lt_succ_iff_lt_or_eq.mp hm with hlt | rfl
        · exact h m hlt
        · exact hn m.isLt
    rw [topRegion, split, ← ih]
    split_ifs with hn hc
    · simp [hn, hc]
    · simp [hn, hc]
    · simp [hn]

theorem topRegion_some {rs : Vector Region 8} {a : Word} {k : Fin 8} (hk : rs[k].covers a = true)
    (above : ∀ m : Fin 8, k < m → rs[m].covers a = false) {n : Nat} (hn : k.val < n) : topRegion rs a n = some k := by
  induction n with
  | zero => omega
  | succ n ih => 
    rw [topRegion]
    rcases Nat.lt_succ_iff_lt_or_eq.mp hn with hlt | rfl
    · split_ifs with h8 hc
      · exact absurd (above ⟨n, h8⟩ hlt) (ne_false_of_eq_true hc)
      · exact ih hlt
      · exact ih hlt
    · rw [dif_pos k.isLt]
      exact if_pos hk

/-! The outcomes of a check. -/

theorem permitted_iff (ap : BitVec 2) (write privileged : Bool) :
    permitted ap write privileged = true ↔
      ap = 3#2 ∨ (ap = 2#2 ∧ (privileged = true ∨ write = false)) ∨ (ap = 1#2 ∧ privileged = true) := by
  revert ap write privileged
  decide

section
variable {c : Cp15} (hp : c.p = true) {side : Side} {a : Word} {write privileged : Bool}
include hp

/-- An enabled region that is not formed is a fault of every check (R111). -/
theorem checkAccess_malformed (h : ∃ n : Fin 8, (c.regions side)[n].enable = true ∧ (c.regions side)[n].formed = false) :
    checkAccess c side a write privileged = .fault .regionMalformed := by
  rw [checkAccess, hp, if_neg (by decide), if_pos]
  obtain ⟨n, he, hf⟩ := h
  exact List.any_eq_true.mpr ⟨(c.regions side)[n], by simp, by rw [he, hf]; rfl⟩

variable (h : ∀ n : Fin 8, (c.regions side)[n].enable = true → (c.regions side)[n].formed = true)
include h

omit hp in
/-- No region is enabled and malformed. -/
theorem no_malformed : ¬ ((c.regions side).toList.any fun r => r.enable && !r.formed) = true := by
  rw [List.any_eq_true]
  rintro ⟨r, hr, hm⟩
  obtain ⟨n, hn, rfl⟩ := Vector.mem_iff_getElem.mp (Vector.mem_toList_iff.mp hr)
  simp only [Bool.and_eq_true, Bool.not_eq_true'] at hm
  exact absurd (h ⟨n, hn⟩ hm.1) (ne_true_of_eq_false hm.2)

/-- An address in no region (R113). -/
theorem checkAccess_none (hn : topRegion (c.regions side) a 8 = none) :
    checkAccess c side a write privileged = .abort := by
  rw [checkAccess, hp, if_neg (by decide), if_neg (no_malformed h), hn]

/-- The highest region that holds the address decides (R112, R114). -/
theorem checkAccess_some {n : Fin 8} (hn : topRegion (c.regions side) a 8 = some n) :
    checkAccess c side a write privileged =
      if permitted ((c.ap side).extractLsb' (2 * n.val) 2) write privileged then
        .pass ((c.cachable side).getLsbD n.val) (side == .data && c.bufferable.getLsbD n.val)
      else .abort := by
  rw [checkAccess, hp, if_neg (by decide), if_neg (no_malformed h), hn]

end

/-- Settles O48: the regions as ranges, and the permission table of the highest one that holds the address. -/
theorem regionsDecideAccesses : Obligations.RegionsDecideAccesses := by
  intro c side a write privileged base size on formed holds ap allowed
  have formed_iff (n : Fin 8) : formed n ↔ (c.regions side)[n].formed = true := ((c.regions side)[n].formed_iff).symm
  refine ⟨fun hp => by rw [checkAccess, hp]; rfl, fun hp ⟨n, he, hn⟩ => ?_, fun hp hf => ?_⟩
  · exact checkAccess_malformed hp ⟨n, he, Bool.eq_false_iff.mpr (mt (formed_iff n).mpr hn)⟩
  have hf' (n : Fin 8) (he : (c.regions side)[n].enable = true) := (formed_iff n).mp (hf n he)
  have covers_iff (n : Fin 8) : (c.regions side)[n].covers a = true ↔ holds n := Region.covers_iff (hf' n) a
  have uncovered {n : Fin 8} (h : ¬ holds n) : (c.regions side)[n].covers a = false :=
    Bool.eq_false_iff.mpr (mt (covers_iff n).mp h)
  refine ⟨fun none => checkAccess_none hp hf' (topRegion_none.mpr fun m _ => uncovered (none m)), fun n hn above => ?_⟩
  · have top := topRegion_some ((covers_iff n).mpr hn) (fun m hm => uncovered (above m hm)) n.isLt
    rw [checkAccess_some hp hf' top]
    have allowed_iff := permitted_iff (ap n) write privileged
    refine ⟨fun h => ?_, fun h => ?_⟩
    · exact (if_pos (allowed_iff.mpr h)).trans (by cases side <;> rfl)
    · exact if_neg (mt allowed_iff.mp h)

end Sys2Proof.Machine
end

section
/-!
PROOFS. The write buffer: which entries leave it, in what order, what an entry writes, and what a buffered store adds.
-/

namespace Sys2Proof.Machine

/-! Entries that leave the buffer. -/

/-- `t` is `s` after `gone` have left the write buffer in this order, with `d` free values drawn, none under `WB_FIFO`. -/
structure Drained (s : State) (gone rest : List WbEntry) (d : Nat) (t : State) : Prop where
  state : t = { s with wbuf := rest, mem := gone.foldl wbWrite s.mem, draws := s.draws + d }
  leaves : s.leaves gone rest
  fifo : s.wbFifo = true → d = 0

theorem Drained.refl (s : State) : Drained s [] s.wbuf 0 s :=
  ⟨rfl, ⟨List.Perm.refl _, List.Sublist.refl _, fun _ => rfl⟩, fun _ => rfl⟩

theorem Drained.trans {s t u : State} {gone gone' rest rest' : List WbEntry} {d d' : Nat}
    (h : Drained s gone rest d t) (g : Drained t gone' rest' d' u) : Drained s (gone ++ gone') rest' (d + d') u := by
  obtain ⟨rfl, ⟨perm, sub, order⟩, fifo⟩ := h
  obtain ⟨rfl, ⟨perm', sub', order'⟩, fifo'⟩ := g
  refine ⟨?_, ⟨?_, sub'.trans sub, fun hf => ?_⟩, fun hf => by rw [fifo hf, fifo' hf]⟩
  · simp only [List.foldl_append, Nat.add_assoc]
  · rw [List.append_assoc]
    exact (perm'.append_left gone).trans perm
  · rw [List.append_assoc, order' hf]
    exact order hf

/-- One entry leaves a buffer that has one. -/
theorem drainOne_drained {s : State} (h : s.wbuf ≠ []) :
    ∃ e rest d, Drained s [e] rest d (drainOne s) := by
  obtain ⟨e, rest, hw⟩ := List.exists_cons_of_ne_nil h
  cases hf : s.wbFifo with
  | true =>
    refine ⟨e, rest, 0, ?_, ⟨by rw [hw]; exact List.Perm.refl _, by rw [hw]; exact List.sublist_cons_self e rest,
      fun _ => hw.symm⟩, fun _ => rfl⟩
    simp only [drainOne, hw, hf]
    rfl
  | false =>
    have hi := drainIndex_lt h
    have hget : s.wbuf[drainIndex s]? = some s.wbuf[drainIndex s] := List.getElem?_eq_getElem hi
    refine ⟨s.wbuf[drainIndex s], s.wbuf.eraseIdx (drainIndex s), 1, ?_,
      ⟨List.getElem_cons_eraseIdx_perm hi, List.eraseIdx_sublist _ _, fun e => absurd e (by rw [hf]; decide)⟩,
      fun e => absurd e (by rw [hf]; decide)⟩
    unfold drainOne
    split
    · contradiction
    · rw [if_neg (by rw [hf]; decide), hget]
      rfl

theorem drainOne_empty {s : State} (h : s.wbuf = []) : drainOne s = s := by
  unfold drainOne
  split
  · rfl
  · rename_i hw
    rw [h] at hw
    cases hw

theorem drainSome_drained (n : Nat) (s : State) : ∃ gone rest d, Drained s gone rest d (drainSome n s) := by
  induction n generalizing s with
  | zero => exact ⟨_, _, _, .refl s⟩
  | succ n ih =>
    obtain ⟨gone, rest, d, h⟩ := ih (drainOne s)
    rw [drainSome]
    by_cases hw : s.wbuf = []
    · rw [drainOne_empty hw] at h ⊢
      exact ⟨gone, rest, d, h⟩
    · obtain ⟨e, rest', d', h'⟩ := drainOne_drained hw
      exact ⟨_, _, _, h'.trans h⟩

/-- A drain writes out every entry (R153). -/
theorem drainWriteBuffer_drained (s : State) : ∃ gone d, Drained s gone [] d (drainWriteBuffer s) := by
  obtain ⟨gone, rest, d, h⟩ := drainSome_drained s.wbuf.length s
  have empty : rest = [] := (congrArg State.wbuf h.state).symm.trans (drainWriteBuffer_wbuf s)
  exact ⟨gone, d, empty ▸ h⟩

/-- Between two instructions some entries leave, and nothing else changes but the count of free values (R154). -/
theorem backgroundDrain_drainsTo (s : State) : s.drainsTo (backgroundDrain s) := by
  unfold backgroundDrain
  split
  · exact ⟨_, _, 0, (Drained.refl s).leaves, rfl⟩
  · obtain ⟨gone, rest, d, h⟩ :=
      drainSome_drained (Config.freeChoice s.draws % (s.wbuf.length + 1)) { s with draws := s.draws + 1 }
    exact ⟨gone, rest, 1 + d, h.leaves, h.state.trans (by simp only [Nat.add_assoc])⟩

/-- What every entry that leaves leaves as it is, a run of them does. -/
theorem drainSome_commutes {f : State → State} (h : ∀ s, drainOne (f s) = f (drainOne s)) (n : Nat) (s : State) :
    drainSome n (f s) = f (drainSome n s) := by
  induction n generalizing s with
  | zero => rfl
  | succ n ih => rw [drainSome, drainSome, h, ih]

/-- The write buffer drains without a look at the DCache. -/
theorem drainWriteBuffer_with_dcache (s : State) (c : Cache) :
    drainWriteBuffer { s with dcache := c } = { drainWriteBuffer s with dcache := c } := by
  refine drainSome_commutes (f := fun s => { s with dcache := c }) (fun s => ?_) s.wbuf.length s
  unfold drainOne drainIndex
  dsimp only
  split
  · rfl
  · split <;> rfl

/-- The machine between two instructions, in the wait state or not: no instruction is in the Execute stage. -/
def State.between (s : State) (waiting : Bool) : State := { s with waiting := waiting, instrExec := false }

/-- The write buffer drains without a look at the wait state. -/
theorem backgroundDrain_between (s : State) (waiting : Bool) :
    backgroundDrain (s.between waiting) = (backgroundDrain s).between waiting := by
  have one (s : State) : drainOne (s.between waiting) = (drainOne s).between waiting := by
    unfold drainOne drainIndex State.between
    dsimp only
    split
    · rfl
    · split <;> rfl
  have buffer : (s.between waiting).wbuf = s.wbuf := rfl
  by_cases h : s.wbuf = []
  · rw [backgroundDrain_empty h, backgroundDrain_empty (buffer.trans h)]
  · rw [backgroundDrain, backgroundDrain, buffer, if_neg h, if_neg h]
    exact drainSome_commutes (f := (·.between waiting)) one _ { s with draws := s.draws + 1 }

/-! Room for a new entry. -/

/-- There is a free address slot, and `n` data slots are free (R150). -/
def Room (es : List WbEntry) (n : Nat) : Prop := es.length < 4 ∧ wbSlots es + n ≤ 8

theorem wbFull_iff (n : Nat) (s : State) : wbFull n true s = true ↔ ¬ Room s.wbuf n := by
  simp only [wbFull, Room, Bool.true_and, Bool.or_eq_true, decide_eq_true_eq]
  omega

theorem Room.perm {es fs : List WbEntry} (h : es.Perm fs) (n : Nat) : Room es n ↔ Room fs n := by
  rw [Room, Room, h.length_eq, wbSlots, wbSlots, (h.map _).sum_eq]

/-- No more entries leave than are needed for the room that is asked for. -/
theorem makeRoom_drained (slots n : Nat) (s : State) :
    ∃ gone rest d, Drained s gone rest d (makeRoom slots true n s) ∧
      ∀ before last, gone = before ++ [last] → ¬ Room (last :: rest) slots := by
  induction n generalizing s with
  | zero => exact ⟨_, _, _, .refl s, fun before last e => by simp at e⟩
  | succ n ih =>
    rw [makeRoom]
    split
    · rename_i full
      obtain ⟨gone, rest, d, h, minimal⟩ := ih (drainOne s)
      by_cases hw : s.wbuf = []
      · rw [drainOne_empty hw] at h ⊢
        exact ⟨gone, rest, d, h, minimal⟩
      obtain ⟨e, rest', d', h'⟩ := drainOne_drained hw
      have all := h'.trans h
      refine ⟨_, _, _, all, fun before last eq => ?_⟩
      have newest := congrArg List.getLast? eq
      rcases List.eq_nil_or_concat gone with rfl | ⟨gone', last', rfl⟩
      · obtain rfl : e = last := by simpa using newest
        exact fun room => (wbFull_iff slots s).mp full ((Room.perm all.leaves.1 slots).mp room)
      · obtain rfl : last' = last := by
          rwa [List.concat_eq_append, ← List.append_assoc, List.getLast?_concat, List.getLast?_concat, Option.some.injEq] at newest
        exact minimal gone' last' (by simp)
    · exact ⟨_, _, _, .refl s, fun before last e => by simp at e⟩

/-- A new entry goes behind the others, for which no more entries leave than are needed (R150, R152). -/
theorem wbNew_eq (e : WbEntry) (s : State) :
    ∃ gone rest d,
      wbNew e s = { s with wbuf := rest ++ [e], mem := gone.foldl wbWrite s.mem, draws := s.draws + d } ∧
      s.leaves gone rest ∧ (s.wbFifo = true → d = 0) ∧ (e.data.length ≤ 8 → Room rest e.data.length) ∧
      ∀ before last, gone = before ++ [last] → ¬ Room (last :: rest) e.data.length := by
  obtain ⟨gone, rest, d, h, minimal⟩ := makeRoom_drained e.data.length s.wbuf.length s
  have kept : (makeRoom e.data.length true s.wbuf.length s).wbuf = rest := congrArg State.wbuf h.state
  refine ⟨gone, rest, d, ?_, h.leaves, h.fifo, fun he => ?_, minimal⟩
  · rw [wbNew, kept, h.state]
  · obtain ⟨address, slots⟩ := makeRoom_room e.data.length true he s.wbuf.length s (Nat.le_refl _)
    rw [kept] at address slots
    exact ⟨address rfl, slots⟩

/-- The DCache keeps its lines when an entry is put into the buffer. -/
@[simp] theorem wbNew_dcache (e : WbEntry) (s : State) : (wbNew e s).dcache = s.dcache := by
  obtain ⟨gone, rest, d, h, -⟩ := wbNew_eq e s
  rw [h]

/-! Buffered stores. -/

/-- A single store is an entry of its own (R151). -/
theorem wbPut_single (a : Word) (lanes : BitVec 4) (v : Word) (s : State) :
    wbPut a lanes v false s = wbNew { addr := a, lanes := lanes, data := [v] } s := rfl

/-- A buffer with a free data slot needs no room for one more word. -/
theorem wbFull_one_iff (s : State) : wbFull 1 false s = true ↔ 8 ≤ wbSlots s.wbuf := by
  simp only [wbFull, Bool.false_and, Bool.false_or, decide_eq_true_eq]
  omega

theorem makeRoom_one {s : State} (h : wbSlots s.wbuf < 8) (n : Nat) : makeRoom 1 false n s = s := by
  cases n with
  | zero => rfl
  | succ n => rw [makeRoom, if_neg (mt (wbFull_one_iff s).mp (Nat.not_le.mpr h))]

theorem newestStays_free {s : State} (h : wbSlots s.wbuf < 8) (n : Nat) : newestStays n s = true := by
  cases n with
  | zero => rfl
  | succ n => rw [newestStays, if_neg (mt (wbFull_one_iff s).mp (Nat.not_le.mpr h))]

/-- The word after the first of an STM joins the entry of the word before it, or not, by its address (R151). -/
theorem wbPut_join {a : Word} {lanes : BitVec 4} {v : Word} {s t : State} {es : List WbEntry} {last : WbEntry}
    (stays : newestStays s.wbuf.length s = true) (room : makeRoom 1 false s.wbuf.length s = t) (ht : t.wbuf = es ++ [last])
    (ha : last.addr + BitVec.ofNat 32 (4 * last.data.length) = a) :
    wbPut a lanes v true s =
      if a.extractLsb' 0 4 = 0#4 then wbNew { addr := a, lanes := lanes, data := [v] } s
      else { t with wbuf := es ++ [{ last with data := last.data ++ [v] }] } := by
  have joins : wbJoins last a = !decide (a.extractLsb' 0 4 = 0#4) := by
    rw [wbJoins, ha, beq_self_eq_true, Bool.true_and]
    rfl
  simp only [wbPut, stays, room, ht, List.getLast?_concat, joins, Bool.and_self, List.dropLast_concat]
  by_cases h : a.extractLsb' 0 4 = 0#4 <;> simp [h]

/-- Under `WB_FIFO` the oldest entry leaves. -/
theorem drainOne_fifo {s : State} {e : WbEntry} {rest : List WbEntry} (hf : s.wbFifo = true) (h : s.wbuf = e :: rest) :
    drainOne s = { s with wbuf := rest, mem := wbWrite s.mem e } := by
  simp only [drainOne, h, hf, if_true]

/-- A word joins its entry in a full buffer once the oldest entry has left it (R150, R151). -/
theorem wbPut_join_full {a : Word} {lanes : BitVec 4} {v : Word} {s : State} {oldest last : WbEntry} {es : List WbEntry}
    (hw : s.wbuf = oldest :: es ++ [last]) (hs : wbSlots s.wbuf = 8) (ho : oldest.data ≠ []) (hf : s.wbFifo = true)
    (ha : last.addr + BitVec.ofNat 32 (4 * last.data.length) = a) (h0 : a.extractLsb' 0 4 ≠ 0#4) :
    wbPut a lanes v true s =
      { s with wbuf := es ++ [{ last with data := last.data ++ [v] }], mem := wbWrite s.mem oldest } := by
  have full : wbFull 1 false s = true := (wbFull_one_iff s).mpr (Nat.le_of_eq hs.symm)
  have one : drainOne s = { s with wbuf := es ++ [last], mem := wbWrite s.mem oldest } := drainOne_fifo hf hw
  have free : wbSlots (drainOne s).wbuf < 8 := by
    have pos := List.length_pos_of_ne_nil ho
    rw [hw] at hs
    rw [one]
    simp only [wbSlots, List.cons_append, List.map_cons, List.sum_cons] at hs ⊢
    omega
  have length : s.wbuf.length = es.length + 1 + 1 := by simp [hw]
  have stays : newestStays s.wbuf.length s = true := by
    rw [length, newestStays, if_pos full, newestStays_free free, length, drainIndex, hf]
    simp
  have room : makeRoom 1 false s.wbuf.length s = drainOne s := by rw [length, makeRoom, if_pos full, makeRoom_one free]
  rw [wbPut_join stays room (congrArg State.wbuf one) ha, if_neg h0, one]

/-! The words that an entry writes. -/

theorem memWord_congr {m : Memory} {a b : Word} (h : wordAddr a = wordAddr b) : memWord m a = memWord m b := by
  rw [← memWord_wordAddr, h, memWord_wordAddr]

/-- The written word takes the lanes of the new one (R104). -/
theorem memWord_memWrite {m : Memory} (a : Word) (lanes : BitVec 4) (v : Word) (h : m.wf = true) (b : Word) :
    memWord (memWrite m a lanes v) b =
      if wordAddr a = wordAddr b then mergeLanes lanes (memWord m b) v else memWord m b := by
  split_ifs with hb
  · rw [← memWord_congr hb, ← memWord_congr hb, memWord_memWrite_same a lanes v h, mergeLanes,
      byteOf_memWord _ _ (by decide), byteOf_memWord _ _ (by decide), byteOf_memWord _ _ (by decide),
      byteOf_memWord _ _ (by decide)]
    rfl
  · exact memWord_memWrite_other a b lanes v h fun e => hb e.symm

/-- The address of a word some words further on. -/
theorem wordAddr_ahead {a : Word} (h : wordAddr a = a) (k : Nat) :
    wordAddr (a + BitVec.ofNat 32 (4 * k)) = a + BitVec.ofNat 32 (4 * k) := by
  have low := wordAddr_toNat a
  apply BitVec.eq_of_toNat_eq
  rw [wordAddr_toNat, BitVec.toNat_add]
  rw [h] at low
  simp only [BitVec.toNat_ofNat]
  omega

/-- A word of memory after the words of an entry have been written, the first at `a`. -/
theorem memWord_wbWriteWords {m : Memory} {a : Word} (lanes : BitVec 4) (vs : List Word) (h : m.wf = true)
    (ha : wordAddr a = a) (b : Word) :
    memWord (wbWriteWords m a lanes vs) b = wbOverlayWords a lanes (wordAddr b) (memWord m b) vs := by
  induction vs generalizing m a with
  | nil => rfl
  | cons v vs ih =>
    rw [wbWriteWords, wbOverlayWords, ih (memWrite_wf a lanes v h) (wordAddr_ahead ha 1), memWord_memWrite a lanes v h, ha]

/-- A word of memory after the entries of a buffer have been written is what a coherent reader sees (R160). -/
theorem memWord_foldl_wbWrite {m : Memory} (es : List WbEntry) (h : m.wf = true) (b : Word) :
    memWord (es.foldl wbWrite m) b = wbOverlay es b (memWord m b) := by
  induction es generalizing m with
  | nil => rfl
  | cons e es ih =>
    rw [List.foldl_cons, ih (wbWrite_wf e h), wbWrite, memWord_wbWriteWords _ _ h (wordAddr_idem e.addr)]
    rfl

/-- The words of an entry change no word that is not at one of their addresses. -/
theorem wbOverlayWords_other {a target old : Word} (lanes : BitVec 4) {vs : List Word}
    (h : ∀ k < vs.length, a + BitVec.ofNat 32 (4 * k) ≠ target) : wbOverlayWords a lanes target old vs = old := by
  induction vs generalizing a with
  | nil => rfl
  | cons v vs ih =>
    have head : a ≠ target := by simpa using h 0 (Nat.succ_pos _)
    rw [wbOverlayWords, if_neg head]
    refine ih fun k hk => ?_
    have := h (k + 1) (Nat.succ_lt_succ hk)
    rwa [Nat.mul_succ, Nat.add_comm (4 * k), BitVec.ofNat_add, ← BitVec.add_assoc] at this

/-- A word of an entry changes the word at its address. -/
theorem wbOverlayWords_at {a old : Word} (lanes : BitVec 4) {vs : List Word} (hn : vs.length ≤ 8) {k : Nat}
    (hk : k < vs.length) :
    wbOverlayWords a lanes (a + BitVec.ofNat 32 (4 * k)) old vs = mergeLanes lanes old vs[k] := by
  induction vs generalizing a k with
  | nil => cases hk
  | cons v vs ih =>
    rw [List.length_cons] at hn
    have later (j : Nat) (hj : j < 8) : a + 4#32 + BitVec.ofNat 32 (4 * j) = a + BitVec.ofNat 32 (4 * (j + 1)) := by
      rw [Nat.mul_succ, Nat.add_comm (4 * j), BitVec.ofNat_add, ← BitVec.add_assoc]
    have apart (j : Nat) (hj : j < 8) : a + BitVec.ofNat 32 (4 * (j + 1)) ≠ a := by
      intro e
      have := congrArg BitVec.toNat e
      simp only [BitVec.toNat_add, BitVec.toNat_ofNat] at this
      have := a.isLt
      omega
    cases k with
    | zero =>
      rw [Nat.mul_zero, BitVec.add_zero, wbOverlayWords, if_pos rfl]
      exact wbOverlayWords_other lanes fun j hj => later j (by omega) ▸ apart j (by omega)
    | succ k =>
      have hk' : k < vs.length := Nat.lt_of_succ_lt_succ hk
      rw [wbOverlayWords, if_neg (apart k (by omega)).symm, ← later k (by omega)]
      exact ih (by omega) hk'

/-- A word that no entry writes is as it was. -/
theorem memWord_foldl_wbWrite_other {m : Memory} {es : List WbEntry} (hm : m.wf = true) {b : Word}
    (h : ∀ e ∈ es, ∀ k < e.data.length, wordAddr e.addr + BitVec.ofNat 32 (4 * k) ≠ wordAddr b) :
    memWord (es.foldl wbWrite m) b = memWord m b := by
  induction es generalizing m with
  | nil => rfl
  | cons e es ih =>
    rw [List.foldl_cons, ih (wbWrite_wf e hm) fun e he => h e (List.mem_cons_of_mem _ he), wbWrite,
      memWord_wbWriteWords _ _ hm (wordAddr_idem e.addr), wbOverlayWords_other _ (h e List.mem_cons_self)]

/-- Settles O52: how entries leave the buffer, the room a new one waits for, and the words that each writes. -/
theorem writeBufferEntries : Obligations.WriteBufferEntries := by
  intro s e a v lanes fits single joined
  refine ⟨fun he => ?_, wbPut_single a lanes v s, fun es last hw hs ha => ?_, fun oldest es last hw hs ho hf ha h0 => ?_,
    backgroundDrain_drainsTo s, backgroundDrain_empty, betweenInputs_cases s, fun hw hr hb => ?_, ?_, fun hm he => ?_⟩
  · obtain ⟨gone, rest, d, h, leaves, fifo, room, minimal⟩ := wbNew_eq e s
    exact ⟨gone, rest, d, h, leaves, fifo, room he, minimal⟩
  · have put := wbPut_join (lanes := lanes) (v := v) (newestStays_free hs _) (makeRoom_one hs _) hw ha
    exact ⟨fun h0 => put.trans (if_neg h0), fun h0 => put.trans (if_pos h0)⟩
  · exact wbPut_join_full hw hs ho hf ha h0
  · rw [State.betweenInputs, if_neg (by simp [hw, hr, hb])]
  · obtain ⟨gone, d, h⟩ := drainWriteBuffer_drained s
    exact ⟨gone, d, h.state, h.leaves, h.fifo⟩
  · intro word
    have aligned (k : Nat) : wordAddr (word k) = word k := wordAddr_ahead (wordAddr_idem e.addr) k
    refine ⟨fun k hk => ?_, fun b hb => ?_⟩
    · rw [wbWrite, memWord_wbWriteWords _ _ hm (wordAddr_idem e.addr), aligned]
      exact wbOverlayWords_at e.lanes he hk
    · exact memWord_foldl_wbWrite_other (es := [e]) hm (by simpa using hb)

end Sys2Proof.Machine
end

section
/-!
PROOFS. The caches: their lines after a change of some, the linefills, and the operations of register 7 of CP15.
-/

namespace Sys2Proof.Machine

/-! Lines. -/

theorem Cache.line_setLine (c : Cache) (g g' : Fin 4) (i j : Fin 64) (l : Line) :
    (c.setLine g i l).line g' j = if (g', j) = (g, i) then l else c.line g' j := by
  simp only [Cache.line, Cache.setLine, Fin.getElem_fin, Vector.getElem_set, Prod.mk.injEq, ← Fin.val_inj]
  by_cases hg : g.val = g'.val <;> simp [hg, Vector.getElem_set, eq_comm]

/-- A line that is put back where it was. -/
theorem Cache.setLine_line (c : Cache) (g : Fin 4) (i : Fin 64) : c.setLine g i (c.line g i) = c := by
  simp [Cache.setLine, Cache.line]

theorem Cache.line_mapLines (f : Line → Line) (c : Cache) (g : Fin 4) (i : Fin 64) :
    (c.mapLines f).line g i = f (c.line g i) := by
  simp [Cache.mapLines, Cache.line]

theorem Cache.line_mapLine (f : Line → Line) (g g' : Fin 4) (i j : Fin 64) (c : Cache) :
    (c.mapLine f g i).line g' j = if (g', j) = (g, i) then f (c.line g i) else c.line g' j := c.line_setLine ..

/-! Linefills. -/

/-- The line that a linefill overwrites is one that the lockdown register names (R137, R138). -/
theorem Lockdown.names_victimOf (l : Lockdown) (n : Nat) : l.names (lineIdx (victimOf l n)) := by
  unfold Lockdown.names victimOf
  split
  · rfl
  · have index := l.index.isLt
    have choice := Nat.mod_lt (Config.freeChoice n) (show 0 < 64 - l.index.toNat by omega)
    simp only [lineIdx, BitVec.toNat_ofNat]
    omega

/-- The address of the line that holds an address. -/
theorem lineBase_toNat (a : Word) : (a &&& 0xFFFFFFF0#32).toNat = a.toNat / 16 * 16 := by
  have shifted : a &&& 0xFFFFFFF0#32 = (a >>> 4) <<< 4 := by
    have mask : ∀ i < 32, (0xFFFFFFF0#32).getLsbD i = decide (4 ≤ i) := by decide
    apply BitVec.eq_of_getLsbD_eq
    intro i hi
    rw [BitVec.getLsbD_and, mask i hi, BitVec.getLsbD_shiftLeft, BitVec.getLsbD_ushiftRight]
    by_cases h : 4 ≤ i
    · simp [h, hi, Nat.not_lt.mpr h]
    · simp [h, Nat.lt_of_not_le h]
  rw [shifted, BitVec.toNat_shiftLeft, BitVec.toNat_ushiftRight, Nat.shiftRight_eq_div_pow, Nat.shiftLeft_eq]
  have := a.isLt
  omega

/-- An address whose four low bits are zero is that of a line. -/
theorem lineBase_of_low {a : Word} (h : a.extractLsb' 0 4 = 0#4) : a &&& 0xFFFFFFF0#32 = a := by
  have low := congrArg BitVec.toNat h
  simp only [BitVec.extractLsb'_toNat, Nat.shiftRight_zero, BitVec.toNat_ofNat] at low
  apply BitVec.eq_of_toNat_eq
  rw [lineBase_toNat]
  omega

/-- The address of the word of its line that holds an address (R131). -/
theorem lineBase_word (a : Word) : (a &&& 0xFFFFFFF0#32) + BitVec.ofNat 32 (4 * (wordOf a).val) = wordAddr a := by
  have word : (wordOf a).val = a.toNat / 4 % 4 := by
    change (a.extractLsb' 2 2).toNat = _
    rw [BitVec.extractLsb'_toNat, Nat.shiftRight_eq_div_pow]
  apply BitVec.eq_of_toNat_eq
  rw [BitVec.toNat_add, lineBase_toNat, wordAddr_toNat, word, BitVec.toNat_ofNat]
  have := a.isLt
  omega

/-- The words of a filled line, lowest address first (R136). -/
theorem filledLine_data (get : Word → Word) (a : Word) (k : Fin 4) :
    (filledLine get a).data[k] = get ((a &&& 0xFFFFFFF0#32) + BitVec.ofNat 32 (4 * k.val)) := by
  match k with
  | 0 => exact congrArg get (BitVec.add_zero _).symm
  | 1 => rfl
  | 2 => rfl
  | 3 => rfl

/-- A line that has just been filled answers for the address of the fill. -/
theorem filledLine_word (get : Word → Word) (a : Word) : (filledLine get a).data[wordOf a] = get (wordAddr a) := by
  rw [filledLine_data, lineBase_word]

/-- The cache after a linefill of `a` that overwrites line `i` of its segment (R136). -/
def Cache.fill (c : Cache) (get : Word → Word) (a : Word) (v : BitVec 6) : Cache :=
  { c.setLine (segOf a) (lineIdx v) (filledLine get a) with victim := v }

theorem linefillI_eq (a : Word) (s : State) :
    linefillI a s =
      { s with
        icache := s.icache.fill (memWord s.mem) a (victimOf s.cp15.lockI s.draws)
        draws := s.draws + 1 } := rfl

theorem Cache.line_fill (c : Cache) (get : Word → Word) (a : Word) (v : BitVec 6) (g : Fin 4) (j : Fin 64) :
    (c.fill get a v).line g j = if (g, j) = (segOf a, lineIdx v) then filledLine get a else c.line g j :=
  c.line_setLine ..

theorem Cache.line_fill_self (c : Cache) (get : Word → Word) (a : Word) (v : BitVec 6) :
    (c.fill get a v).line (segOf a) (lineIdx v) = filledLine get a := (c.line_fill ..).trans (if_pos rfl)

/-- The lookup of a cache that is off finds nothing, as one that misses does. -/
theorem lookup_absent {on : Bool} {c : Cache} {a : Word} (h : on = false ∨ c.lookup a = .miss) :
    (if on then c.lookup a else .miss) = .miss := by
  rcases h with rfl | h
  · rfl
  · rw [h, ite_self]

/-! The operations of register 7. -/

section
variable {op : CacheOp} {cond rd : BitVec 4} {s : State} (hc : s.passes cond = true) (hm : s.mode ≠ modeUsr)
include hc hm

/-- Rd = R15 is refused (R384). -/
theorem cp15Op_pc : cp15Op op cond 15#4 s = .refused .r15Operand := by
  rw [cp15Op, cp15Access_passes hc hm, if_pos rfl]

variable (hd : rd ≠ 15#4)
include hd

theorem cp15Op_shouldBe (hz : s.reg rd &&& op.zeroBits ≠ 0#32) : cp15Op op cond rd s = .refused .cp15ShouldBe := by
  rw [cp15Op, cp15Access_passes hc hm, if_neg hd, if_pos hz]

variable (hz : s.reg rd &&& op.zeroBits = 0#32)
include hz

theorem cp15Op_allowed : cp15Op op cond rd s = afterAccess (cacheOperation op (s.reg rd) s) fun _ s => finish s := by
  rw [cp15Op, cp15Access_passes hc hm, if_neg hd, if_neg (not_not_intro hz)]

/-- An operation that completes leaves the core as it was, and the next instruction follows. -/
theorem cp15Op_done {t : State} (hr : s.room = true) (h : cacheOperation op (s.reg rd) s = .done () t)
    (active : t.dbg.active = s.dbg.active := by rfl) (pc : t.pc = s.pc := by rfl) (cpsr : t.cpsr = s.cpsr := by rfl) :
    cp15Op op cond rd s = .next { t with pc := s.pc + s.ilen } := by
  rw [cp15Op_allowed hc hm hd hz, h]
  exact finish_of_same hr active pc (congrArg (·.getLsbD 5) cpsr)

end

/-- Data that should be zero. -/
theorem and_ones_eq_zero_iff (v : Word) : v &&& 0xFFFFFFFF#32 = 0#32 ↔ v = 0#32 := by
  rw [show 0xFFFFFFFF#32 = BitVec.allOnes 32 from rfl, BitVec.and_allOnes]

/-- Settles O26: the waits set a bit, and the drain writes out every entry. -/
theorem waitAndDrain : Obligations.WaitAndDrain := by
  intro cond rd s hc hm hd hr hw awake touched
  have wakes_iff : s.wakes = true ↔ awake := by
    simp [State.wakes, State.debugRequest, awake, or_assoc]
  refine ⟨fun hz => ⟨?_, ?_⟩, fun hz => ?_, ?_⟩
  · have zero : s.reg rd &&& CacheOp.waitInterrupt.zeroBits = 0#32 := (and_ones_eq_zero_iff _).mpr hz
    have wait (b : Bool) (hb : s.wakes = !b) :
        cp15Op .waitInterrupt cond rd s = .next { s with waiting := b, pc := s.pc + s.ilen } := by
      refine cp15Op_done (t := { s with waiting := b }) hc hm hd zero hr ?_
      rw [cacheOperation, hb, Bool.not_not]
    have both : (¬ awake → cp15Op .waitInterrupt cond rd s = .next { s with waiting := true, pc := s.pc + s.ilen }) ∧
        (awake → cp15Op .waitInterrupt cond rd s = .next { s with waiting := false, pc := s.pc + s.ilen }) :=
      ⟨fun h => wait true (Bool.eq_false_iff.mpr (mt wakes_iff.mp h)), fun h => wait false (wakes_iff.mpr h)⟩
    simp only [List.forall_mem_cons, List.not_mem_nil, false_implies, implies_true, and_true]
    exact ⟨both, both⟩
  · have zero : s.reg rd &&& CacheOp.drain.zeroBits = 0#32 := (and_ones_eq_zero_iff _).mpr hz
    obtain ⟨gone, d, h⟩ := drainWriteBuffer_drained s
    refine ⟨gone, d, ?_, h.leaves, h.fifo, fun a ha => memWord_foldl_wbWrite_other hw fun e he k hk heq => ?_⟩
    · exact cp15Op_done (t := { s with wbuf := [], mem := gone.foldl wbWrite s.mem, draws := s.draws + d }) hc hm hd zero hr
        (congrArg (Access.done ()) h.state)
    · exact ha ⟨e, h.leaves.1.mem_iff.mp (List.mem_append_left [] he), k, hk, heq⟩
  · have nonzero := mt (and_ones_eq_zero_iff (s.reg rd)).mp hz
    exact ⟨cp15Op_shouldBe hc hm hd nonzero, cp15Op_shouldBe hc hm hd nonzero, cp15Op_shouldBe hc hm hd nonzero⟩
  · simp only [List.forall_mem_cons, List.not_mem_nil, false_implies, implies_true, and_true]
    exact ⟨cp15Op_pc hc hm, cp15Op_pc hc hm, cp15Op_pc hc hm⟩

/-! Flushes and cleans. -/

/-- The entry that the eviction of a line puts into the write buffer (R147). -/
def Line.entry (l : Line) (g : Fin 4) : WbEntry := { addr := lineAddr l.tag g, lanes := 15#4, data := l.data.toList }

theorem evict_eq (l : Line) (g : Fin 4) (s : State) : evict l g s = wbNew (l.entry g) s := rfl

/-- The state after a line that is valid and dirty has gone to the write buffer; any other line stays where it is. -/
def State.wroteBack (s : State) (l : Line) (g : Fin 4) : State :=
  if l.valid && l.dirty then wbNew (l.entry g) s else s

theorem wroteBack_kept (s : State) (l : Line) (g : Fin 4) : KeptCore s (s.wroteBack l g) := by
  unfold State.wroteBack
  split
  · exact wbNew_kept _ s
  · exact KeptCore.refl s

@[simp] theorem wroteBack_dcache (s : State) (l : Line) (g : Fin 4) : (s.wroteBack l g).dcache = s.dcache := by
  unfold State.wroteBack
  split
  · exact wbNew_dcache _ s
  · rfl

/-- A cleaned line is no longer both valid and dirty (R415). -/
def Line.cleaned (l : Line) : Line := { l with dirty := l.dirty && !l.valid }

theorem Line.cleaned_of_clean {l : Line} (h : (l.valid && l.dirty) = false) : l.cleaned = l := by
  obtain ⟨valid, dirty, tag, data⟩ := l
  cases valid
  · exact congrArg (Line.mk false · tag data) (Bool.and_true dirty)
  · exact congrArg (Line.mk true · tag data) ((Bool.and_false dirty).trans h.symm)

theorem cleanLine_eq (g : Fin 4) (i : Fin 64) (s : State) :
    cleanLine g i s =
      { s.wroteBack (s.dcache.line g i) g with dcache := s.dcache.setLine g i (s.dcache.line g i).cleaned } := by
  unfold cleanLine State.wroteBack
  dsimp only
  split
  · rename_i h
    simp only [Bool.and_eq_true] at h
    rw [evict_eq, wbNew_dcache, Line.cleaned, h.1, Bool.not_true, Bool.and_false]
  · rename_i h
    rw [Line.cleaned_of_clean (Bool.eq_false_iff.mpr h), Cache.setLine_line]

/-- The line that Index/segment data names. -/
theorem named_iff (v : Word) (g : Fin 4) (i : Fin 64) :
    (g, i) = (opSeg v, opIdx v) ↔ g.val = (v.extractLsb' 4 2).toNat ∧ i.val = (v.extractLsb' 26 6).toNat := by
  rw [Prod.mk.injEq, ← Fin.val_inj, ← Fin.val_inj]
  rfl

/-- Settles O24: each operation changes the lines it names, and a clean puts a valid dirty one into the buffer. -/
theorem cacheFlushesAndCleans : Obligations.CacheFlushesAndCleans := by
  constructor
  · intro cond rd s hc hm hd hr v here
    refine ⟨fun hz => ?_, fun hz => ?_, fun hz => ?_, fun hz => ?_, ?_⟩
    · have zero : s.reg rd &&& 0xFFFFFFFF#32 = 0#32 := (and_ones_eq_zero_iff v).mpr hz
      exact ⟨⟨s.icache.mapLines Line.invalid, cp15Op_done (op := .flushI) hc hm hd zero hr rfl, rfl,
          fun g i => Cache.line_mapLines ..⟩,
        ⟨s.dcache.mapLines Line.flushed, cp15Op_done (op := .flushD) hc hm hd zero hr rfl, rfl,
          fun g i => Cache.line_mapLines ..⟩⟩
    · have named (f : Line → Line) (c : Cache) (g : Fin 4) (i : Fin 64) :
          (here g i → (c.mapLine f (opSeg v) (opIdx v)).line g i = f (c.line g i)) ∧
            (¬ here g i → (c.mapLine f (opSeg v) (opIdx v)).line g i = c.line g i) := by
        rw [Cache.line_mapLine]
        refine ⟨fun h => ?_, fun h => if_neg (mt (named_iff v g i).mp h)⟩
        obtain ⟨rfl, rfl⟩ := Prod.mk.inj ((named_iff v g i).mpr h)
        exact if_pos rfl
      exact ⟨⟨s.icache.mapLine Line.invalid (opSeg v) (opIdx v), cp15Op_done (op := .flushILine) hc hm hd hz hr rfl, rfl,
          named Line.invalid s.icache⟩,
        ⟨s.dcache.mapLine Line.flushed (opSeg v) (opIdx v), cp15Op_done (op := .flushDLine) hc hm hd hz hr rfl, rfl,
          named Line.flushed s.dcache⟩⟩
    · have nonzero := mt (and_ones_eq_zero_iff v).mp hz
      exact ⟨cp15Op_shouldBe (op := .flushI) hc hm hd nonzero, cp15Op_shouldBe (op := .flushD) hc hm hd nonzero⟩
    · exact ⟨cp15Op_shouldBe (op := .flushILine) hc hm hd hz, cp15Op_shouldBe (op := .flushDLine) hc hm hd hz,
        cp15Op_shouldBe (op := .cleanDLine) hc hm hd hz, cp15Op_shouldBe (op := .cleanFlushDLine) hc hm hd hz⟩
    · simp only [List.forall_mem_cons, List.not_mem_nil, false_implies, implies_true, and_true]
      exact ⟨cp15Op_pc hc hm, cp15Op_pc hc hm, cp15Op_pc hc hm, cp15Op_pc hc hm, cp15Op_pc hc hm, cp15Op_pc hc hm⟩
  · intro cond rd s hc hm hd hr hz g i l out t
    have kept := wroteBack_kept s l g
    have entry : out = l.entry g := by
      simp only [out, Line.entry, lineAddr, g, BitVec.ofNat_toNat, BitVec.setWidth_eq]
    have ht : t = { s.wroteBack l g with pc := s.pc + s.ilen } := by
      simp only [t, entry]
      rfl
    have self : (s.dcache.setLine g i l.cleaned).line g i = l.cleaned := (Cache.line_setLine ..).trans (if_pos rfl)
    have other (g' : Fin 4) (j : Fin 64) (h : (g', j) ≠ (g, i)) :
        (s.dcache.setLine g i l.cleaned).line g' j = s.dcache.line g' j := (Cache.line_setLine ..).trans (if_neg h)
    rw [ht]
    refine ⟨⟨s.dcache.setLine g i l.cleaned, ?_, rfl, ?_⟩,
      ⟨(s.dcache.setLine g i l.cleaned).mapLine Line.flushed g i, ?_, rfl, ?_, fun g' j h => ?_⟩⟩
    · exact cp15Op_done (op := .cleanDLine) hc hm hd hz hr (congrArg (Access.done ()) (cleanLine_eq g i s)) kept.active
        kept.pc kept.cpsr
    · rw [self]
      exact ⟨rfl, rfl, rfl, rfl, other⟩
    · exact cp15Op_done (op := .cleanFlushDLine) hc hm hd hz hr
        (congrArg (fun t => Access.done () (flushDLine g i t)) (cleanLine_eq g i s)) kept.active kept.pc kept.cpsr
    · rw [Cache.line_mapLine, if_pos rfl, self]
      rfl
    · rw [Cache.line_mapLine, if_neg h, other g' j h]

/-! Prefetches and fetches of instructions. -/

section
variable {a : Word} {s : State} {c b : Bool} (h : checkAccess s.cp15 .instr a false s.privileged = .pass c b)
include h

theorem prefetchLine_double (hi : s.cp15.i = true) (hl : s.icache.lookup a = .double) :
    prefetchLine a s = .fault .cacheDoubleHit := by
  simp only [prefetchLine, h, hi, hl, if_true]

theorem prefetchLine_hit {i : Fin 64} (hi : s.cp15.i = true) (hl : s.icache.lookup a = .hit i) :
    prefetchLine a s = .done () s := by
  simp only [prefetchLine, h, hi, hl, if_true]

theorem prefetchLine_miss (hl : s.cp15.i = false ∨ s.icache.lookup a = .miss) :
    prefetchLine a s = .done () (if c && s.cp15.i && s.cp15.p then linefillI a s else s) := by
  simp only [prefetchLine, h, lookup_absent hl]
  split <;> rfl

end

/-- The low bits of an address as its last field. -/
theorem and_fifteen_eq_zero_iff (v : Word) : v &&& 0x0000000F#32 = 0#32 ↔ v.extractLsb' 0 4 = 0#4 := by
  have mask : ∀ i < 32, (0x0000000F#32).getLsbD i = decide (i < 4) := by decide
  rw [and_mask_eq_zero_iff mask, extractLsb'_eq_zero_iff]
  exact ⟨fun h i _ hi => h i (by omega) (by omega), fun h i _ hi => h i (Nat.zero_le i) (by omega)⟩

/-- Settles O25: the check, the lookup and the linefill of an instruction line.  (`prefetchLine` is the model's own
operation.) -/
theorem prefetchLine_everyCase : Obligations.PrefetchLine := by
  intro cond rd s hc hm hr
  refine ⟨cp15Op_pc hc hm, fun hd hz => ?_, fun hd hz => ?_⟩
  · exact cp15Op_shouldBe hc hm hd (mt (and_fifteen_eq_zero_iff _).mp hz)
  intro a
  have zero : s.reg rd &&& CacheOp.prefetchI.zeroBits = 0#32 := (and_fifteen_eq_zero_iff a).mpr hz
  have operation : cacheOperation .prefetchI (s.reg rd) s = prefetchLine a s :=
    congrArg (prefetchLine · s) (lineBase_of_low hz)
  have unchanged (h : prefetchLine a s = .done () s) : exec (.mcrP15c7c13o1 cond rd) s = .next s.stepped :=
    cp15Op_done hc hm hd zero hr (operation.trans h)
  have faults {e : Fault} (h : prefetchLine a s = .fault e) : exec (.mcrP15c7c13o1 cond rd) s = .fault e :=
    (cp15Op_allowed hc hm hd zero).trans (by rw [operation, h]; rfl)
  have check : checkAccess s.cp15 .instr a false true = checkAccess s.cp15 .instr a false s.privileged := by
    rw [privileged_of_mode hm]
  rw [check]
  refine ⟨fun pass hp hi miss => ?_, fun abort => ?_, fun c b i pass hi hit => ?_, fun c b pass => ⟨?_, fun hi double => ?_⟩,
    fun e fault => ?_⟩
  · refine ⟨s.icache.fill (memWord s.mem) a (victimOf s.cp15.lockI s.draws), lineIdx (victimOf s.cp15.lockI s.draws),
      ?_, Lockdown.names_victimOf .., rfl, ?_⟩
    · refine cp15Op_done (t := linefillI a s) hc hm hd zero hr (operation.trans ?_)
      rw [prefetchLine_miss pass (.inr miss), hp, hi]
      rfl
    · rw [Cache.line_fill_self]
      refine ⟨rfl, rfl, fun k => ?_, fun g j h => (Cache.line_fill ..).trans (if_neg h)⟩
      rw [filledLine_data, lineBase_of_low hz]
  · exact unchanged (by simp only [prefetchLine, abort])
  · exact unchanged (prefetchLine_hit pass hi hit)
  · rintro (hi | ⟨rfl, miss⟩)
    · exact unchanged (by rw [prefetchLine_miss pass (.inl hi), hi, Bool.and_false]; rfl)
    · exact unchanged (by rw [prefetchLine_miss pass (.inr miss)]; rfl)
  · exact faults (prefetchLine_double pass hi double)
  · exact faults (by simp only [prefetchLine, fault])

/-- What the core takes from a fetched word: in Thumb state the halfword of its lanes (R106). -/
def State.fetchItem (s : State) (w : Word) : Word := if s.thumb then lanesGet s.cp15.b .half s.pc w else w

section
variable {s : State} {c b : Bool} (h : checkAccess s.cp15 .instr s.pc false s.privileged = .pass c b)
include h

theorem fetch_double (hi : s.cp15.i = true) (hl : s.icache.lookup s.pc = .double) : fetch s = .fault .cacheDoubleHit := by
  simp only [fetch, h, fetchWord, hi, hl, if_true]

theorem fetch_hit {i : Fin 64} (hi : s.cp15.i = true) (hl : s.icache.lookup s.pc = .hit i) :
    fetch s = .done (s.fetchItem ((s.icache.line (segOf s.pc) i).data[wordOf s.pc])) s := by
  simp only [fetch, h, fetchWord, hi, hl, if_true]
  rfl

theorem fetch_external (hl : s.cp15.i = false ∨ s.icache.lookup s.pc = .miss)
    (hn : c = false ∨ s.cp15.i = false ∨ s.cp15.p = false) :
    fetch s =
      if extAbort s.busErrors .fetch s.pc then .abort s else .done (s.fetchItem (memWord s.mem s.pc)) s := by
  have uncached : (c && s.cp15.i && s.cp15.p) = false := by rcases hn with e | e | e <;> simp [e]
  simp only [fetch, h, fetchWord, lookup_absent hl, uncached]
  cases extAbort s.busErrors .fetch s.pc <;> rfl

theorem fetch_fill (hl : s.icache.lookup s.pc = .miss) (hn : (c && s.cp15.i && s.cp15.p) = true) :
    fetch s = .done (s.fetchItem (memWord s.mem s.pc)) (linefillI s.pc s) := by
  have word : ((linefillI s.pc s).icache.line (segOf s.pc) (lineIdx (linefillI s.pc s).icache.victim)).data[wordOf s.pc] =
      memWord s.mem s.pc := by
    rw [linefillI_eq]
    exact (congrArg (fun l : Line => l.data[wordOf s.pc]) (Cache.line_fill_self ..)).trans
      ((filledLine_word ..).trans (memWord_wordAddr ..))
  simp only [fetch, h, fetchWord, lookup_absent (.inr hl), hn, if_true, word]
  rfl

end

/-- Settles O54: the check, the lookup and the linefill or the external read of a fetch; stores keep the ICache. -/
theorem instructionFetchPaths : Obligations.InstructionFetchPaths := by
  intro s c b a g item absent
  refine ⟨fun abort => by simp only [fetch, abort, a], fun pass => ⟨fun i => fetch_hit pass, fetch_double pass,
    fetch_external pass, fun miss hc hi hp => ?_⟩, fun d v sz priv join t h => ?_, fun cell v t h => ?_⟩
  · refine ⟨s.icache.fill (memWord s.mem) a (victimOf s.cp15.lockI s.draws), lineIdx (victimOf s.cp15.lockI s.draws),
      fetch_fill pass miss (by rw [hc, hi, hp]; rfl), Lockdown.names_victimOf .., rfl, ?_⟩
    rw [Cache.line_fill_self]
    exact ⟨rfl, rfl, fun k => filledLine_data .., fun g' j h => (Cache.line_fill ..).trans (if_neg h)⟩
  · have kept := store_kept d sz v priv join s
    rw [h] at kept
    exact KeptCore.icache kept
  · cases h
    rfl

end Sys2Proof.Machine
end

section
/-!
PROOFS. The paths of a data access past its check, with no debugger: loads, stores and swaps through the DCache, the write
buffer and external memory.
-/

namespace Sys2Proof.Machine

theorem debugSpeed_undebugged {s : State} (hu : s.undebugged = true) : s.debugSpeed = false := by
  simp only [State.undebugged, Bool.and_eq_true, Bool.not_eq_true'] at hu
  rw [State.debugSpeed, hu.1, Bool.false_and]

/-! Past the check. -/

section
variable {a : Word} {sz : Size} {priv cd bd : Bool} {s : State} (hu : s.undebugged = true)
include hu

section
variable (h : checkAccess s.cp15 .data a false priv = .pass cd bd)
include h

theorem load_done {w : Word} {t : State} (hl : loadWord a (cd && s.cp15.c && s.cp15.p) s = .done w t) :
    load a sz priv s = .done (lanesGet s.cp15.b sz a w) t := by
  have kept := loadWord_kept a (cd && s.cp15.c && s.cp15.p) s
  rw [hl] at kept
  have kept : KeptCore s t := kept
  simp only [load, debugSpeed_undebugged hu, h, hl, kept.cp15, Bool.false_eq_true, if_false,
    watchData_undebugged _ _ _ _ _ (kept.undebugged.trans hu)]

theorem load_abort {t : State} (hl : loadWord a (cd && s.cp15.c && s.cp15.p) s = .abort t) :
    load a sz priv s = .abort t := by
  have kept := loadWord_kept a (cd && s.cp15.c && s.cp15.p) s
  rw [hl] at kept
  have kept : KeptCore s t := kept
  simp only [load, debugSpeed_undebugged hu, h, hl, Bool.false_eq_true, if_false,
    watchAborted_undebugged _ _ _ (kept.undebugged.trans hu)]

theorem load_fault {e : Fault} (hl : loadWord a (cd && s.cp15.c && s.cp15.p) s = .fault e) :
    load a sz priv s = .fault e := by
  simp only [load, debugSpeed_undebugged hu, h, hl, Bool.false_eq_true, if_false]

end

/-- A store past its check is the store of its lanes. -/
theorem store_pass (v : Word) (join : Bool) (h : checkAccess s.cp15 .data a true priv = .pass cd bd) :
    store a sz v priv join s =
      storeWord a (laneMask s.cp15.b sz a) (lanesPut s.cp15.b sz a v) (cd && s.cp15.c && s.cp15.p) (bd && s.cp15.p)
        join s := by
  have kept := storeWord_kept a (laneMask s.cp15.b sz a) (lanesPut s.cp15.b sz a v) (cd && s.cp15.c && s.cp15.p)
    (bd && s.cp15.p) join s
  simp only [store, debugSpeed_undebugged hu, h, Bool.false_eq_true, if_false]
  cases hs : storeWord a (laneMask s.cp15.b sz a) (lanesPut s.cp15.b sz a v) (cd && s.cp15.c && s.cp15.p)
    (bd && s.cp15.p) join s with
  | done u t =>
    rw [hs] at kept
    simp only [watchData_undebugged _ _ _ _ _ ((KeptCore.undebugged kept).trans hu)]
  | abort t =>
    rw [hs] at kept
    simp only [watchData_undebugged _ _ _ _ _ ((KeptCore.undebugged kept).trans hu)]
  | fault e => rfl

end

/-! The DCache and the write buffer. -/

@[simp] theorem drainWriteBuffer_dcache (s : State) : (drainWriteBuffer s).dcache = s.dcache := by
  obtain ⟨gone, d, h⟩ := drainWriteBuffer_drained s
  rw [h.state]

/-- Entries that leave a buffer leave memory in canonical form. -/
theorem foldl_wbWrite_wf {m : Memory} (es : List WbEntry) (h : m.wf = true) : (es.foldl wbWrite m).wf = true := by
  induction es generalizing m with
  | nil => exact h
  | cons e es ih => exact ih (wbWrite_wf e h)

theorem wroteBack_mem_wf {s : State} (l : Line) (g : Fin 4) (h : s.mem.wf = true) : (s.wroteBack l g).mem.wf = true := by
  unfold State.wroteBack
  split
  · obtain ⟨gone, rest, d, hn, -⟩ := wbNew_eq (l.entry g) s
    rw [hn]
    exact foldl_wbWrite_wf gone h
  · exact h

/-- External memory as a linefill sees it: with `WB_RAW_COHERENT` as it will be when the buffer has drained (R160). -/
def State.seen (s : State) : Memory := if s.wbRawCoherent then s.wbuf.foldl wbWrite s.mem else s.mem

theorem fillWordD_eq {s : State} (h : s.mem.wf = true) (a : Word) : fillWordD s a = memWord s.seen a := by
  unfold fillWordD State.seen
  split
  · exact (memWord_foldl_wbWrite s.wbuf h a).symm
  · rfl

/-- A linefill of the DCache: the line it overwrites is written back where it is valid and dirty (R136). -/
theorem linefillD_eq (a : Word) (s : State) :
    let v := victimOf s.cp15.lockD s.draws
    let t := State.wroteBack { s with draws := s.draws + 1 } (s.dcache.line (segOf a) (lineIdx v)) (segOf a)
    linefillD a s = { t with dcache := s.dcache.fill (fillWordD t) a v } := by
  intro v t
  have kept : t.dcache = s.dcache := wroteBack_dcache ..
  change ({ t with dcache := t.dcache.fill (fillWordD t) a v } : State) = _
  rw [kept]

/-! Loads. -/

section
variable {a : Word} {s : State} {gcd : Bool}

theorem loadWord_double (hc : s.cp15.c = true) (hl : s.dcache.lookup a = .double) :
    loadWord a gcd s = .fault .cacheDoubleHit := by
  simp only [loadWord, hc, hl, if_true]

theorem loadWord_hit {i : Fin 64} (hc : s.cp15.c = true) (hl : s.dcache.lookup a = .hit i) :
    loadWord a gcd s = .done ((s.dcache.line (segOf a) i).data[wordOf a]) s := by
  simp only [loadWord, hc, hl, if_true]

variable (hl : s.cp15.c = false ∨ s.dcache.lookup a = .miss)
include hl

theorem loadWord_external :
    loadWord a false s =
      if extAbort s.busErrors .read a then .abort (drainWriteBuffer s)
      else .done (memWord (drainWriteBuffer s).mem a) (drainWriteBuffer s) := by
  simp only [loadWord, lookup_absent hl, (drainWriteBuffer_kept s).busErrors]
  rfl

theorem loadWord_fill :
    loadWord a true s =
      .done (((linefillD a s).dcache.line (segOf a) (lineIdx (linefillD a s).dcache.victim)).data[wordOf a])
        (linefillD a s) := by
  simp only [loadWord, lookup_absent hl]
  rfl

end

/-! Stores. -/

section
variable {a : Word} {lanes : BitVec 4} {x : Word} {s : State} {gcd gbd join : Bool}

theorem storeExternal_eq :
    storeExternal a lanes x s =
      if extAbort s.busErrors .write a then .abort (drainWriteBuffer s)
      else .done () { drainWriteBuffer s with mem := memWrite (drainWriteBuffer s).mem a lanes x } := by
  simp only [storeExternal, (drainWriteBuffer_kept s).busErrors]

theorem storeWord_double (hc : s.cp15.c = true) (hl : s.dcache.lookup a = .double) :
    storeWord a lanes x gcd gbd join s = .fault .cacheDoubleHit := by
  simp only [storeWord, hc, hl, if_true]

theorem storeWord_absent (hl : s.cp15.c = false ∨ s.dcache.lookup a = .miss) :
    storeWord a lanes x gcd gbd join s =
      if gcd || gbd then .done () (wbPut a lanes x join s) else storeExternal a lanes x s := by
  simp only [storeWord, lookup_absent hl]

variable {i : Fin 64} (hc : s.cp15.c = true) (hl : s.dcache.lookup a = .hit i)
include hc hl

/-- A hit in a write-back region (R146). -/
theorem storeWord_hit_back : storeWord a lanes x true true join s = .done () (storeHit a lanes x true i s) := by
  simp only [storeWord, hc, hl, if_true, Bool.and_self]

/-- A hit in a write-through region, or in one that is bufferable only (R146). -/
theorem storeWord_hit_through (h : gcd ≠ gbd) :
    storeWord a lanes x gcd gbd join s = .done () (wbPut a lanes x join (storeHit a lanes x false i s)) := by
  have one : (gcd && gbd) = false ∧ (gcd || gbd) = true := by
    revert h
    cases gcd <;> cases gbd <;> decide
  simp only [storeWord, hc, hl, if_true, one, Bool.false_eq_true, if_false]

/-- A hit in a region that is neither: its abort has no behaviour (R146, S14). -/
theorem storeWord_hit_external :
    storeWord a lanes x false false join s =
      if extAbort s.busErrors .write a then .fault .abortedStoreHit
      else
        .done ()
          { drainWriteBuffer s with
            dcache := (storeHit a lanes x false i s).dcache
            mem := memWrite (drainWriteBuffer s).mem a lanes x } := by
  have drained : drainWriteBuffer (storeHit a lanes x false i s) =
      { drainWriteBuffer s with dcache := (storeHit a lanes x false i s).dcache } := drainWriteBuffer_with_dcache s _
  have errors : (storeHit a lanes x false i s).busErrors = s.busErrors := rfl
  simp only [storeWord, hc, hl, if_true, Bool.and_self, Bool.or_self, Bool.false_eq_true, if_false, storeExternal_eq,
    drained, errors]
  cases extAbort s.busErrors .write a <;> rfl

end

/-- A line whose word at `a` has taken the lanes of a store (R146). -/
def Line.merged (l : Line) (a : Word) (lanes : BitVec 4) (x : Word) : Line :=
  { l with data := l.data.set (wordOf a) (mergeLanes lanes (l.data[wordOf a]) x) }

theorem storeHit_clean (a : Word) (lanes : BitVec 4) (x : Word) (i : Fin 64) (s : State) :
    storeHit a lanes x false i s =
      { s with dcache := s.dcache.setLine (segOf a) i ((s.dcache.line (segOf a) i).merged a lanes x) } := by
  simp only [storeHit, Bool.or_false]
  rfl

theorem storeHit_dirty (a : Word) (lanes : BitVec 4) (x : Word) (i : Fin 64) (s : State) :
    storeHit a lanes x true i s =
      { s with dcache :=
        s.dcache.setLine (segOf a) i { (s.dcache.line (segOf a) i).merged a lanes x with dirty := true } } := by
  simp only [storeHit, Bool.or_true]
  rfl

/-- Settles O51: the paths of a load and of a store by the lookup and the attributes of the region. -/
theorem dataCachePaths : Obligations.DataCachePaths := by
  intro a v sz priv cd bd join s hu hp hm g lanes x item cached drained absent put
  have gbd : (bd && s.cp15.p) = bd := by rw [hp, Bool.and_true]
  have gcd : (cd && s.cp15.c && s.cp15.p) = cached := by rw [hp, Bool.and_true]
  refine ⟨fun pass => ⟨fun i hc hit => ?_, fun hc double => ?_, fun miss hn => ?_, fun miss hy => ?_⟩, fun pass => ?_⟩
  · exact load_done hu pass (loadWord_hit hc hit)
  · exact load_fault hu pass (loadWord_double hc double)
  · have external := loadWord_external miss
    rw [← hn, ← gcd] at external
    cases he : extAbort s.busErrors .read a
    · rw [he] at external
      exact load_done hu pass external
    · rw [he] at external
      exact load_abort hu pass external
  · let v := victimOf s.cp15.lockD s.draws
    let t := State.wroteBack { s with draws := s.draws + 1 } (s.dcache.line g (lineIdx v)) g
    have kept : KeptCore s t := (KeptCore.memorySide s s.dcache s.wbuf s.mem 1).trans (wroteBack_kept ..)
    have words : fillWordD t = memWord t.seen := funext (fillWordD_eq (wroteBack_mem_wf _ _ hm))
    have seen : t.seen = if s.wbRawCoherent then t.wbuf.foldl wbWrite t.mem else t.mem := by
      rw [State.seen, kept.wbRawCoherent]
    have filled : linefillD a s = { t with dcache := s.dcache.fill (memWord t.seen) a v } :=
      (linefillD_eq a s).trans (by rw [← words])
    have fill := loadWord_fill miss
    rw [← hy, ← gcd, filled] at fill
    refine ⟨s.dcache.fill (memWord t.seen) a v, lineIdx v, (load_done hu pass fill).trans ?_, Lockdown.names_victimOf ..,
      rfl, ?_⟩
    · refine congrArg (fun w => Access.done (item w) _) ?_
      exact (congrArg (fun l : Line => l.data[wordOf a]) (Cache.line_fill_self ..)).trans
        ((filledLine_word ..).trans ((memWord_wordAddr ..).trans (congrArg (memWord · a) seen)))
    · rw [Cache.line_fill_self]
      refine ⟨rfl, rfl, rfl, fun k => (filledLine_data ..).trans ?_, fun g' j h => (Cache.line_fill ..).trans (if_neg h)⟩
      exact congrArg (memWord · _) seen
  · have stored := store_pass (sz := sz) hu v join pass
    rw [gbd, gcd] at stored
    refine ⟨fun i hc hit => ⟨fun hcd hbd => ?_, fun hne => ?_, fun hcd hbd => ?_⟩, fun hc double => ?_, fun miss h => ?_,
      fun miss hn hb => ?_⟩
    · have back : cached = true := by simp only [cached, hcd, hc, Bool.and_self]
      rw [stored, back, hbd, storeWord_hit_back hc hit, storeHit_dirty]
      rfl
    · have through : cached = cd := by simp only [cached, hc, Bool.and_true]
      rw [stored, through, storeWord_hit_through hc hit hne, storeHit_clean]
      rfl
    · have external : cached = false := by simp only [cached, hcd, Bool.false_and]
      rw [stored, external, hbd, storeWord_hit_external hc hit, storeHit_clean]
      rfl
    · exact stored.trans (storeWord_double hc double)
    · exact stored.trans ((storeWord_absent miss).trans (if_pos (by simpa using h)))
    · rw [stored, hn, hb, storeWord_absent miss, Bool.or_self, if_neg Bool.false_ne_true]
      exact storeExternal_eq

/-! Swaps. -/

section
variable {t : State} {c : Cp15} {es : List BusError} (hu : t.undebugged = true) (hc : t.cp15 = c) (he : t.busErrors = es)
include hu hc he

theorem swapWrite_undebugged (a : Word) (sz : Size) (old v : Word) :
    swapWrite a sz old v t =
      if extAbort es .write a then .abort t
      else .done old { t with mem := memWrite t.mem a (laneMask c.b sz a) (lanesPut c.b sz a v) } := by
  subst hc he
  have written (m : Memory) : State.undebugged { t with mem := m } = true := hu
  simp only [swapWrite, watchSwap_undebugged _ _ _ _ hu, watchSwap_undebugged _ _ _ _ (written _)]

/-- The external read and the external write of a swap (R162, R334). -/
theorem swapBus_undebugged (a : Word) (sz : Size) (v : Word) :
    swapBus a sz v t =
      if extAbort es .read a then .abort t
      else if extAbort es .write a then .abort t
      else
        .done (lanesGet c.b sz a (memWord t.mem a))
          { t with mem := memWrite t.mem a (laneMask c.b sz a) (lanesPut c.b sz a v) } := by
  rw [swapBus, swapWrite_undebugged hu hc he, watchAborted_undebugged _ _ _ hu, hc, he]

/-- A swap whose read a left-over line answers (R162). -/
theorem swapLine_undebugged {dcache : Cache} (hd : t.dcache = dcache) (a : Word) (sz : Size) (v : Word) (i : Fin 64) :
    swapLine a sz v i t =
      if extAbort es .write a then .abort t
      else
        .done (lanesGet c.b sz a ((dcache.line (segOf a) i).data[wordOf a]))
          { t with
            dcache := dcache.setLine (segOf a) i
              ((dcache.line (segOf a) i).merged a (laneMask c.b sz a) (lanesPut c.b sz a v))
            mem := memWrite t.mem a (laneMask c.b sz a) (lanesPut c.b sz a v) } := by
  rw [swapLine, swapWrite_undebugged hu hc he]
  subst hc hd
  cases extAbort es .write a
  · exact congrArg (Access.done _) (storeHit_clean ..)
  · rfl

end

section
variable {a v : Word} {sz : Size} {s : State} (hu : s.undebugged = true)
include hu

/-- Past both checks a swap goes by its region (R162). -/
theorem swapAccess_pass {cd bd cw bw : Bool} (read : checkAccess s.cp15 .data a false s.privileged = .pass cd bd)
    (write : checkAccess s.cp15 .data a true s.privileged = .pass cw bw) :
    swapAccess a sz v s = if cd && s.cp15.c && s.cp15.p then swapCached a sz v s else swapExternal a sz v s := by
  simp only [swapAccess, debugSpeed_undebugged hu, Bool.false_eq_true, if_false, read, write]

theorem swapAccess_readRefused (read : checkAccess s.cp15 .data a false s.privileged = .abort)
    (write : ∀ f, checkAccess s.cp15 .data a true s.privileged ≠ .fault f) : swapAccess a sz v s = .abort s := by
  simp only [swapAccess, debugSpeed_undebugged hu, Bool.false_eq_true, if_false, read]
  cases h : checkAccess s.cp15 .data a true s.privileged with
  | fault f => exact absurd h (write f)
  | abort => exact congrArg Access.abort (watchAborted_undebugged _ _ _ hu)
  | pass c b => exact congrArg Access.abort (watchAborted_undebugged _ _ _ hu)

theorem swapAccess_writeRefused {cd bd : Bool} (read : checkAccess s.cp15 .data a false s.privileged = .pass cd bd)
    (write : checkAccess s.cp15 .data a true s.privileged = .abort) : swapAccess a sz v s = .abort s := by
  simp only [swapAccess, debugSpeed_undebugged hu, Bool.false_eq_true, if_false, read, write,
    watchData_undebugged _ _ _ _ _ hu]

end

/-- A malformed region is a fault of reads and of writes alike (R111). -/
theorem checkAccess_fault_write {c : Cp15} {side : Side} {a : Word} {write privileged : Bool} {f : Fault}
    (h : checkAccess c side a write privileged = .fault f) (write' : Bool) :
    checkAccess c side a write' privileged = .fault f := by
  unfold checkAccess at h ⊢
  by_cases hp : (!c.p) = true
  · rw [if_pos hp] at h
    cases h
  by_cases malformed : ((c.regions side).toList.any fun r => r.enable && !r.formed) = true
  · rw [if_neg hp, if_pos malformed] at h ⊢
    exact h
  · rw [if_neg hp, if_neg malformed] at h
    split at h
    · cases h
    · split at h <;> cases h

/-- A drain of the write buffer does not change what a lookup finds. -/
theorem lookup_drained (a : Word) (s : State) :
    (if (drainWriteBuffer s).cp15.c then (drainWriteBuffer s).dcache.lookup a else .miss) =
      if s.cp15.c then s.dcache.lookup a else .miss := by
  rw [(drainWriteBuffer_kept s).cp15, drainWriteBuffer_dcache]

section
variable {a v : Word} {sz : Size} {s : State}

theorem swapExternal_miss (h : s.cp15.c = false ∨ s.dcache.lookup a = .miss) :
    swapExternal a sz v s = swapBus a sz v (drainWriteBuffer s) := by
  simp only [swapExternal, (lookup_drained a s).trans (lookup_absent h)]

theorem swapExternal_double (hc : s.cp15.c = true) (hl : s.dcache.lookup a = .double) :
    swapExternal a sz v s = .fault .cacheDoubleHit := by
  simp only [swapExternal, (lookup_drained a s).trans ((if_pos hc).trans hl)]

/-- Whether a left-over line answers is open (R162). -/
theorem swapExternal_hit {i : Fin 64} (hc : s.cp15.c = true) (hl : s.dcache.lookup a = .hit i) :
    let t := { drainWriteBuffer s with draws := (drainWriteBuffer s).draws + 1 }
    swapExternal a sz v s = swapBus a sz v t ∨ swapExternal a sz v s = swapLine a sz v i t := by
  intro t
  simp only [swapExternal, (lookup_drained a s).trans ((if_pos hc).trans hl)]
  split
  · exact .inr rfl
  · exact .inl rfl

end

/-- Settles O53: a swap by its region, the lookup, and the answers of the platform. -/
theorem swapPaths : Obligations.SwapPaths := by
  intro a v sz cd bd cw bw s hu me g lanes x item drained bus
  have kept : KeptCore s drained := drainWriteBuffer_kept s
  have hd : drained.undebugged = true := kept.undebugged.trans hu
  refine ⟨fun read write => ⟨fun hcd hc hp => ?_, fun hn => ?_⟩, fun read => ?_, fun read write => ?_⟩
  · have cached : swapAccess a sz v s = swapCached a sz v s :=
      (swapAccess_pass hu read write).trans (if_pos (by rw [hcd, hc, hp]; rfl))
    rw [cached]
    refine ⟨fun old t u hl hs => ?_, fun f hl => ?_⟩
    · simp only [swapCached, show load a sz s.privileged s = _ from hl, show store a sz v s.privileged false t = _ from hs]
    · simp only [swapCached, show load a sz s.privileged s = _ from hl]
  · have uncached : (cd && s.cp15.c && s.cp15.p) = false := by rcases hn with e | e | e <;> simp [e]
    have external : swapAccess a sz v s = swapExternal a sz v s :=
      (swapAccess_pass hu read write).trans (if_neg (ne_true_of_eq_false uncached))
    rw [external]
    refine ⟨fun miss => ?_, swapExternal_double, fun i hc hit => (swapExternal_hit hc hit).imp (·.trans ?_) (·.trans ?_)⟩
    · rw [swapExternal_miss miss]
      exact swapBus_undebugged hd kept.cp15 kept.busErrors a sz v
    · exact swapBus_undebugged (t := { drained with draws := drained.draws + 1 }) hd kept.cp15 kept.busErrors a sz v
    · exact swapLine_undebugged (t := { drained with draws := drained.draws + 1 }) hd kept.cp15 kept.busErrors
        (drainWriteBuffer_dcache s) a sz v i
  · refine swapAccess_readRefused hu read fun f hf => ?_
    cases read.symm.trans (checkAccess_fault_write hf false)
  · exact swapAccess_writeRefused hu read write

end Sys2Proof.Machine
end

section
/-!
PROOFS. A step without inputs: debug state, the wait state, and what comes at an instruction boundary (a debug request, an
interrupt, a breakpoint) or else the instruction.
-/

namespace Sys2Proof.Machine

/-! The step up to the instruction boundary. -/

section
variable {t : State} (hb : t.pins.bnRES = true) (hr : t.resetHeld = false)
include hb hr

theorem advance_in_debug (ha : t.dbg.active = true) : advance t = .next (backgroundDrain t) := by
  rw [advance, hb, hr, ha]
  rfl

variable (ha : t.dbg.active = false)
include ha

theorem advance_asleep (hw : t.waiting = true) (hn : t.wakes = false) : advance t = .next t := by
  rw [advance, hb, hr, ha, hw, hn]
  rfl

theorem advance_awake (hw : t.waiting = true → t.wakes = true) :
    advance t = boundary (backgroundDrain { t with waiting := false }) := by
  have awake : (t.waiting && !t.wakes) = false := by
    cases h : t.waiting
    · rfl
    · rw [hw h]
      rfl
  rw [advance, hb, hr, ha, awake]
  rfl

end

/-- No input is due, and reset does not hold the core. -/
structure Undisturbed (s : State) : Prop where
  inputs : s.inputs = []
  bnRES : s.pins.bnRES = true
  resetHeld : s.resetHeld = false

section
variable {s : State} (h : Undisturbed s)
include h

theorem step_advances : step s = advance { s with instrExec := false } := by
  unfold step stepOnce
  simp only [h.inputs]

/-- In debug state only the write buffer goes on (R154, R581). -/
theorem step_in_debug (ha : s.dbg.active = true) : step s = .next { backgroundDrain s with instrExec := false } := by
  have drained : (backgroundDrain s).between s.waiting = { backgroundDrain s with instrExec := false } := by
    rw [State.between, ← (backgroundDrain_kept s).waiting]
  rw [step_advances h, advance_in_debug (t := { s with instrExec := false }) h.bnRES h.resetHeld ha, ← drained,
    ← backgroundDrain_between]
  rfl

variable (ha : s.dbg.active = false)
include ha

/-- A waiting machine that nothing wakes stays as it is (R550). -/
theorem step_asleep (hw : s.waiting = true) (hn : s.wakes = false) : step s = .next { s with instrExec := false } :=
  (step_advances h).trans (advance_asleep h.bnRES h.resetHeld ha hw hn)

/-- A machine that is awake comes to an instruction boundary (R154, R536). -/
theorem step_at_boundary (hw : s.waiting = true → s.wakes = true) : step s = boundary ((backgroundDrain s).between false) := by
  rw [step_advances h, ← backgroundDrain_between]
  exact advance_awake (t := { s with instrExec := false }) h.bnRES h.resetHeld ha hw

end

/-! Interrupts. -/

section
variable {s : State} (hd : s.pins.dbgen = false)
include hd

/-- With no debugger an interrupt is taken where its pin is LOW and it is not disabled, FIQ before IRQ (R536). -/
theorem boundary_fiq (hp : s.pins.nFIQ = false) (hf : s.flagF = false) : boundary s = interrupt .fiq s := by
  rw [boundary, State.watching, State.interruptsEnabled, hd, hp, hf, Bool.not_false, Bool.or_true]
  rfl

theorem boundary_irq (hn : ¬ (s.pins.nFIQ = false ∧ s.flagF = false)) (hp : s.pins.nIRQ = false) (hi : s.flagI = false) :
    boundary s = interrupt .irq s := by
  have fiq : (!s.pins.nFIQ && !s.flagF) = false := by
    rw [Bool.eq_false_iff]
    simpa using hn
  rw [boundary, State.watching, State.interruptsEnabled, hd, hp, hi, Bool.not_false, Bool.or_true, Bool.true_and, fiq]
  rfl

end

/-- Settles O37: a LOW pin brings the machine to a boundary, where the interrupt is taken. -/
theorem interruptsBetweenInstructions : Obligations.InterruptsBetweenInstructions := by
  intro s hi hr hh hu t fiq irq
  have undisturbed : Undisturbed s := ⟨hi, hr, hh⟩
  have kept := backgroundDrain_kept s
  obtain ⟨active, dbgen⟩ : s.dbg.active = false ∧ s.pins.dbgen = false := by
    simpa [State.undebugged] using hu
  let d := (backgroundDrain s).between false
  have pins : d.pins = s.pins := kept.pins
  have cpsr : d.cpsr = s.cpsr := kept.cpsr
  have dbgen' : d.pins.dbgen = false := (congrArg Pins.dbgen pins).trans dbgen
  have taken (e : Exc) : interrupt e d =
      .next (t.entered e.mode (t.linkOf e) e.offset (if e = .reset ∨ e = .fiq then 1#1 else t.cpsr.extractLsb' 6 1)) :=
    congrArg Host.Outcome.next (takeException_undebugged (s := t) (kept.undebugged.trans hu))
  have pc : t.pc = s.pc := kept.pc
  refine ⟨fun hf => ?_, fun hn hq => ?_, fun hw hF hI => ?_, fun hw hp => ?_⟩
  · rw [step_at_boundary undisturbed active fun _ => by simp [State.wakes, hf.1], boundary_fiq dbgen'
      ((congrArg Pins.nFIQ pins).trans hf.1) ((congrArg (·.getLsbD 6) cpsr).trans hf.2), taken, ← pc]
    rfl
  · rw [step_at_boundary undisturbed active fun _ => by simp [State.wakes, hq.1], boundary_irq dbgen'
      (fun h => hn ⟨(congrArg Pins.nFIQ pins).symm.trans h.1, (congrArg (·.getLsbD 6) cpsr).symm.trans h.2⟩)
      ((congrArg Pins.nIRQ pins).trans hq.1) ((congrArg (·.getLsbD 7) cpsr).trans hq.2), taken, ← pc, ← cpsr]
    rfl
  · exact step_asleep undisturbed active hw (by simp [State.wakes, hF, hI, dbgen])
  · have wakes : s.wakes = true := by rcases hp with e | e <;> simp [State.wakes, e]
    rw [step_at_boundary undisturbed active fun _ => wakes,
      step_at_boundary (s := { s with waiting := false }) ⟨hi, hr, hh⟩ active (fun e => absurd e Bool.false_ne_true),
      ← backgroundDrain_between, ← backgroundDrain_between]
    rfl

/-! The instruction at the boundary. -/

/-- What comes to the boundary where the machine does not wait. -/
theorem between_false {s : State} (h : s.waiting = false) :
    (backgroundDrain s).between false = { backgroundDrain s with instrExec := false } := by
  rw [State.between, ← h, ← (backgroundDrain_kept s).waiting]

/-- Where nothing comes first, a step runs an instruction once some entries have left the buffer. -/
theorem step_runs {s : State} (h : Quiet s) : step s = runInstruction { backgroundDrain s with instrExec := false } := by
  have kept := backgroundDrain_kept s
  have quiet : Quiet ((backgroundDrain s).between false) := by
    refine ⟨kept.inputs.trans h.inputs, ?_, kept.resetHeld.trans h.resetHeld, rfl, kept.active.trans h.active, ?_, ?_, ?_⟩
    · exact (congrArg Pins.bnRES kept.pins).trans h.bnRES
    · exact (congrArg Pins.dbgen kept.pins).trans h.dbgen
    · exact h.fiq.imp (congrArg Pins.nFIQ kept.pins).trans (congrArg (·.getLsbD 6) kept.cpsr).trans
    · exact h.irq.imp (congrArg Pins.nIRQ kept.pins).trans (congrArg (·.getLsbD 7) kept.cpsr).trans
  rw [step_at_boundary ⟨h.inputs, h.bnRES, h.resetHeld⟩ h.active fun e => absurd (h.waiting.symm.trans e) Bool.false_ne_true,
    boundary_of_quiet quiet, between_false h.waiting]

/-- A fetch that is not aborted changes the ICache and the count of free values only. -/
theorem fetch_done {s t : State} {w : Word} (h : fetch s = .done w t) :
    ∃ c n, t = { s with icache := c, draws := s.draws + n } := by
  rcases fetch_cases s with ⟨_, c, n, e⟩ | e | ⟨f, e⟩
  · rw [e] at h
    cases h
    exact ⟨c, n, rfl⟩
  · rw [e] at h
    cases h
  · rw [e] at h
    cases h

theorem fetch_abort {s t : State} (h : fetch s = .abort t) : t = s := by
  rcases fetch_cases s with ⟨_, c, n, e⟩ | e | ⟨f, e⟩
  · rw [e] at h
    cases h
  · rw [e] at h
    cases h
    rfl
  · rw [e] at h
    cases h

/-- INSTREXEC tells whether the condition of the item passes (R653). -/
theorem showExec_eq {s t : State} (h : t.cpsr = s.cpsr) (w : Word) :
    t.showExec w = { t with instrExec := s.condPassed (condField s.thumb w) } := by
  have passes (c : BitVec 4) : t.condPassed c = s.condPassed c := by
    simp only [State.condPassed, State.flagN, State.flagZ, State.flagC, State.flagV, h]
  rw [State.showExec, passes, State.thumb, h, ← State.thumb]

/-- A fetch that is aborted is the Prefetch Abort of its instruction (R528). -/
theorem runInstruction_aborts {s t : State} (hb : s.busy = none) (hd : s.undebugged = true)
    (hf : fetch s.beforeFetch = .abort t) :
    runInstruction s = .next (t.entered modeAbt (s.pc + 4#32) 0x0C#32 (s.cpsr.extractLsb' 6 1)) := by
  obtain rfl := fetch_abort hf
  have entered := takeException_undebugged (e := .prefetchAbort) (s := s.beforeFetch) hd
  have free : (takeException .prefetchAbort s.beforeFetch).busy = none := by
    rw [entered]
    simp [State.entered, hb, State.beforeFetch]
  have unwatched : (takeException .prefetchAbort s.beforeFetch).pins.dbgen = false := by
    simp only [State.undebugged, Bool.and_eq_true, Bool.not_eq_true'] at hd
    rw [entered]
    simp [State.entered, hd, State.beforeFetch]
  simp only [runInstruction, hb, hf]
  rw [afterInstruction_undebugged unwatched, free, entered]
  rfl

theorem runInstruction_faults {s : State} {e : Fault} (hb : s.busy = none) (hf : fetch s.beforeFetch = .fault e) :
    runInstruction s = .fault e := by
  simp only [runInstruction, hb, hf]

/-- A coprocessor instruction that was answered WAIT runs again (R386). -/
theorem runInstruction_held {s : State} {w : Word} (hb : s.busy = some w) :
    runInstruction s = runDecoded (decode (.arm w)) (s.showExec w) := by
  simp only [runInstruction, hb]

/-- What a step that runs an instruction answers, by what the instruction answers. -/
theorem runDecoded_outcomes {s t u : State} {i : Instr} {w : Word} {r : Result} (hc : t.cpsr = s.cpsr)
    (hu : { t with busy := none } = u) (h : step s = runDecoded i (t.showExec w))
    (hr : exec i { u with instrExec := s.condPassed (condField s.thumb w) } = r) :
    (∀ v, r = .next v → step s = .next (afterInstruction v)) ∧ (∀ e, r = .fault e → step s = .fault e) ∧
      (∀ e, r = .refused e → step s = .refused e) := by
  subst hu
  have run : exec i { t.showExec w with busy := none } = r := by rw [showExec_eq hc]; exact hr
  rw [h]
  refine ⟨fun v e => ?_, fun f e => ?_, fun f e => ?_⟩ <;> simp only [runDecoded, run, e]

/-- Settles O40: the boundary runs the held or the fetched instruction; an aborted fetch is its Prefetch Abort. -/
theorem stepRunsTheDecodedInstruction : Obligations.StepRunsTheDecodedInstruction := by
  intro s hs
  have quiet := (quiet_iff s).mp hs
  have kept := backgroundDrain_kept s
  have undebugged : s.undebugged = true := by rw [State.undebugged, quiet.active, quiet.dbgen]; rfl
  let d := backgroundDrain s
  have run := step_runs quiet
  have busy : d.busy = s.busy := kept.busy
  have cpsr : d.cpsr = s.cpsr := kept.cpsr
  have dbgen : d.pins.dbgen = false := (congrArg Pins.dbgen kept.pins).trans quiet.dbgen
  refine ⟨d, backgroundDrain_drainsTo s, backgroundDrain_empty, rfl, fun hb w t hf => ?_, fun hb t hf => ?_,
    fun hb e hf => ?_, fun w hb => ?_, fun u => afterInstruction_undebugged, fun hd => ?_⟩
  · have fetched := run.trans (runInstruction_fetches (s := { d with instrExec := false }) (busy.trans hb) hf)
    obtain ⟨c, n, changed⟩ := fetch_done hf
    have fields : t.cpsr = s.cpsr ∧ t.busy = none ∧ t.pins.dbgen = false := by
      rw [changed]
      exact ⟨cpsr, busy.trans hb, dbgen⟩
    obtain ⟨tcpsr, tbusy, tdbgen⟩ := fields
    have tthumb : t.thumb = s.thumb := congrArg (·.getLsbD 5) tcpsr
    rw [runFetched_unwatched w tdbgen, tthumb] at fetched
    exact runDecoded_outcomes tcpsr (congrArg (fun b => { t with busy := b }) tbusy.symm) fetched rfl
  · have aborts := runInstruction_aborts (s := { d with instrExec := false }) (busy.trans hb)
      (kept.undebugged.trans undebugged) hf
    have pc : d.pc = s.pc := kept.pc
    rw [run, aborts, pc, cpsr]
  · exact run.trans (runInstruction_faults (s := { d with instrExec := false }) (busy.trans hb) hf)
  · have held := run.trans (runInstruction_held (s := { d with instrExec := false }) (busy.trans hb))
    exact runDecoded_outcomes (t := { d with instrExec := false }) cpsr rfl held rfl
  · have direct := (direct_iff s).mp hd
    rw [show d = s from backgroundDrain_empty direct.wbuf]
    have before : Direct s.beforeFetch :=
      ⟨direct.active, direct.dbgen, direct.p, direct.i, direct.c, direct.wbuf, direct.busErrors⟩
    exact fetch_direct before

/-! Debug state. -/

section
variable {s : State} (hw : s.watching = true)
include hw

/-- A debug request comes first, but for an instruction after a watchpointed access (R583, R584). -/
theorem boundary_request (hq : s.debugRequest = true) (hn : s.dbg.watch ≠ .armed) :
    boundary s = .next (enterDebug (s.dbg.watch != .idle) false { s with busy := none, instrExec := false }) := by
  rw [boundary, hw, hq, requested, if_neg hn]
  rfl

/-- Without a debug request and with the interrupts masked an instruction boundary is the next instruction. -/
theorem boundary_unrequested (hq : s.debugRequest = false) (hf : s.pins.nFIQ = true ∨ s.flagF = true)
    (hi : s.pins.nIRQ = true ∨ s.flagI = true) : boundary s = runInstruction s := by
  have fiq : (s.interruptsEnabled && !s.pins.nFIQ && !s.flagF) = false := by rcases hf with e | e <;> simp [e]
  have irq : (s.interruptsEnabled && !s.pins.nIRQ && !s.flagI) = false := by rcases hi with e | e <;> simp [e]
  rw [boundary, hw, hq, fiq, irq]
  rfl

end

/-- The effect of a breakpointed instruction does not happen (R582). -/
theorem runFetched_breakpointed {s : State} {w : Word} (h : breakpointed w s = true) :
    runFetched w s = .next (enterDebug (s.dbg.watch != .idle) (s.dbg.watch != .idle) (watchFetch w s)) := if_pos h

/-- The debug unit sees a fetch in its CHAINOUT latch only (R613). -/
theorem watchFetch_eq (w : Word) (s : State) : ∃ ice n, watchFetch w s = { s with ice := ice, draws := n } := by
  unfold watchFetch
  split
  · exact ⟨_, _, rfl⟩
  · exact ⟨s.ice, s.draws, rfl⟩

/-- Settles O55: a debug request or a breakpoint at the boundary enters debug state, which only the buffer goes on in. -/
theorem debugStateEntry : Obligations.DebugStateEntry := by
  intro s hi hr hh
  have undisturbed : Undisturbed s := ⟨hi, hr, hh⟩
  have drains := backgroundDrain_drainsTo s
  have inDebug := step_in_debug undisturbed
  have atBoundary := step_at_boundary undisturbed
  refine ⟨backgroundDrain s, drains, backgroundDrain_empty, inDebug, fun ha hd hq hn => ?_,
    fun ha hd hq hw hb hF hI w t hf bp => ?_, fun w hw hp => ?_⟩
  · have request : s.debugRequest = true := by simpa [State.debugRequest] using hq
    have watching : s.watching = true := by rw [State.watching, hd, ha]; rfl
    obtain ⟨gone, rest, n, -, changed⟩ := drains
    rw [atBoundary ha fun _ => by rw [State.wakes, hd, request, Bool.and_self, Bool.or_true], changed]
    exact ⟨_, boundary_request (s := State.between { s with wbuf := _, mem := _, draws := _ } false) watching request hn,
      rfl, rfl, rfl, rfl, rfl, rfl, rfl, rfl, rfl, rfl, rfl⟩
  · have watching : s.watching = true := by rw [State.watching, hd, ha]; rfl
    have awake := atBoundary ha fun e => absurd (hw.symm.trans e) Bool.false_ne_true
    rw [between_false hw] at awake
    obtain ⟨gone, rest, n, -, changed⟩ := drains
    rw [changed] at awake hf ⊢
    let d : State :=
      { s with wbuf := rest, mem := gone.foldl wbWrite s.mem, draws := s.draws + n, instrExec := false }
    have run := awake.trans ((boundary_unrequested (s := d) watching hq hF hI).trans
      (runInstruction_fetches (s := d) hb hf))
    obtain ⟨c, m, fetched⟩ := fetch_done hf
    obtain ⟨ice, k, watched⟩ := watchFetch_eq w t
    refine ⟨_, run.trans (runFetched_breakpointed bp), ?_⟩
    rw [watched, fetched]
    exact ⟨rfl, rfl, rfl, rfl, rfl, hb, rfl, rfl, rfl, rfl, rfl⟩
  · rw [breakpointed, hw, hp]
    rfl

end Sys2Proof.Machine
end

section
/-!
PROOFS. Data accesses that abort: the check refuses them, or with protection unit and caches off the platform answers with
an error. Each access stops in the state it began in, and each transfer then takes Data Abort.
-/

namespace Sys2Proof.Machine

/-- A data access that its check refuses, or that goes out unbuffered and is answered with an error (R115, R149). -/
def TurnedAway (s : State) (a : Word) (write privileged : Bool) : Prop :=
  checkAccess s.cp15 .data a write privileged = .abort ∨
    s.cp15.p = false ∧ s.cp15.c = false ∧ s.wbuf = [] ∧
      extAbort s.busErrors (if write then .write else .read) a = true

/-- With the protection unit off every access passes, noncachable and nonbufferable (R116). -/
theorem checkAccess_off {c : Cp15} (h : c.p = false) (side : Side) (a : Word) (write privileged : Bool) :
    checkAccess c side a write privileged = .pass false false := by
  rw [checkAccess, h]
  rfl

/-! The accesses. -/

section
variable {a v : Word} {sz : Size} {priv : Bool} {s : State} (hu : s.undebugged = true)
include hu

theorem load_turnedAway (h : TurnedAway s a false priv) : load a sz priv s = .abort s := by
  rcases h with refused | ⟨hp, hc, hw, he⟩
  · simp only [load, debugSpeed_undebugged hu, refused, Bool.false_eq_true, if_false, watchAborted_undebugged _ _ _ hu]
  · refine load_abort hu (checkAccess_off hp ..) ?_
    rw [Bool.false_and, Bool.false_and, loadWord_external (.inl hc), drainWriteBuffer_empty hw]
    exact if_pos he

theorem store_turnedAway (join : Bool) (h : TurnedAway s a true priv) : store a sz v priv join s = .abort s := by
  rcases h with refused | ⟨hp, hc, hw, he⟩
  · simp only [store, debugSpeed_undebugged hu, refused, Bool.false_eq_true, if_false, watchData_undebugged _ _ _ _ _ hu]
  · rw [store_pass hu v join (checkAccess_off hp ..), Bool.false_and, Bool.false_and, storeWord_absent (.inl hc),
      Bool.or_self, if_neg Bool.false_ne_true, storeExternal_eq, drainWriteBuffer_empty hw]
    exact if_pos he

/-- With everything off a swap goes straight to the bus. -/
theorem swapAccess_bus (hp : s.cp15.p = false) (hc : s.cp15.c = false) (hw : s.wbuf = []) :
    swapAccess a sz v s = swapBus a sz v s := by
  rw [swapAccess_pass hu (checkAccess_off hp ..) (checkAccess_off hp ..), Bool.false_and, Bool.false_and,
    if_neg Bool.false_ne_true, swapExternal_miss (.inl hc), drainWriteBuffer_empty hw]

/-- A swap whose read is refused or answered with an error (R162). -/
theorem swapAccess_turnedAway (h : TurnedAway s a false s.privileged) : swapAccess a sz v s = .abort s := by
  rcases h with refused | ⟨hp, hc, hw, he⟩
  · refine swapAccess_readRefused hu refused fun f hf => ?_
    cases refused.symm.trans (checkAccess_fault_write hf false)
  · rw [swapAccess_bus hu hp hc hw, swapBus_undebugged hu rfl rfl]
    exact if_pos he

/-- A swap whose write is refused, whatever its read (R162). -/
theorem swapAccess_unwritable (h : checkAccess s.cp15 .data a true s.privileged = .abort) :
    swapAccess a sz v s = .abort s := by
  cases read : checkAccess s.cp15 .data a false s.privileged with
  | pass cd bd => exact swapAccess_writeRefused hu read h
  | abort => exact swapAccess_turnedAway hu (.inl read)
  | fault f => cases h.symm.trans (checkAccess_fault_write read true)

/-- A swap that reads, and whose write is answered with an error (R334). -/
theorem swapAccess_writeError (hp : s.cp15.p = false) (hc : s.cp15.c = false) (hw : s.wbuf = [])
    (read : extAbort s.busErrors .read a = false) (write : extAbort s.busErrors .write a = true) :
    swapAccess a sz v s = .abort s := by
  rw [swapAccess_bus hu hp hc hw, swapBus_undebugged hu rfl rfl, read, write]
  rfl

/-- A block load whose first access aborts has loaded nothing (R356). -/
theorem loadMany_turnedAway {m : BitVec 5} {hold : BitVec 4 → Bool} {is : List (BitVec 4)} {held : Held} (hn : is ≠ [])
    (h : TurnedAway s (wordAddr a) false s.privileged) : loadMany m hold is a held s = .abort s := by
  cases is with
  | nil => exact absurd rfl hn
  | cons i rest => simp only [loadMany, load_turnedAway hu h]

theorem storeMany_turnedAway {vs : List Word} {join : Bool} (hn : vs ≠ [])
    (h : TurnedAway s (wordAddr a) true s.privileged) : storeMany vs a join s = .abort s := by
  cases vs with
  | nil => exact absurd rfl hn
  | cons v rest => simp only [storeMany, store_turnedAway hu join h]

end

/-! The register list of a block transfer. -/

theorem regsOf_length (list : BitVec 16) : (regsOf list).length = listedBelow list 16 := by
  rw [regsOf, List.length_map, listedBelow, List.countP_eq_length_filter]

theorem regsOf_ne_nil {list : BitVec 16} (h : list ≠ 0#16) : regsOf list ≠ [] := by
  intro empty
  refine h (BitVec.eq_of_getLsbD_eq fun i hi => ?_)
  rw [regsOf, List.map_eq_nil_iff, List.filter_eq_nil_iff] at empty
  simpa using empty i (List.mem_range.mpr hi)

theorem bit_cases (b : BitVec 1) : b = 0#1 ∨ b = 1#1 := by
  revert b
  decide

theorem blockStart_eq (p u : BitVec 1) (base : Word) (list : BitVec 16) :
    blockStart p u base list = blockFirst p u base list := by
  rcases bit_cases p with rfl | rfl <;> rcases bit_cases u with rfl | rfl <;>
    simp [blockStart, blockFirst, listBytes, regsOf_length]

/-- A base that is not listed where it is written back. -/
theorem baseRefusal_none {w : BitVec 1} {rn : BitVec 4} {list : BitVec 16}
    (h : w = 1#1 → list.getLsbD rn.toNat = false) : baseRefusal w rn list = none :=
  if_neg fun ⟨hw, hl⟩ => Bool.false_ne_true ((h hw).symm.trans hl)

theorem storedBaseRefusal_none {w : BitVec 1} {rn : BitVec 4} {list : BitVec 16}
    (h : w = 1#1 → list.getLsbD rn.toNat = false) : storedBaseRefusal w rn list = none :=
  if_neg fun ⟨hw, hl, _⟩ => Bool.false_ne_true ((h hw).symm.trans hl)

theorem blockRefusal_none {rn : BitVec 4} {list : BitVec 16} (hl : list ≠ 0#16) (hn : rn ≠ 15#4) :
    blockRefusal rn list = none := if_neg (not_or.mpr ⟨hl, hn⟩)

/-! The transfers. -/

/-- The Data Abort of an access that aborts in the state the instruction began in (R541). -/
def State.aborted (s : State) : State := s.entered modeAbt (s.pc + 8#32) 0x10#32 (s.cpsr.extractLsb' 6 1)

theorem raise_dataAbort {s : State} (hu : s.undebugged = true) : raise .dataAbort s = .next s.aborted :=
  congrArg Host.Outcome.next (takeException_undebugged hu)

section
variable {s : State} (hu : s.undebugged = true)
include hu

theorem loadInto_turnedAway {k : LoadKind} {priv : Bool} {rn rd : BitVec 4} {ix : Indexing}
    (even : oddHalf k.size ix.address = false) (h : TurnedAway s (transferAddr k.size ix.address) false priv) :
    loadInto k priv rn rd ix s = .next s.aborted := by
  rw [loadInto, even, if_neg Bool.false_ne_true, load_turnedAway hu h]
  exact raise_dataAbort hu

theorem storeFrom_turnedAway {sz : Size} {priv : Bool} {rn rd : BitVec 4} {ix : Indexing}
    (even : oddHalf sz ix.address = false) (h : TurnedAway s (transferAddr sz ix.address) true priv) :
    storeFrom sz priv rn rd ix s = .next s.aborted := by
  rw [storeFrom, even, if_neg Bool.false_ne_true, store_turnedAway hu false h]
  exact raise_dataAbort hu

/-- A Thumb load from `a`, where `a` is written as the spec writes it. -/
theorem thumbLoad_turnedAway {k : LoadKind} {rd : BitVec 3} {a b : Word} (hab : a = b) (even : oddHalf k.size b = false)
    (h : TurnedAway s (transferAddr k.size b) false s.privileged) : thumbLoad k rd a s = .next s.aborted := by
  subst hab
  exact loadInto_turnedAway hu even h

theorem thumbStore_turnedAway {sz : Size} {rd : BitVec 3} {a b : Word} (hab : a = b) (even : oddHalf sz b = false)
    (h : TurnedAway s (transferAddr sz b) true s.privileged) : thumbStore sz rd a s = .next s.aborted := by
  subst hab
  exact storeFrom_turnedAway hu even h

variable {cond rn rd rm : BitVec 4} {p u w : BitVec 1} (hc : s.passes cond = true)
include hc

theorem loadOp_turnedAway {k : LoadKind} {pcOk user : Bool} {off : Offset2}
    (form : transferForm pcOk (p == 0#1 || w == 1#1) rn rd (offsetReg2 off) = none)
    (even : oddHalf k.size (s.indexing p u w rn (s.offset2 off)).address = false)
    (h : TurnedAway s (transferAddr k.size (s.indexing p u w rn (s.offset2 off)).address) false (!user && s.privileged)) :
    loadOp k pcOk user cond p u w rn rd off s = .next s.aborted := by
  rw [loadOp, ifPassed_passes hc, unlessRefused_orElse, ← transferForm, form]
  exact loadInto_turnedAway hu even h

theorem storeOp_turnedAway {sz : Size} {pcOk user : Bool} {off : Offset2}
    (form : transferForm pcOk (p == 0#1 || w == 1#1) rn rd (offsetReg2 off) = none)
    (even : oddHalf sz (s.indexing p u w rn (s.offset2 off)).address = false)
    (h : TurnedAway s (transferAddr sz (s.indexing p u w rn (s.offset2 off)).address) true (!user && s.privileged)) :
    storeOp sz pcOk user cond p u w rn rd off s = .next s.aborted := by
  rw [storeOp, ifPassed_passes hc, unlessRefused_orElse, ← transferForm, form]
  exact storeFrom_turnedAway hu even h

theorem loadHalfOp_turnedAway {k : LoadKind} {off : Offset3} (form : halfForm p w rn rd off = none)
    (even : oddHalf k.size (s.indexing p u w rn (s.offset3 off)).address = false)
    (h : TurnedAway s (transferAddr k.size (s.indexing p u w rn (s.offset3 off)).address) false s.privileged) :
    loadHalfOp k cond p u w rn rd off s = .next s.aborted := by
  rw [loadHalfOp, ifPassed_passes hc, unlessRefused_orElse (pcRefusal false rd), unlessRefused_orElse, ← transferForm,
    ← halfForm, form]
  exact loadInto_turnedAway hu even h

theorem storeHalfOp_turnedAway {off : Offset3} (form : halfForm p w rn rd off = none)
    (even : oddHalf .half (s.indexing p u w rn (s.offset3 off)).address = false)
    (h : TurnedAway s (s.indexing p u w rn (s.offset3 off)).address true s.privileged) :
    storeHalfOp cond p u w rn rd off s = .next s.aborted := by
  rw [storeHalfOp, ifPassed_passes hc, unlessRefused_orElse (pcRefusal false rd), unlessRefused_orElse, ← transferForm,
    ← halfForm, form]
  exact storeFrom_turnedAway hu even h

theorem swapOp_aborts {sz : Size} {k : LoadKind} (hn : rn ≠ 15#4) (hd : rd ≠ 15#4) (hm : rm ≠ 15#4) (hdn : rd ≠ rn)
    (hmn : rm ≠ rn) (h : swapAccess (transferAddr sz (s.reg rn)) sz (s.reg rm) s = .abort s) :
    swapOp sz k cond rn rd 0#4 rm s = .next s.aborted := by
  rw [swapOp, ifPassed_passes hc, if_neg (by decide), if_neg (by simp [hn, hd, hm]), if_neg (by simp [hdn.symm, hmn.symm]), h]
  exact raise_dataAbort hu

section
variable {list : BitVec 16} (hl : list ≠ 0#16) (hn : rn ≠ 15#4) (hb : w = 1#1 → list.getLsbD rn.toNat = false)
include hl hn hb

theorem execLdm_turnedAway (h : TurnedAway s (wordAddr (blockFirst p u (s.reg rn) list)) false s.privileged) :
    execLdm cond p u w rn list s = .next s.aborted := by
  rw [← blockStart_eq] at h
  rw [execLdm, ifPassed_passes hc, blockRefusal_none hl hn, baseRefusal_none hb,
    loadMany_turnedAway hu (regsOf_ne_nil hl) h]
  exact raise_dataAbort hu

theorem execStm_turnedAway (h : TurnedAway s (wordAddr (blockFirst p u (s.reg rn) list)) true s.privileged) :
    execStm cond p u w rn list s = .next s.aborted := by
  have words : s.stmWords list ≠ [] := fun e => regsOf_ne_nil hl (List.map_eq_nil_iff.mp e)
  rw [← blockStart_eq] at h
  rw [execStm, ifPassed_passes hc, blockRefusal_none hl hn, storedBaseRefusal_none hb, storeMany_turnedAway hu words h]
  exact raise_dataAbort hu

end

end

/-! The forms that are not refused. -/

section
variable {wb : Bool} {rn rd : BitVec 4} (hd : rd ≠ 15#4) (hn : rn ≠ 15#4) (hdn : rd ≠ rn)
include hd hn hdn

theorem transferForm_none {rm : Option (BitVec 4)} (pcOk : Bool) (hp : rm ≠ some 15#4) (hm : rm ≠ some rn) :
    transferForm pcOk wb rn rd rm = none := by
  simp [transferForm, pcRefusal, indexRefusal, hd, hn, hdn, hp, hm]

theorem halfForm_none {p w : BitVec 1} {off : Offset3} (hp : offsetReg3 off ≠ some 15#4) (hm : offsetReg3 off ≠ some rn)
    (hs : ∀ sbz r, off = .reg sbz r → sbz = 0#4) (hw : p = 0#1 → w = 0#1) : halfForm p w rn rd off = none := by
  have mode : ¬ (p = 0#1 ∧ w = 1#1) := fun h => absurd ((hw h.1).symm.trans h.2) (by decide)
  have form : halfRefusal p w off = none := by
    cases off with
    | imm immH immL => exact if_neg mode
    | reg sbz rm => exact (if_neg (not_not.mpr (hs sbz rm rfl))).trans (if_neg mode)
  rw [halfForm, form, transferForm_none hd hn hdn false hp hm]
  rfl

end

/-! The addresses. -/

theorem indexing_address (s : State) (p u w : BitVec 1) (rn : BitVec 4) (offset : Word) :
    (s.indexing p u w rn offset).address = if p = 0#1 then s.reg rn else indexed (s.reg rn) offset u := by
  rcases bit_cases p with rfl | rfl <;> rfl

/-- An immediate in units of `k` bytes (R222). -/
theorem zeroExtend_mul {n : Nat} (x : BitVec n) (k : Nat) :
    x.zeroExtend 32 * BitVec.ofNat 32 k = BitVec.ofNat 32 (k * x.toNat) := by
  refine BitVec.eq_of_toNat_eq ?_
  simp [BitVec.toNat_mul, Nat.mul_comm]

theorem immAddr_eq (s : State) (rb : BitVec 3) (imm5 : BitVec 5) (k : Nat) :
    s.immAddr rb imm5 (BitVec.ofNat 32 k) = s.reg (lowReg rb) + BitVec.ofNat 32 (k * imm5.toNat) :=
  congrArg (s.reg (lowReg rb) + ·) (zeroExtend_mul imm5 k)

theorem byteAddr_eq (s : State) (rb : BitVec 3) (imm5 : BitVec 5) :
    s.immAddr rb imm5 1#32 = s.reg (lowReg rb) + BitVec.ofNat 32 imm5.toNat := by
  rw [immAddr_eq, Nat.one_mul]

theorem spAddr_eq (s : State) (imm8 : BitVec 8) :
    s.spAddr imm8 = s.reg 13#4 + BitVec.ofNat 32 (4 * imm8.toNat) := congrArg (s.reg 13#4 + ·) (zeroExtend_mul imm8 4)

theorem pcAddr_eq (s : State) (imm8 : BitVec 8) :
    s.pcWord + imm8.zeroExtend 32 * 4#32 = ((s.pc + 4#32) &&& 0xFFFFFFFC#32) + BitVec.ofNat 32 (4 * imm8.toNat) :=
  congrArg (s.pcWord + ·) (zeroExtend_mul imm8 4)

theorem oddHalf_even {a : Word} (sz : Size) (h : a.toNat % 2 = 0) : oddHalf sz a = false := by
  have even : a.getLsbD 0 = false := by rw [BitVec.getLsbD, Nat.testBit_zero, h]; rfl
  rw [oddHalf, even, Bool.and_false]

/-- What holds of a list where a condition holds, and of no list else. -/
theorem forall_mem_if {α : Type} {c : Prop} [Decidable c] {xs : List α} {P : α → Prop} (h : c → ∀ x ∈ xs, P x) :
    ∀ x ∈ if c then xs else [], P x := by
  split
  · next hc => exact h hc
  · exact fun _ hx => absurd hx List.not_mem_nil

/-- Settles O49: each instruction's access is turned away in the state it began in, and its Data Abort is taken there. -/
theorem refusedDataAccessesAbort : Obligations.RefusedDataAccessesAbort := by
  intro cond p u w rn rd rm off off3 list rb ro rt imm5 imm8 s hc hu hd hn hm hdn hmn off15 offn off315 off3n sbz mode hl
    hb taken me a b h base sum half start
  have form (wb pcOk : Bool) : transferForm pcOk wb rn rd (offsetReg2 off) = none :=
    transferForm_none hd hn hdn pcOk off15 offn
  have form3 : halfForm p w rn rd off3 = none := halfForm_none hd hn hdn off315 off3n sbz mode
  have aborts {i : Instr} {a : Word} {write priv : Bool} (run : TurnedAway s a write priv → exec i s = .next taken) :
      (checkAccess s.cp15 .data a write priv = .abort → exec i s = .next taken) ∧
        (s.cp15.p = false → s.cp15.c = false → s.wbuf = [] →
          extAbort s.busErrors (if write then .write else .read) a = true → exec i s = .next taken) :=
    ⟨fun refused => run (.inl refused), fun hp hc hw he => run (.inr ⟨hp, hc, hw, he⟩)⟩
  have swap {sz : Size} {k : LoadKind} (stops : swapAccess (transferAddr sz a) sz (s.reg rm) s = .abort s) :
      swapOp sz k cond rn rd 0#4 rm s = .next taken := swapOp_aborts hu hc hn hd hm hdn hmn stops
  have address3 : (s.indexing p u w rn (s.offset3 off3)).address = h := indexing_address ..
  refine ⟨fun q hq => aborts fun away => ?_, ?_⟩
  · revert q
    rw [List.forall_mem_append, List.forall_mem_append, List.forall_mem_append]
    refine ⟨⟨⟨?_, forall_mem_if fun even => ?_⟩, forall_mem_if fun even => ?_⟩, forall_mem_if fun even => ?_⟩ <;>
      simp only [List.forall_mem_cons, List.not_mem_nil, false_implies, implies_true, and_true]
    · exact ⟨fun t => loadOp_turnedAway hu hc (form ..) rfl t, fun t => loadOp_turnedAway hu hc (form ..) rfl t,
        fun t => storeOp_turnedAway hu hc (form ..) rfl t, fun t => storeOp_turnedAway hu hc (form ..) rfl t,
        fun t => loadOp_turnedAway hu hc (form ..) rfl t, fun t => loadOp_turnedAway hu hc (form ..) rfl t,
        fun t => storeOp_turnedAway hu hc (form ..) rfl t, fun t => storeOp_turnedAway hu hc (form ..) rfl t,
        fun t => loadOp_turnedAway hu hc (form ..) rfl t, fun t => loadOp_turnedAway hu hc (form ..) rfl t,
        fun t => storeOp_turnedAway hu hc (form ..) rfl t, fun t => storeOp_turnedAway hu hc (form ..) rfl t,
        fun t => loadHalfOp_turnedAway hu hc form3 rfl (address3 ▸ t),
        fun t => swap (swapAccess_turnedAway hu t), fun t => swap (swapAccess_turnedAway hu t),
        fun t => execLdm_turnedAway hu hc hl hn hb t, fun t => execStm_turnedAway hu hc hl hn hb t,
        fun t => thumbLoad_turnedAway (k := .word) hu rfl rfl t,
        fun t => thumbLoad_turnedAway (k := .word) hu (pcAddr_eq s imm8) rfl t,
        fun t => thumbLoad_turnedAway (k := .word) hu (immAddr_eq s rb imm5 4) rfl t,
        fun t => thumbLoad_turnedAway (k := .word) hu (spAddr_eq s imm8) rfl t,
        fun t => thumbLoad_turnedAway (k := .byte) hu rfl rfl t,
        fun t => thumbLoad_turnedAway (k := .signedByte) hu rfl rfl t,
        fun t => thumbLoad_turnedAway (k := .byte) hu (byteAddr_eq s rb imm5) rfl t,
        fun t => thumbStore_turnedAway (sz := .word) hu rfl rfl t,
        fun t => thumbStore_turnedAway (sz := .byte) hu rfl rfl t,
        fun t => thumbStore_turnedAway (sz := .word) hu (immAddr_eq s rb imm5 4) rfl t,
        fun t => thumbStore_turnedAway (sz := .word) hu (spAddr_eq s imm8) rfl t,
        fun t => thumbStore_turnedAway (sz := .byte) hu (byteAddr_eq s rb imm5) rfl t⟩
    · have even3 := oddHalf_even .half even
      rw [← address3] at even3 ⊢
      exact ⟨fun t => loadHalfOp_turnedAway hu hc form3 even3 t, fun t => loadHalfOp_turnedAway hu hc form3 even3 t,
        fun t => storeHalfOp_turnedAway hu hc form3 even3 t⟩
    · exact ⟨fun t => thumbLoad_turnedAway (k := .half) hu rfl (oddHalf_even _ even) t,
        fun t => thumbLoad_turnedAway (k := .signedHalf) hu rfl (oddHalf_even _ even) t,
        fun t => thumbStore_turnedAway (sz := .half) hu rfl (oddHalf_even _ even) t⟩
    · exact ⟨fun t => thumbLoad_turnedAway (k := .half) hu (immAddr_eq s rb imm5 2) (oddHalf_even _ even) t,
        fun t => thumbStore_turnedAway (sz := .half) hu (immAddr_eq s rb imm5 2) (oddHalf_even _ even) t⟩
  · simp only [List.forall_mem_cons, List.not_mem_nil, false_implies, implies_true, and_true]
    exact ⟨⟨fun refused => swap (swapAccess_unwritable hu refused),
        fun hp hcc hw read write => swap (swapAccess_writeError hu hp hcc hw read write)⟩,
      fun refused => swap (swapAccess_unwritable hu refused),
      fun hp hcc hw read write => swap (swapAccess_writeError hu hp hcc hw read write)⟩

end Sys2Proof.Machine
end

section
/-!
PROOFS. The results of `AddWithCarry` in closed form, and the ARM data-processing instructions by their result.
-/

namespace Sys2Proof.Machine

/-! `AddWithCarry` in closed form (R18). -/

/-- An integer is no 32-bit signed number exactly when its word stands for another one. -/
theorem overflows_eq_ofInt_ne (x : Int) : overflows x = decide ((BitVec.ofInt 32 x).toInt ≠ x) := by
  rw [overflows, ← Bool.decide_or, decide_eq_decide, BitVec.toInt_ofInt, Int.bmod_def]
  split <;> omega

theorem addWithCarry_eq (a b : Word) (c : Bool) :
    addWithCarry a b c =
      ⟨a + b + BitVec.ofNat 32 c.toNat, decide (2 ^ 32 ≤ a.toNat + b.toNat + c.toNat),
        overflows (a.toInt + b.toInt + c.toNat)⟩ := by
  have carry : BitVec.zeroExtend 32 (BitVec.ofBool c) = BitVec.ofNat 32 c.toNat := by cases c <;> rfl
  have sum : a + b + BitVec.ofNat 32 c.toNat = BitVec.ofInt 32 (a.toInt + b.toInt + c.toNat) := by
    rw [BitVec.ofInt_add, BitVec.ofInt_add, BitVec.ofInt_toInt, BitVec.ofInt_toInt, BitVec.ofInt_natCast]
  rw [overflows_eq_ofInt_ne, ← sum, addWithCarry, carry]

/-- A subtraction with the borrow that the carry in stands for. -/
theorem addWithCarry_not_eq (a b : Word) (c : Bool) :
    addWithCarry a (~~~b) c =
      ⟨a - b - BitVec.ofNat 32 (!c).toNat, decide (b.toNat + (!c).toNat ≤ a.toNat),
        overflows (a.toInt - b.toInt - (!c).toNat)⟩ := by
  have unsigned : (~~~b).toNat = 2 ^ 32 - 1 - b.toNat := BitVec.toNat_not
  have signed : (~~~b).toInt = -b.toInt - 1 := by
    rw [BitVec.toInt_eq_toNat_cond, BitVec.toInt_eq_toNat_cond]
    split <;> split <;> omega
  have borrow : (c.toNat : Int) = 1 - (!c).toNat := by cases c <;> rfl
  rw [addWithCarry_eq, signed, unsigned, FlagResult.mk.injEq]
  refine ⟨?_, ?_, ?_⟩
  · apply BitVec.eq_of_toNat_eq
    simp only [BitVec.toNat_add, BitVec.toNat_sub, BitVec.toNat_ofNat]
    omega
  · rw [decide_eq_decide]
    omega
  · rw [borrow]
    congr 1
    omega

theorem addWithCarry_false_eq (a b : Word) :
    addWithCarry a b false =
      ⟨a + b, decide (2 ^ 32 ≤ a.toNat + b.toNat), overflows (a.toInt + b.toInt)⟩ := by
  simpa using addWithCarry_eq a b false

theorem addWithCarry_not_true_eq (a b : Word) :
    addWithCarry a (~~~b) true = ⟨a - b, decide (b.toNat ≤ a.toNat), overflows (a.toInt - b.toInt)⟩ := by
  simpa using addWithCarry_not_eq a b true

/-! The three shapes of a data-processing instruction whose destination is not the pc. -/

section
variable {op : DpOp} {cond : BitVec 4} {op2 : Operand2} {s : State} (hc : s.passes cond = true) (hr : s.room = true)
include hc hr

theorem dataOp_writes {rn rd : BitVec 4} (sf : BitVec 1) {r : Word} {c v : Bool} (hd : rd ≠ 15#4)
    (h : s.dpOutcome op rn op2 = ⟨r, c, v⟩) :
    dataOp op cond sf rn rd op2 s = .next (s.wrote sf rd r c v) := by
  rw [dataOp, ifPassed_passes hc, dpWrite_register sf _ hr hd, h]

theorem moveOp_writes {rd : BitVec 4} (sf : BitVec 1) {r : Word} {c v : Bool} (hd : rd ≠ 15#4)
    (h : s.dpOutcome op 0#4 op2 = ⟨r, c, v⟩) :
    moveOp op cond sf 0#4 rd op2 s = .next (s.wrote sf rd r c v) := by
  rw [moveOp, ifPassed_passes hc, if_pos rfl, dpWrite_register sf _ hr hd, h]

theorem compareOp_compares {rn : BitVec 4} {r : Word} {c v : Bool} (h : s.dpOutcome op rn op2 = ⟨r, c, v⟩) :
    compareOp op cond rn 0#4 op2 s = .next (s.compared r c v) := by
  rw [compareOp, ifPassed_passes hc, if_pos rfl, finish_flags _ hr, h]

end

/-- Settles O4: the outcomes of the logical operations are those of their definition. -/
theorem logicalAndMoveOperations : Obligations.LogicalAndMoveOperations := by
  refine ⟨?_, ?_, ?_⟩
  · intro cond sf rn rd op2 s hc hd hr a b c
    change dataOp .and cond sf rn rd op2 s = _ ∧ dataOp .eor cond sf rn rd op2 s = _ ∧
      dataOp .orr cond sf rn rd op2 s = _ ∧ dataOp .bic cond sf rn rd op2 s = _
    exact ⟨dataOp_writes hc hr sf hd rfl, dataOp_writes hc hr sf hd rfl, dataOp_writes hc hr sf hd rfl,
      dataOp_writes hc hr sf hd rfl⟩
  · intro cond sf rd op2 s hc hd hr
    change moveOp .mov cond sf 0#4 rd op2 s = _ ∧ moveOp .mvn cond sf 0#4 rd op2 s = _
    exact ⟨moveOp_writes hc hr sf hd rfl, moveOp_writes hc hr sf hd rfl⟩
  · intro cond rn op2 s hc hr a b c
    change compareOp .tst cond rn 0#4 op2 s = _ ∧ compareOp .teq cond rn 0#4 op2 s = _
    exact ⟨compareOp_compares hc hr rfl, compareOp_compares hc hr rfl⟩

/-- Settles O5: each outcome is a sum or a difference of `addWithCarry`, in closed form. -/
theorem arithmeticOperations : Obligations.ArithmeticOperations := by
  constructor
  · intro cond sf rn rd op2 s hc hd hr a b c d
    have writes {op : DpOp} {r : Word} {c v : Bool} (h : s.dpOutcome op rn op2 = ⟨r, c, v⟩) :=
      dataOp_writes hc hr sf hd h
    change dataOp .add cond sf rn rd op2 s = _ ∧ dataOp .adc cond sf rn rd op2 s = _ ∧
      dataOp .sub cond sf rn rd op2 s = _ ∧ dataOp .sbc cond sf rn rd op2 s = _ ∧
      dataOp .rsb cond sf rn rd op2 s = _ ∧ dataOp .rsc cond sf rn rd op2 s = _
    exact ⟨writes (addWithCarry_false_eq a b), writes (addWithCarry_eq a b s.flagC),
      writes (addWithCarry_not_true_eq a b), writes (addWithCarry_not_eq a b s.flagC),
      writes (addWithCarry_not_true_eq b a), writes (addWithCarry_not_eq b a s.flagC)⟩
  · intro cond rn op2 s hc hr a b
    change compareOp .cmp cond rn 0#4 op2 s = _ ∧ compareOp .cmn cond rn 0#4 op2 s = _
    exact ⟨compareOp_compares hc hr (addWithCarry_not_true_eq a b),
      compareOp_compares hc hr (addWithCarry_false_eq a b)⟩

end Sys2Proof.Machine
end

section
/-!
PROOFS. What an instruction in User mode can reach, said once: `InUser s t` holds where `t` is `s` after a part of an
instruction in User mode.  Each update that the meanings share keeps it, as long as R15 is not written as a general
register: its place in the register file is that of R8_fiq.
-/

namespace Sys2Proof.Machine

/-! The status word. -/

/-- The disable bits I and F lie below the flags. -/
theorem State.setFlags_interrupts (s : State) (n z c v : Bool) :
    (s.setFlags n z c v).cpsr.extractLsb' 6 2 = s.cpsr.extractLsb' 6 2 := by
  apply BitVec.eq_of_getLsbD_eq
  intro i hi
  rw [BitVec.getLsbD_extractLsb', BitVec.getLsbD_extractLsb', State.setFlags, flags_low _ _ _ _ _ _ (by omega),
    BitVec.getLsbD_extractLsb', Nat.zero_add, decide_eq_true (by omega : 6 + i < 28), Bool.true_and]

/-- They lie above the T bit. -/
theorem State.setThumb_interrupts (s : State) (b : Bool) :
    (s.setThumb b).cpsr.extractLsb' 6 2 = s.cpsr.extractLsb' 6 2 := by
  apply BitVec.eq_of_getLsbD_eq
  intro i hi
  rw [BitVec.getLsbD_extractLsb', BitVec.getLsbD_extractLsb', State.setThumb, BitVec.getLsbD_append,
    if_neg (by omega), BitVec.getLsbD_append, if_neg (by omega), BitVec.getLsbD_extractLsb',
    show 6 + (6 + i - 5 - 1) = 6 + i by omega, decide_eq_true (by omega : 6 + i - 5 - 1 < 26), Bool.true_and]

/-- A field of the control byte is not touched by a new flag byte. -/
theorem newFlags_control (f : BitVec 4) (w : Word) {a n : Nat} (h : a + n ≤ 8) :
    (f ++ 0#20 ++ w.extractLsb' 0 8 : Word).extractLsb' a n = w.extractLsb' a n := by
  apply BitVec.eq_of_getLsbD_eq
  intro i hi
  rw [BitVec.getLsbD_extractLsb', BitVec.getLsbD_extractLsb', BitVec.getLsbD_append, if_pos (by omega),
    BitVec.getLsbD_extractLsb', Nat.zero_add, decide_eq_true (by omega : a + i < 8), Bool.true_and]

/-! The entry of an exception. -/

theorem State.spsrOf_setSpsrOf_same (s : State) {m : BitVec 5} (h : modeHasSpsr m = true) (v : Word) :
    (s.setSpsrOf m v).spsrOf m = v := by
  simp only [modeHasSpsr, Bool.or_eq_true, beq_iff_eq] at h
  rcases h with (((rfl | rfl) | rfl) | rfl) | rfl <;> rfl

theorem State.spsrOf_setSpsrOf_other (s : State) {m n : BitVec 5} (h : n ≠ m) (v : Word) :
    (s.setSpsrOf m v).spsrOf n = s.spsrOf n := by
  rw [State.setSpsrOf_eq]
  unfold State.spsrOf
  simp only [beq_iff_eq]
  iterate 5 refine ite_congr rfl (fun e => if_neg (e ▸ h.symm)) fun _ => ?_
  rfl

theorem exceptionEntry_spsrOf_same (e : Exc) (s : State) : (exceptionEntry e s).spsrOf e.mode = s.cpsr :=
  State.spsrOf_setSpsrOf_same _ (Exc.mode_legal e).2 _

theorem exceptionEntry_spsrOf_other (s : State) {e : Exc} {m : BitVec 5} (h : m ≠ e.mode) :
    (exceptionEntry e s).spsrOf m = s.spsrOf m :=
  State.spsrOf_setSpsrOf_other _ h _

theorem exceptionEntry_regs_other (s : State) {e : Exc} {k : Fin 30} (h : k ≠ regIndex e.mode 14#4) :
    (exceptionEntry e s).regs[k] = s.regs[k] := by
  have place : (exceptionEntry e s).regs = s.regs.set (regIndex e.mode 14#4) (s.linkOf e) := by
    simp [exceptionEntry, State.bankSet]
  rw [place]
  exact Vector.getElem_set_ne _ _ fun eq => h (Fin.ext eq.symm)

/-- I is set, F is kept and T is cleared by the exceptions that do not set F (R530). -/
theorem entryStatus_control (w : Word) {e : Exc} (h : ¬ (e = .reset ∨ e = .fiq)) :
    (entryStatus w e).extractLsb' 5 3 = 1#1 ++ w.extractLsb' 6 1 ++ 0#1 := by
  rw [entryStatus, if_neg h]
  generalize w.extractLsb' 6 1 = f
  generalize w.extractLsb' 8 24 = hi
  generalize e.mode = m
  apply BitVec.eq_of_getLsbD_eq
  intro i hi
  simp only [BitVec.getLsbD_extractLsb', BitVec.getLsbD_append]
  rcases (by omega : i = 0 ∨ i = 1 ∨ i = 2) with rfl | rfl | rfl <;> simp

/-! Within reach of User mode. -/

/-- `t` is `s` after a part of an instruction in User mode: it is in User mode still, no debugger takes part, and what
User mode cannot reach is as it was. -/
structure InUser (s t : State) : Prop where
  mode : t.mode = modeUsr
  undebugged : t.undebugged = true
  interrupts : t.cpsr.extractLsb' 6 2 = s.cpsr.extractLsb' 6 2
  cp15 : t.cp15 = s.cp15
  icache : t.icache = s.icache
  waiting : t.waiting = s.waiting
  spsrFiq : t.spsrFiq = s.spsrFiq
  spsrIrq : t.spsrIrq = s.spsrIrq
  spsrSvc : t.spsrSvc = s.spsrSvc
  spsrAbt : t.spsrAbt = s.spsrAbt
  spsrUnd : t.spsrUnd = s.spsrUnd
  banked : ∀ k : Fin 30, 15 ≤ k.val → t.regs[k] = s.regs[k]

/-- The same while the CPSR is the old one, so that an exception would still save it. -/
structure BeforeStatus (s t : State) : Prop extends InUser s t where
  cpsr : t.cpsr = s.cpsr

theorem BeforeStatus.refl {s : State} (hm : s.mode = modeUsr) (hu : s.undebugged = true) : BeforeStatus s s where
  mode := hm
  undebugged := hu
  interrupts := rfl
  cp15 := rfl
  icache := rfl
  waiting := rfl
  spsrFiq := rfl
  spsrIrq := rfl
  spsrSvc := rfl
  spsrAbt := rfl
  spsrUnd := rfl
  banked := fun _ _ => rfl
  cpsr := rfl

section
variable {s u : State}

theorem InUser.privileged (h : InUser s u) : u.privileged = false := by
  rw [State.privileged, h.mode]
  rfl

theorem InUser.active (h : InUser s u) : u.dbg.active = false := by
  have hu := h.undebugged
  simp only [State.undebugged, Bool.and_eq_true, Bool.not_eq_true'] at hu
  exact hu.1

theorem InUser.spsrOf (h : InUser s u) (m : BitVec 5) : u.spsrOf m = s.spsrOf m := by
  unfold State.spsrOf
  rw [h.spsrFiq, h.spsrIrq, h.spsrSvc, h.spsrAbt, h.spsrUnd]

/-- A change of the status word that keeps the mode and the disable bits, and of the fields User mode reaches. -/
theorem InUser.congr {t : State} (h : InUser s u) (hm : t.mode = u.mode)
    (hi : t.cpsr.extractLsb' 6 2 = u.cpsr.extractLsb' 6 2) (hr : t.regs = u.regs := by rfl)
    (hd : t.undebugged = u.undebugged := by rfl) (hc : t.cp15 = u.cp15 := by rfl) (hic : t.icache = u.icache := by rfl)
    (hw : t.waiting = u.waiting := by rfl) (hf : t.spsrFiq = u.spsrFiq := by rfl)
    (hq : t.spsrIrq = u.spsrIrq := by rfl) (hs : t.spsrSvc = u.spsrSvc := by rfl)
    (ha : t.spsrAbt = u.spsrAbt := by rfl) (hn : t.spsrUnd = u.spsrUnd := by rfl) : InUser s t where
  mode := hm.trans h.mode
  undebugged := hd.trans h.undebugged
  interrupts := hi.trans h.interrupts
  cp15 := hc.trans h.cp15
  icache := hic.trans h.icache
  waiting := hw.trans h.waiting
  spsrFiq := hf.trans h.spsrFiq
  spsrIrq := hq.trans h.spsrIrq
  spsrSvc := hs.trans h.spsrSvc
  spsrAbt := ha.trans h.spsrAbt
  spsrUnd := hn.trans h.spsrUnd
  banked := fun k hk => (congrArg (·[k]) hr).trans (h.banked k hk)

theorem InUser.setFlags (h : InUser s u) (n z c v : Bool) : InUser s (u.setFlags n z c v) :=
  h.congr (State.setFlags_mode ..) (State.setFlags_interrupts ..)

theorem InUser.setFlagsOf (h : InUser s u) (r : FlagResult) : InUser s (u.setFlagsOf r) := h.setFlags ..

theorem InUser.setThumb (h : InUser s u) (b : Bool) : InUser s (u.setThumb b) :=
  h.congr (State.setThumb_mode ..) (State.setThumb_interrupts ..)

theorem InUser.setPc (h : InUser s u) (p : Word) : InUser s { u with pc := p } := h.congr rfl rfl

theorem InUser.draw (h : InUser s u) : InUser s u.draw.2 := h.congr rfl rfl

/-- The registers of User mode are the first fifteen of the register file (R31). -/
theorem regIndex_user {i : BitVec 4} (h : i ≠ 15#4) : (regIndex modeUsr i).val < 15 := by
  revert i
  decide

theorem InUser.bankSet (h : InUser s u) {i : BitVec 4} (hi : i ≠ 15#4) (v : Word) :
    InUser s (u.bankSet modeUsr i v) :=
  { h with
    banked := fun k hk => by
      have below := regIndex_user hi
      exact (Vector.getElem_set_ne (Fin.isLt _) k.isLt (by omega)).trans (h.banked k hk) }

theorem InUser.setReg (h : InUser s u) {i : BitVec 4} (hi : i ≠ 15#4) (v : Word) : InUser s (u.setReg i v) := by
  rw [State.setReg, h.mode]
  exact h.bankSet hi v

theorem InUser.multiplyFlags (h : InUser s u) (r : Word) : InUser s (u.multiplyFlags r) := h.draw.setFlags ..

theorem InUser.longFlags (h : InUser s u) (p : BitVec 64) : InUser s (u.longFlags p) := h.draw.setFlags ..

theorem InUser.writeBase (h : InUser s u) {rn : BitVec 4} {v : Option Word} (hn : v.isSome = true → rn ≠ 15#4) :
    InUser s (u.writeBase rn v) := by
  cases v with
  | none => exact h
  | some v => exact h.setReg (hn rfl) v

theorem InUser.setHeld (h : InUser s u) {rn : BitVec 4} (hn : rn ≠ 15#4) (v : Option Word) :
    InUser s (u.setHeld modeUsr rn v) := by
  cases v with
  | none => exact h
  | some v => exact h.bankSet hn v

theorem InUser.loadedBase (h : InUser s u) (w : BitVec 1) {rn : BitVec 4} (hn : rn ≠ 15#4) (hd : Held) (wb : Word) :
    InUser s (u.loadedBase w rn hd wb) := by
  unfold State.loadedBase
  rw [h.mode]
  dsimp only
  split
  · exact (h.setHeld hn _).setReg hn wb
  · exact h.setHeld hn _

/-- A data access leaves all of it as it was. -/
theorem BeforeStatus.kept {t : State} (h : BeforeStatus s u) (k : KeptCore u t) : BeforeStatus s t :=
  ⟨h.congr (congrArg (·.extractLsb' 0 5) k.cpsr) (congrArg (·.extractLsb' 6 2) k.cpsr) k.regs k.undebugged k.cp15
    k.icache k.waiting k.spsrFiq k.spsrIrq k.spsrSvc k.spsrAbt k.spsrUnd, k.cpsr.trans h.cpsr⟩

theorem BeforeStatus.bankSet (h : BeforeStatus s u) {i : BitVec 4} (hi : i ≠ 15#4) (v : Word) :
    BeforeStatus s (u.bankSet modeUsr i v) := ⟨h.toInUser.bankSet hi v, h.cpsr⟩

theorem BeforeStatus.setCpState (h : BeforeStatus s u) (cp : BitVec 4) (v : Nat) :
    BeforeStatus s (u.setCpState cp v) := ⟨h.congr rfl rfl, h.cpsr⟩

theorem BeforeStatus.offered (h : BeforeStatus s u) : BeforeStatus s u.offered := ⟨h.congr rfl rfl, h.cpsr⟩

/-! The end of an instruction in User mode. -/

/-- The exceptions that an instruction in User mode can take (R521). -/
def userExceptions : List Exc := [.undefined, .swi, .dataAbort]

/-- An instruction in User mode ends in User mode, or takes an exception. -/
inductive UserEnd (s : State) : State → Prop where
  | goesOn {t : State} (h : InUser s t) : UserEnd s t
  | raises {u : State} {e : Exc} (he : e ∈ userExceptions) (h : BeforeStatus s u) : UserEnd s (takeException e u)

/-- Where an instruction goes on from `s` in User mode, it ends so. -/
structure Confined (s : State) (r : Result) : Prop where
  next : ∀ t, r = .next t → UserEnd s t

theorem confined_next {t : State} (h : InUser s t) : Confined s (.next t) := by
  refine ⟨fun t' e => ?_⟩
  cases e
  exact .goesOn h

theorem confined_refused (e : Refusal) : Confined s (.refused e) := by
  refine ⟨fun t h => ?_⟩
  cases h

theorem raise_confined {e : Exc} (h : BeforeStatus s u) (he : e ∈ userExceptions) : Confined s (raise e u) := by
  refine ⟨fun t eq => ?_⟩
  cases eq
  exact .raises he h

/-! The shared operations. -/

theorem finish_confined (h : InUser s u) : Confined s (finish u) := by
  refine ⟨fun t e => ?_⟩
  obtain ⟨-, rfl⟩ := finish_next e
  exact .goesOn (h.setPc _)

theorem finish_setReg_confined (h : InUser s u) {i : BitVec 4} (hi : i ≠ 15#4) (v : Word) :
    Confined s (finish (u.setReg i v)) := finish_confined (h.setReg hi v)

theorem ifPassed_confined {cond : BitVec 4} {f : State → Result} (h : InUser s u) (hf : Confined s (f u)) :
    Confined s (ifPassed cond u f) := by
  rcases ifPassed_cases cond u f with ⟨-, e⟩ | ⟨-, e⟩ | ⟨-, -, e⟩ <;> rw [e]
  · exact confined_refused _
  · exact hf
  · exact finish_confined h

theorem unlessRefused_confined {r : Option Refusal} {k : Result} (h : r = none → Confined s k) :
    Confined s (unlessRefused r k) :=
  ⟨fun t e => (h (unlessRefused_next e).1).next t (unlessRefused_next e).2⟩

theorem ite_refused_confined {c : Prop} [Decidable c] {e : Refusal} {k : Result} (h : ¬ c → Confined s k) :
    Confined s (if c then .refused e else k) := by
  split
  · exact confined_refused _
  · rename_i hc
    exact h hc

/-- An access in User mode ends before the status word has changed. -/
def Access.inUser {α : Type} (s : State) : Access α → Prop
  | .done _ t => BeforeStatus s t
  | .abort t => BeforeStatus s t
  | .fault _ => True

theorem Access.inUser_of_kept {α : Type} {a : Access α} (h : BeforeStatus s u) (k : a.keeps u) : a.inUser s := by
  cases a with
  | done v t => exact h.kept k
  | abort t => exact h.kept k
  | fault e => trivial

theorem afterAccess_confined {α : Type} {a : Access α} {f : α → State → Result} (ha : a.inUser s)
    (hf : ∀ v t, BeforeStatus s t → Confined s (f v t)) : Confined s (afterAccess a f) := by
  refine ⟨fun t e => ?_⟩
  rcases afterAccess_next e with ⟨v, u, rfl, ht⟩ | ⟨u, rfl, rfl⟩
  · exact (hf v u ha).next t ht
  · exact .raises (by decide) ha

theorem writePc_confined (h : InUser s u) (r : Word) : Confined s (writePc r u) := by
  refine ⟨fun t e => ?_⟩
  obtain ⟨p, -, rfl⟩ := writePc_aligned e
  exact .goesOn (h.setPc p)

/-- User mode has no SPSR to return with (R36). -/
theorem returnFromException_confined (h : InUser s u) (writes : State → Result) :
    Confined s (returnFromException writes u) := by
  rw [returnFromException, h.mode, if_pos (by decide)]
  exact confined_refused _

theorem branchTo_confined (h : InUser s u) (target : Int) : Confined s (branchTo target u) := by
  unfold branchTo
  split
  · exact confined_next (h.setPc _)
  · exact confined_refused _

theorem exchangeTo_confined (h : InUser s u) (v : Word) : Confined s (exchangeTo v u) :=
  ite_refused_confined fun _ => confined_next ((h.setThumb _).setPc _)

end

end Sys2Proof.Machine
end

section
/-!
PROOFS. The meanings of the instructions stay within reach of User mode, one lemma for each meaning that instructions
share, and so `exec` does: `exec_confined`.
-/

namespace Sys2Proof.Machine

/-! Operands that the refusals leave. -/

/-- A transfer that writes its base back does not have R15 for its base. -/
theorem indexRefusal_none_base {wb : Bool} {rn rd : BitVec 4} {rm : Option (BitVec 4)}
    (h : indexRefusal wb rn rd rm = none) (hw : wb = true) : rn ≠ 15#4 := by
  rintro rfl
  subst hw
  unfold indexRefusal at h
  split at h <;> cases h

theorem indexing_writeback_isSome (s : State) (p u w : BitVec 1) (rn : BitVec 4) (offset : Word) :
    (s.indexing p u w rn offset).writeback.isSome = (p == 0#1 || w == 1#1) := by
  rcases bit_cases p with rfl | rfl <;> rcases bit_cases w with rfl | rfl <;> rfl

theorem cpIndexing_writeback_isSome {s : State} {p u w : BitVec 1} {rn : BitVec 4} {imm8 : BitVec 8}
    (h : (s.cpIndexing p u w rn imm8).writeback.isSome = true) : w = 1#1 := by
  unfold State.cpIndexing at h
  rcases bit_cases w with rfl | rfl
  · cases h
  · rfl

theorem blockRefusal_none_base {rn : BitVec 4} {list : BitVec 16} (h : blockRefusal rn list = none) : rn ≠ 15#4 := by
  rintro rfl
  unfold blockRefusal at h
  rw [if_pos (.inr rfl)] at h
  cases h

theorem longRefusal_none_destinations {hi lo rs rm : BitVec 4} (h : longRefusal hi lo rs rm = none) :
    hi ≠ 15#4 ∧ lo ≠ 15#4 := by
  constructor <;> rintro rfl <;> rw [longRefusal_pc (by simp)] at h <;> cases h

theorem lowReg_ne_pc (r : BitVec 3) : lowReg r ≠ 15#4 := by
  revert r
  decide

/-- The writeback of an addressing mode goes to no R15. -/
theorem indexing_base {s : State} {p up w : BitVec 1} {rn rd : BitVec 4} {rm : Option (BitVec 4)} {offset : Word}
    (h : indexRefusal (p == 0#1 || w == 1#1) rn rd rm = none)
    (hw : (s.indexing p up w rn offset).writeback.isSome = true) : rn ≠ 15#4 :=
  indexRefusal_none_base h ((indexing_writeback_isSome ..).symm.trans hw)

/-! The destinations that may be the pc or the flags. -/

section
variable {s u : State} (h : InUser s u)
include h

theorem loadWrite_confined (rd : BitVec 4) (v : Word) : Confined s (loadWrite rd v u) := by
  unfold loadWrite
  split
  · exact confined_next (h.setPc _)
  · rename_i hd
    exact finish_setReg_confined h hd v

theorem highWrite_confined (d : BitVec 4) (v : Word) : Confined s (highWrite d v u) := by
  unfold highWrite
  split
  · exact confined_next (h.setPc _)
  · rename_i hd
    exact finish_setReg_confined h hd v

theorem transferIn_confined (rd : BitVec 4) (v : Word) : Confined s (transferIn rd v u) := by
  unfold transferIn
  split
  · exact finish_confined (h.setFlags ..)
  · rename_i hd
    exact finish_setReg_confined h hd v

theorem dpWrite_confined (sf : BitVec 1) (rd : BitVec 4) (r : FlagResult) : Confined s (dpWrite sf rd r u) := by
  unfold dpWrite
  split
  · split
    · exact returnFromException_confined h _
    · exact writePc_confined h _
  · rename_i hd
    refine finish_setReg_confined ?_ hd _
    split
    · exact h.setFlagsOf r
    · exact h

theorem loadedPc_confined (hd : Held) : Confined s (loadedPc hd u) := by
  unfold loadedPc
  split
  · exact confined_next (h.setPc _)
  · exact finish_confined h

theorem poppedPc_confined (hd : Held) : Confined s (poppedPc hd u) := by
  unfold poppedPc
  split
  · exact confined_next (h.setPc _)
  · exact finish_confined h

end

section
variable {s u : State} (h : BeforeStatus s u)
include h

/-! Accesses. -/

theorem load_inUser (a : Word) (sz : Size) (privileged : Bool) : (load a sz privileged u).inUser s :=
  Access.inUser_of_kept h (load_kept ..)

theorem store_inUser (a : Word) (sz : Size) (v : Word) (privileged join : Bool) :
    (store a sz v privileged join u).inUser s :=
  Access.inUser_of_kept h (store_kept ..)

theorem storeMany_inUser (vs : List Word) (a : Word) (join : Bool) : (storeMany vs a join u).inUser s :=
  Access.inUser_of_kept h (storeMany_kept ..)

theorem loadMany_inUser (hold : BitVec 4 → Bool) (is : List (BitVec 4)) (a : Word) (hd : Held) :
    (loadMany modeUsr hold is a hd u).inUser s := by
  induction is generalizing a hd u with
  | nil => exact h
  | cons i rest ih =>
    have hl := load_inUser h (wordAddr a) .word u.privileged
    unfold loadMany
    cases hx : load (wordAddr a) .word u.privileged u with
    | done v t =>
      rw [hx] at hl
      dsimp only
      split
      · exact ih hl ..
      · rename_i hi
        split
        · exact ih hl ..
        · exact ih (hl.bankSet hi v) ..
    | abort t => rw [hx] at hl; exact hl
    | fault e => trivial

theorem cpLoadMany_inUser (cp : BitVec 4) (w a : Word) (n k : Nat) : (cpLoadMany cp w a n k u).inUser s := by
  induction n generalizing k u with
  | zero => exact h
  | succ n ih =>
    have hl := load_inUser h (a + BitVec.ofNat 32 (4 * k)) .word u.privileged
    unfold cpLoadMany
    cases hx : load (a + BitVec.ofNat 32 (4 * k)) .word u.privileged u with
    | done v t => rw [hx] at hl; exact ih (hl.setCpState ..) _
    | abort t => rw [hx] at hl; exact hl
    | fault e => trivial

theorem cpStoreMany_inUser (vs : List Word) (a : Word) (join : Bool) : (cpStoreMany vs a join u).inUser s := by
  induction vs generalizing a join u with
  | nil => exact h
  | cons v rest ih =>
    have hs := store_inUser h a .word v u.privileged join
    unfold cpStoreMany
    cases hx : store a .word v u.privileged join u with
    | done x t => rw [hx] at hs; exact ih hs ..
    | abort t => rw [hx] at hs; exact hs
    | fault e => trivial

/-! ARM data processing and status registers. -/

theorem dataOp_confined (op : DpOp) (cond : BitVec 4) (sf : BitVec 1) (rn rd : BitVec 4) (op2 : Operand2) :
    Confined s (dataOp op cond sf rn rd op2 u) :=
  ifPassed_confined h.toInUser (dpWrite_confined h.toInUser ..)

theorem moveOp_confined (op : DpOp) (cond : BitVec 4) (sf : BitVec 1) (rn rd : BitVec 4) (op2 : Operand2) :
    Confined s (moveOp op cond sf rn rd op2 u) := by
  refine ifPassed_confined h.toInUser ?_
  split
  · exact dpWrite_confined h.toInUser ..
  · exact confined_refused _

theorem compareOp_confined (op : DpOp) (cond rn rd : BitVec 4) (op2 : Operand2) :
    Confined s (compareOp op cond rn rd op2 u) := by
  refine ifPassed_confined h.toInUser ?_
  split
  · exact finish_confined (h.setFlagsOf _)
  · exact confined_refused _

theorem execMrs_confined (cond : BitVec 4) (r : BitVec 1) (sbo rd hi lo : BitVec 4) :
    Confined s (execMrs cond r sbo rd hi lo u) := by
  refine ifPassed_confined h.toInUser (ite_refused_confined fun _ => ite_refused_confined fun hd => ?_)
  split
  · exact finish_setReg_confined h.toInUser hd _
  · split
    · exact finish_setReg_confined h.toInUser hd _
    · exact confined_refused _

/-- In User mode an MSR leaves the mode and the disable bits (R281). -/
theorem msrCpsr_confined (mask : BitVec 4) (v : Word) : Confined s (msrCpsr mask v u) := by
  have hu : ¬ (u.mode ≠ modeUsr ∨ u.dbg.active = true) := by simp [h.mode, h.active]
  have control {a n : Nat} (hn : a + n ≤ 8) :
      (statusMerge u.cpsr v (u.cpsrBytes mask)).extractLsb' a n = u.cpsr.extractLsb' a n := by
    rw [cpsrBytes_user hu, statusMerge_fieldBytes, msrWord_user, newFlags_control _ _ hn]
  refine ite_refused_confined fun _ => ?_
  split
  · exact finish_confined (h.congr (control (by decide)) (control (by decide)))
  · exact confined_refused _

theorem msrWrite_confined (r : BitVec 1) (mask : BitVec 4) (v : Word) : Confined s (msrWrite r mask v u) := by
  unfold msrWrite
  split
  · exact msrCpsr_confined h mask v
  · rw [msrSpsr, h.mode, if_neg (by decide)]
    exact confined_refused _

theorem execMsrReg_confined (cond : BitVec 4) (r : BitVec 1) (mask sbo sbz rm : BitVec 4) :
    Confined s (execMsrReg cond r mask sbo sbz rm u) :=
  ifPassed_confined h.toInUser (ite_refused_confined fun _ => ite_refused_confined fun _ => msrWrite_confined h ..)

theorem execMsrImm_confined (cond : BitVec 4) (r : BitVec 1) (mask sbo rot : BitVec 4) (imm8 : BitVec 8) :
    Confined s (execMsrImm cond r mask sbo rot imm8 u) :=
  ifPassed_confined h.toInUser (ite_refused_confined fun _ => msrWrite_confined h ..)

theorem undefinedArm_confined (cond : BitVec 4) : Confined s (undefinedArm cond u) :=
  ifPassed_confined h.toInUser (raise_confined h (by decide))

theorem execSwi_confined (cond : BitVec 4) (imm24 : BitVec 24) : Confined s (execSwi cond imm24 u) :=
  ifPassed_confined h.toInUser (raise_confined h (by decide))

/-! Multiplies. -/

theorem multiplyWrite_confined (sf : BitVec 1) {rd : BitVec 4} (hd : rd ≠ 15#4) (r : Word) :
    Confined s (multiplyWrite sf rd r u) := by
  refine finish_setReg_confined ?_ hd _
  split
  · exact h.multiplyFlags r
  · exact h.toInUser

theorem execMul_confined (cond : BitVec 4) (sf : BitVec 1) (rd sbz rs rm : BitVec 4) :
    Confined s (execMul cond sf rd sbz rs rm u) :=
  ifPassed_confined h.toInUser (ite_refused_confined fun _ => ite_refused_confined fun hpc =>
    ite_refused_confined fun _ => multiplyWrite_confined h _ (not_or.mp hpc).1 _)

theorem execMla_confined (cond : BitVec 4) (sf : BitVec 1) (rd rn rs rm : BitVec 4) :
    Confined s (execMla cond sf rd rn rs rm u) :=
  ifPassed_confined h.toInUser (ite_refused_confined fun hpc =>
    ite_refused_confined fun _ => multiplyWrite_confined h _ (not_or.mp hpc).1 _)

theorem longMultiply_confined (signed accumulate : Bool) (cond : BitVec 4) (sf : BitVec 1) (hi lo rs rm : BitVec 4) :
    Confined s (longMultiply signed accumulate cond sf hi lo rs rm u) := by
  refine ifPassed_confined h.toInUser ?_
  split
  · exact confined_refused _
  · rename_i hr
    obtain ⟨hhi, hlo⟩ := longRefusal_none_destinations hr
    refine finish_setReg_confined (InUser.setReg ?_ hlo _) hhi _
    split
    · exact h.longFlags _
    · exact h.toInUser

/-! Single loads, stores and swaps. -/

theorem loadInto_confined (k : LoadKind) (privileged : Bool) {rn : BitVec 4} (rd : BitVec 4) {ix : Indexing}
    (hn : ix.writeback.isSome = true → rn ≠ 15#4) : Confined s (loadInto k privileged rn rd ix u) :=
  ite_refused_confined fun _ => afterAccess_confined (load_inUser h ..) fun _ _ g =>
    loadWrite_confined (g.writeBase hn) ..

theorem storeFrom_confined (sz : Size) (privileged : Bool) {rn : BitVec 4} (rd : BitVec 4) {ix : Indexing}
    (hn : ix.writeback.isSome = true → rn ≠ 15#4) : Confined s (storeFrom sz privileged rn rd ix u) :=
  ite_refused_confined fun _ => afterAccess_confined (store_inUser h ..) fun _ _ g =>
    finish_confined (g.writeBase hn)

theorem loadOp_confined (k : LoadKind) (pcOk user : Bool) (cond : BitVec 4) (p up w : BitVec 1) (rn rd : BitVec 4)
    (off : Offset2) : Confined s (loadOp k pcOk user cond p up w rn rd off u) :=
  ifPassed_confined h.toInUser (unlessRefused_confined fun _ => unlessRefused_confined fun hi =>
    loadInto_confined h _ _ _ (indexing_base hi))

theorem storeOp_confined (sz : Size) (pcOk user : Bool) (cond : BitVec 4) (p up w : BitVec 1) (rn rd : BitVec 4)
    (off : Offset2) : Confined s (storeOp sz pcOk user cond p up w rn rd off u) :=
  ifPassed_confined h.toInUser (unlessRefused_confined fun _ => unlessRefused_confined fun hi =>
    storeFrom_confined h _ _ _ (indexing_base hi))

theorem loadHalfOp_confined (k : LoadKind) (cond : BitVec 4) (p up w : BitVec 1) (rn rd : BitVec 4) (off : Offset3) :
    Confined s (loadHalfOp k cond p up w rn rd off u) :=
  ifPassed_confined h.toInUser (unlessRefused_confined fun _ => unlessRefused_confined fun _ =>
    unlessRefused_confined fun hi => loadInto_confined h _ _ _ (indexing_base hi))

theorem storeHalfOp_confined (cond : BitVec 4) (p up w : BitVec 1) (rn rd : BitVec 4) (off : Offset3) :
    Confined s (storeHalfOp cond p up w rn rd off u) :=
  ifPassed_confined h.toInUser (unlessRefused_confined fun _ => unlessRefused_confined fun _ =>
    unlessRefused_confined fun hi => storeFrom_confined h _ _ _ (indexing_base hi))

theorem swapOp_confined (sz : Size) (k : LoadKind) (cond rn rd sbz rm : BitVec 4) :
    Confined s (swapOp sz k cond rn rd sbz rm u) :=
  ifPassed_confined h.toInUser (ite_refused_confined fun _ => ite_refused_confined fun hpc =>
    ite_refused_confined fun _ =>
      afterAccess_confined (Access.inUser_of_kept h (swapAccess_kept ..)) fun _ _ g =>
        finish_setReg_confined g.toInUser (not_or.mp (not_or.mp hpc).2).1 _)

/-! Block transfers. -/

theorem execLdm_confined (cond : BitVec 4) (p up w : BitVec 1) (rn : BitVec 4) (list : BitVec 16) :
    Confined s (execLdm cond p up w rn list u) := by
  refine ifPassed_confined h.toInUser (unlessRefused_confined fun hb => unlessRefused_confined fun _ => ?_)
  rw [h.mode]
  exact afterAccess_confined (loadMany_inUser h ..) fun _ _ g =>
    loadedPc_confined (g.loadedBase w (blockRefusal_none_base hb) ..) _

/-- The forms for the User registers are refused where they are the mode's own (R352, R355). -/
theorem userForm_confined (w : BitVec 1) (k : Result) : Confined s (unlessRefused (userRefusal w u) k) := by
  rw [userRefusal_userMode w (.inl h.mode)]
  exact confined_refused _

theorem execLdmUser_confined (cond : BitVec 4) (p up w : BitVec 1) (rn : BitVec 4) (list : BitVec 15) :
    Confined s (execLdmUser cond p up w rn list u) := by
  unfold execLdmUser
  exact ifPassed_confined h.toInUser (unlessRefused_confined fun _ => userForm_confined h ..)

theorem execLdmRestore_confined (cond : BitVec 4) (p up w : BitVec 1) (rn : BitVec 4) (list : BitVec 15) :
    Confined s (execLdmRestore cond p up w rn list u) := by
  unfold execLdmRestore
  refine ifPassed_confined h.toInUser (unlessRefused_confined fun _ => unlessRefused_confined fun _ => ?_)
  rw [h.mode, if_pos (by decide)]
  exact confined_refused _

theorem execStm_confined (cond : BitVec 4) (p up w : BitVec 1) (rn : BitVec 4) (list : BitVec 16) :
    Confined s (execStm cond p up w rn list u) := by
  refine ifPassed_confined h.toInUser (unlessRefused_confined fun hb => unlessRefused_confined fun _ =>
    afterAccess_confined (storeMany_inUser h ..) fun _ _ g => finish_confined ?_)
  split
  · exact g.setReg (blockRefusal_none_base hb) _
  · exact g.toInUser

theorem execStmUser_confined (cond : BitVec 4) (p up w : BitVec 1) (rn : BitVec 4) (list : BitVec 16) :
    Confined s (execStmUser cond p up w rn list u) :=
  ifPassed_confined h.toInUser (unlessRefused_confined fun _ => userForm_confined h ..)

/-! Branches. -/

theorem execB_confined (cond : BitVec 4) (imm24 : BitVec 24) : Confined s (execB cond imm24 u) :=
  ifPassed_confined h.toInUser (branchTo_confined h.toInUser _)

theorem execBl_confined (cond : BitVec 4) (imm24 : BitVec 24) : Confined s (execBl cond imm24 u) :=
  ifPassed_confined h.toInUser (branchTo_confined (h.setReg (by decide) _) _)

theorem execBx_confined (cond a b c rm : BitVec 4) : Confined s (execBx cond a b c rm u) :=
  ifPassed_confined h.toInUser (ite_refused_confined fun _ => ite_refused_confined fun _ =>
    exchangeTo_confined h.toInUser _)

/-! Coprocessors. -/

theorem offer_confined {cp : BitVec 4} {w : Word} {k : Nat → State → Result}
    (hk : ∀ n, Confined s (k n u.offered)) : Confined s (offer cp w u k) := by
  refine ⟨fun t e => ?_⟩
  rcases offer_next e with ⟨-, rfl⟩ | ⟨-, -, rfl⟩ | ⟨-, -, rfl⟩ | ⟨-, n, -, e⟩
  · exact .raises (by decide) h
  · exact .raises (by decide) h.offered
  · exact .goesOn (h.offered.congr rfl rfl)
  · exact (hk _).next t e

theorem cpLoad_confined (cond : BitVec 4) {wb : BitVec 1} (rn cp : BitVec 4) (w : Word) {ix : State → Indexing}
    (hx : ∀ v, (ix v).writeback.isSome = true → wb = 1#1) : Confined s (cpLoad cond wb rn cp w ix u) :=
  ifPassed_confined h.toInUser (offer_confined h fun _ => ite_refused_confined fun hpc =>
    afterAccess_confined (cpLoadMany_inUser h.offered ..) fun _ _ g =>
      finish_confined (g.writeBase fun hv hn => hpc ⟨hn, hx _ hv⟩))

theorem cpStore_confined (cond : BitVec 4) {wb : BitVec 1} (rn cp : BitVec 4) (w : Word) {ix : State → Indexing}
    (hx : ∀ v, (ix v).writeback.isSome = true → wb = 1#1) : Confined s (cpStore cond wb rn cp w ix u) :=
  ifPassed_confined h.toInUser (offer_confined h fun _ => ite_refused_confined fun hpc =>
    afterAccess_confined (cpStoreMany_inUser h.offered ..) fun _ _ g =>
      finish_confined (g.writeBase fun hv hn => hpc ⟨hn, hx _ hv⟩))

theorem execCdp_confined (cond op1 crn crd cp : BitVec 4) (op2 : BitVec 3) (crm : BitVec 4) :
    Confined s (execCdp cond op1 crn crd cp op2 crm u) := by
  unfold execCdp
  exact ifPassed_confined h.toInUser (offer_confined h fun _ => finish_confined (h.offered.setCpState ..).toInUser)

/-- Every access to CP15 is the Undefined Instruction exception (R400). -/
theorem cp15Access_confined (cond : BitVec 4) (f : State → Result) : Confined s (cp15Access cond u f) := by
  refine ifPassed_confined h.toInUser ?_
  rw [h.privileged, if_neg (by decide)]
  exact raise_confined h (by decide)

theorem cp15Read_confined (r : SysReg) (cond rd : BitVec 4) : Confined s (cp15Read r cond rd u) :=
  cp15Access_confined h ..

theorem cp15Write_confined (r : SysReg) (cond rd : BitVec 4) : Confined s (cp15Write r cond rd u) :=
  cp15Access_confined h ..

theorem cp15Op_confined (op : CacheOp) (cond rd : BitVec 4) : Confined s (cp15Op op cond rd u) :=
  cp15Access_confined h ..

theorem cp15None_confined (cond : BitVec 4) : Confined s (cp15None cond u) := cp15Access_confined h ..

theorem cp14None_confined (cond : BitVec 4) : Confined s (cp14None cond u) :=
  ifPassed_confined h.toInUser (confined_refused _)

theorem execMcr_confined (cond : BitVec 4) (op1 : BitVec 3) (crn rd cp : BitVec 4) (op2 : BitVec 3) (crm : BitVec 4) :
    Confined s (execMcr cond op1 crn rd cp op2 crm u) := by
  unfold execMcr
  dsimp only
  split
  · exact cp15None_confined h cond
  · split
    · exact cp14None_confined h cond
    · exact ifPassed_confined h.toInUser (offer_confined h fun _ => ite_refused_confined fun _ =>
        finish_confined (h.offered.setCpState ..).toInUser)

theorem execMrc_confined (cond : BitVec 4) (op1 : BitVec 3) (crn rd cp : BitVec 4) (op2 : BitVec 3) (crm : BitVec 4) :
    Confined s (execMrc cond op1 crn rd cp op2 crm u) := by
  unfold execMrc
  dsimp only
  split
  · exact cp15None_confined h cond
  · split
    · exact cp14None_confined h cond
    · exact ifPassed_confined h.toInUser (offer_confined h fun _ => transferIn_confined h.offered.toInUser ..)

theorem execMrcP14c0c0o0_confined (cond rd : BitVec 4) : Confined s (execMrcP14c0c0o0 cond rd u) :=
  ifPassed_confined h.toInUser (transferIn_confined h.draw ..)

theorem execMcrP14c1c0o0_confined (cond rd : BitVec 4) : Confined s (execMcrP14c1c0o0 cond rd u) :=
  ifPassed_confined h.toInUser (ite_refused_confined fun _ => finish_confined (h.congr rfl rfl))

theorem execMrcP14c1c0o0_confined (cond rd : BitVec 4) : Confined s (execMrcP14c1c0o0 cond rd u) :=
  have received : InUser s { u with dcc := u.dcc.receive } := h.congr rfl rfl
  ifPassed_confined h.toInUser (transferIn_confined received ..)

/-! Thumb instructions. -/

theorem thumbWrite_confined (rd : BitVec 3) (r : FlagResult) : Confined s (thumbWrite rd r u) :=
  finish_setReg_confined (h.setFlagsOf r) (lowReg_ne_pc rd) _

theorem thumbCompare_confined (r : FlagResult) : Confined s (thumbCompare r u) := finish_confined (h.setFlagsOf r)

theorem execTMul_confined (rs rd : BitVec 3) : Confined s (execTMul rs rd u) :=
  ite_refused_confined fun _ => finish_setReg_confined (h.multiplyFlags _) (lowReg_ne_pc rd) _

theorem highAdd_confined (d r : BitVec 4) : Confined s (highAdd d r u) :=
  ite_refused_confined fun _ => highWrite_confined h.toInUser ..

theorem highCompare_confined (d r : BitVec 4) : Confined s (highCompare d r u) :=
  ite_refused_confined fun _ => thumbCompare_confined h _

theorem execTBx_confined (h2 : BitVec 1) (rs sbz : BitVec 3) : Confined s (execTBx h2 rs sbz u) :=
  ite_refused_confined fun _ => exchangeTo_confined h.toInUser _

theorem thumbLoad_confined (k : LoadKind) (rd : BitVec 3) (a : Word) : Confined s (thumbLoad k rd a u) :=
  loadInto_confined h _ _ _ fun _ => by decide

theorem thumbStore_confined (sz : Size) (rd : BitVec 3) (a : Word) : Confined s (thumbStore sz rd a u) :=
  storeFrom_confined h _ _ _ fun _ => by decide

theorem execTPush_confined (r : BitVec 1) (list : BitVec 8) : Confined s (execTPush r list u) :=
  unlessRefused_confined fun _ => afterAccess_confined (storeMany_inUser h ..) fun _ _ g =>
    finish_setReg_confined g.toInUser (by decide) _

theorem execTPop_confined (r : BitVec 1) (list : BitVec 8) : Confined s (execTPop r list u) := by
  unfold execTPop
  rw [h.mode]
  exact unlessRefused_confined fun _ => afterAccess_confined (loadMany_inUser h ..) fun _ _ g =>
    poppedPc_confined (g.setReg (by decide) _) _

theorem execTStmia_confined (rb : BitVec 3) (list : BitVec 8) : Confined s (execTStmia rb list u) :=
  unlessRefused_confined fun _ => unlessRefused_confined fun _ =>
    afterAccess_confined (storeMany_inUser h ..) fun _ _ g => finish_setReg_confined g.toInUser (lowReg_ne_pc rb) _

theorem execTLdmia_confined (rb : BitVec 3) (list : BitVec 8) : Confined s (execTLdmia rb list u) := by
  unfold execTLdmia
  rw [h.mode]
  exact unlessRefused_confined fun _ => afterAccess_confined (loadMany_inUser h ..) fun _ _ g =>
    finish_setReg_confined g.toInUser (lowReg_ne_pc rb) _

theorem thumbCondBranch_confined (cond : BitVec 4) (off : BitVec 8) : Confined s (thumbCondBranch cond off u) := by
  unfold thumbCondBranch
  split
  · exact branchTo_confined h.toInUser _
  · exact finish_confined h.toInUser

theorem execTBlSecond_confined (off : BitVec 11) : Confined s (execTBlSecond off u) :=
  confined_next ((h.setReg (by decide) _).setPc _)

end

end Sys2Proof.Machine
end

section
/-!
PROOFS. Every instruction in User mode is confined (`exec_confined`), and what that says of the exceptions it may take.
-/

namespace Sys2Proof.Machine

/-- Whatever an instruction does in User mode is within reach of User mode, or an exception. -/
theorem exec_confined {s : State} (h : BeforeStatus s s) (i : Instr) : Confined s (exec i s) := by
  cases i
  case condNever | tAddLow | tCmpLow | tMovLow | tBxHigh =>
    exact confined_refused _
  case and | eor | sub | rsb | add | adc | sbc | rsc | orr | bic =>
    exact dataOp_confined h ..
  case tst | teq | cmp | cmn =>
    exact compareOp_confined h ..
  case mov | mvn =>
    exact moveOp_confined h ..
  case mrs =>
    exact execMrs_confined h ..
  case msrReg =>
    exact execMsrReg_confined h ..
  case msrImm =>
    exact execMsrImm_confined h ..
  case bx =>
    exact execBx_confined h ..
  case undControlImm | undControlOne | undControlOneR | undControlHigh | undControlLow | undControlEven |
      undMultiply | undSwapHigh | undSwapOdd | undSwapEven | undSignedStore | undSpace | undCoproc =>
    exact undefinedArm_confined h ..
  case mul =>
    exact execMul_confined h ..
  case mla =>
    exact execMla_confined h ..
  case umull | umlal | smull | smlal =>
    exact longMultiply_confined h ..
  case swp | swpb =>
    exact swapOp_confined h ..
  case strh =>
    exact storeHalfOp_confined h ..
  case ldrh | ldrsb | ldrsh =>
    exact loadHalfOp_confined h ..
  case ldr | ldrPost | ldrt | ldrb | ldrbPost | ldrbt =>
    exact loadOp_confined h ..
  case str | strPost | strt | strb | strbPost | strbt =>
    exact storeOp_confined h ..
  case ldm =>
    exact execLdm_confined h ..
  case ldmUser =>
    exact execLdmUser_confined h ..
  case ldmRestore =>
    exact execLdmRestore_confined h ..
  case stm =>
    exact execStm_confined h ..
  case stmUser =>
    exact execStmUser_confined h ..
  case b =>
    exact execB_confined h ..
  case bl =>
    exact execBl_confined h ..
  case ldcPre | ldcUp | ldcDown =>
    exact cpLoad_confined h _ _ _ _ fun _ => cpIndexing_writeback_isSome
  case stcPre | stcUp | stcDown =>
    exact cpStore_confined h _ _ _ _ fun _ => cpIndexing_writeback_isSome
  case cdp =>
    exact execCdp_confined h ..
  case mcr =>
    exact execMcr_confined h ..
  case mrc =>
    exact execMrc_confined h ..
  case swi cond imm24 =>
    exact execSwi_confined h cond imm24
  case mrcP15c0c0o0 | mrcP15c0c0o2 | mrcP15c0c0o3 | mrcP15c0c0o4 | mrcP15c0c0o5 | mrcP15c0c0o6 | mrcP15c0c0o7 |
      mrcP15c0c0o1 | mrcP15c1c0o0 | mrcP15c2c0o0 | mrcP15c2c0o1 | mrcP15c3c0o0 | mrcP15c5c0o0 | mrcP15c5c0o1 |
      mrcP15c6c0o0 | mrcP15c6c0o1 | mrcP15c6c1o0 | mrcP15c6c1o1 | mrcP15c6c2o0 | mrcP15c6c2o1 | mrcP15c6c3o0 |
      mrcP15c6c3o1 | mrcP15c6c4o0 | mrcP15c6c4o1 | mrcP15c6c5o0 | mrcP15c6c5o1 | mrcP15c6c6o0 | mrcP15c6c6o1 |
      mrcP15c6c7o0 | mrcP15c6c7o1 | mrcP15c9c0o0 | mrcP15c9c0o1 | mrcP15c15c0o0 =>
    exact cp15Read_confined h ..
  case mcrP15c1c0o0 | mcrP15c2c0o0 | mcrP15c2c0o1 | mcrP15c3c0o0 | mcrP15c5c0o0 | mcrP15c5c0o1 | mcrP15c6c0o0 |
      mcrP15c6c0o1 | mcrP15c6c1o0 | mcrP15c6c1o1 | mcrP15c6c2o0 | mcrP15c6c2o1 | mcrP15c6c3o0 | mcrP15c6c3o1 |
      mcrP15c6c4o0 | mcrP15c6c4o1 | mcrP15c6c5o0 | mcrP15c6c5o1 | mcrP15c6c6o0 | mcrP15c6c6o1 | mcrP15c6c7o0 |
      mcrP15c6c7o1 | mcrP15c9c0o0 | mcrP15c9c0o1 | mcrP15c15c0o0 =>
    exact cp15Write_confined h ..
  case mcrP15c7c5o0 | mcrP15c7c5o2 | mcrP15c7c6o0 | mcrP15c7c6o2 | mcrP15c7c10o2 | mcrP15c7c13o1 | mcrP15c7c14o2
      | mcrP15c7c0o4 | mcrP15c15c8o2 | mcrP15c7c10o4 =>
    exact cp15Op_confined h ..
  case mcrP15c7c8o2 | mcrP15c7c5o1 =>
    exact cp15None_confined h _
  case mrcP14c0c0o0 =>
    exact execMrcP14c0c0o0_confined h ..
  case mcrP14c1c0o0 =>
    exact execMcrP14c1c0o0_confined h ..
  case mrcP14c1c0o0 =>
    exact execMrcP14c1c0o0_confined h ..
  case tLslImm | tLsrImm | tAsrImm | tAddReg | tSubReg | tAddImm3 | tSubImm3 | tMovImm | tAddImm8 | tSubImm8 |
      tNeg | tAnd | tEor | tAdc | tSbc | tOrr | tBic | tMvn | tLslReg | tLsrReg | tAsrReg | tRorReg =>
    exact thumbWrite_confined h ..
  case tCmpImm | tTst | tCmpReg | tCmn =>
    exact thumbCompare_confined h ..
  case tMul =>
    exact execTMul_confined h ..
  case tAddHi | tAddLoHi =>
    exact highAdd_confined h ..
  case tCmpHi | tCmpLoHi =>
    exact highCompare_confined h ..
  case tMovHi | tMovLoHi =>
    exact highWrite_confined h.toInUser ..
  case tBx =>
    exact execTBx_confined h ..
  case tLdrPc | tLdrReg | tLdrImm | tLdrSp => exact thumbLoad_confined h .word ..
  case tLdrbReg | tLdrbImm => exact thumbLoad_confined h .byte ..
  case tLdrhReg | tLdrhImm => exact thumbLoad_confined h .half ..
  case tLdsbReg => exact thumbLoad_confined h .signedByte ..
  case tLdshReg => exact thumbLoad_confined h .signedHalf ..
  case tStrReg | tStrImm | tStrSp => exact thumbStore_confined h .word ..
  case tStrbReg | tStrbImm => exact thumbStore_confined h .byte ..
  case tStrhReg | tStrhImm => exact thumbStore_confined h .half ..
  case tAddPc | tAddSp =>
    exact finish_setReg_confined h.toInUser (lowReg_ne_pc _) _
  case tAddSpImm | tSubSpImm | tBlFirst =>
    exact finish_setReg_confined h.toInUser (by decide) _
  case tPush =>
    exact execTPush_confined h ..
  case tPop =>
    exact execTPop_confined h ..
  case tUndB1 | tUndB2 | tUndB6 | tUndB8 | tUndBE | tUndCond | tSwi | tUndE8 =>
    exact raise_confined h (by decide)
  case tStmia =>
    exact execTStmia_confined h ..
  case tLdmia =>
    exact execTLdmia_confined h ..
  case tBeq | tBne | tBcs | tBcc | tBmi | tBpl | tBvs | tBvc | tBhi | tBls | tBge | tBlt | tBgt | tBle =>
    exact thumbCondBranch_confined h ..
  case tB =>
    exact branchTo_confined h.toInUser _
  case tBlSecond =>
    exact execTBlSecond_confined h ..

/-- The entry of an exception is all that happens where no debugger takes part. -/
theorem takeException_entry {e : Exc} {s : State} (h : s.undebugged = true) :
    takeException e s = exceptionEntry e s := by
  rw [takeException, catchEntry_undebugged]
  simpa [State.undebugged] using h

/-- None of them sets F (R530). -/
theorem userExceptions_keep_F {e : Exc} (h : e ∈ userExceptions) : ¬ (e = .reset ∨ e = .fiq) := by
  revert e
  decide

/-- Settles O46: the instruction ends in User mode, or with the entry of an exception from a state of User mode. -/
theorem userModeIsConfined : Obligations.UserModeIsConfined := by
  intro i s t hm hu run
  cases (exec_confined (.refl hm hu) i).next t run with
  | goesOn h =>
    exact ⟨h.cp15, h.icache, h.waiting, .inl ⟨h.mode, h.interrupts, h.spsrFiq, h.spsrIrq, h.spsrSvc, h.spsrAbt,
      h.spsrUnd, h.banked⟩⟩
  | @raises u e he h =>
    rw [takeException_entry h.undebugged]
    refine ⟨(exceptionEntry_cp15 e u).trans h.cp15, (exceptionEntry_icache e u).trans h.icache,
      (exceptionEntry_waiting e u).trans h.waiting, .inr ⟨e, he, exceptionEntry_mode e u, ?_, ?_, ?_, ?_, ?_⟩⟩
    · rw [exceptionEntry_pc, h.cp15]
    · rw [exceptionEntry_cpsr, entryStatus_control _ (userExceptions_keep_F he), h.cpsr]
    · rw [exceptionEntry_spsrOf_same, h.cpsr]
    · exact fun m hm => (exceptionEntry_spsrOf_other u hm).trans (h.spsrOf m)
    · exact fun k hk other => (exceptionEntry_regs_other u other).trans (h.banked k hk)

end Sys2Proof.Machine
end

section
/-!
PROOFS. The six multiplies: their products and sums on the numbers that the words stand for, and the state that each
leaves, with the flags as they were and with S = 1.
-/

namespace Sys2Proof.Machine

/-! Products and sums on numbers (R300 to R305). -/

theorem word_mul_eq_ofNat (a b : Word) : a * b = BitVec.ofNat 32 (a.toNat * b.toNat) := by
  rw [BitVec.ofNat_mul, BitVec.ofNat_toNat, BitVec.ofNat_toNat, BitVec.setWidth_eq, BitVec.setWidth_eq]

theorem word_mul_add_eq_ofNat (a b c : Word) : a * b + c = BitVec.ofNat 32 (a.toNat * b.toNat + c.toNat) := by
  rw [BitVec.ofNat_add, ← word_mul_eq_ofNat, BitVec.ofNat_toNat, BitVec.setWidth_eq]

/-- The pair of registers that a long multiply accumulates to, as one number. -/
theorem append_words_eq_ofNat (hi lo : Word) :
    (hi ++ lo : BitVec 64) = BitVec.ofNat 64 (hi.toNat * 2 ^ 32 + lo.toNat) := by
  apply BitVec.eq_of_toNat_eq
  have high : hi.toNat < 2 ^ 32 := hi.isLt
  have low : lo.toNat < 2 ^ 32 := lo.isLt
  rw [BitVec.toNat_append, ← Nat.shiftLeft_add_eq_or_of_lt low, Nat.shiftLeft_eq, BitVec.toNat_ofNat,
    Nat.mod_eq_of_lt (by omega)]

/-- The forms that do not accumulate write the product (R302, R304). -/
theorem State.longValue_product (s : State) (signed : Bool) (rdHi rdLo rs rm : BitVec 4) :
    s.longValue signed false rdHi rdLo rs rm = longProduct signed (s.reg rm) (s.reg rs) :=
  BitVec.add_zero _

/-- The accumulating forms add the old RdHi and RdLo (R303, R305). -/
theorem State.longValue_sum (s : State) (signed : Bool) (rdHi rdLo rs rm : BitVec 4) :
    s.longValue signed true rdHi rdLo rs rm =
      longProduct signed (s.reg rm) (s.reg rs) +
        BitVec.ofNat 64 ((s.reg rdHi).toNat * 2 ^ 32 + (s.reg rdLo).toNat) := by
  rw [State.longValue, if_pos rfl, append_words_eq_ofNat]

/-! Operands that are not refused (R306). -/

theorem longRefusal_eq_none {rdHi rdLo rs rm : BitVec 4} (hh : rdHi ≠ 15#4) (hl : rdLo ≠ 15#4) (hs : rs ≠ 15#4)
    (hm : rm ≠ 15#4) (hhl : rdHi ≠ rdLo) (hhm : rdHi ≠ rm) (hlm : rdLo ≠ rm) :
    longRefusal rdHi rdLo rs rm = none := by
  rw [longRefusal, if_neg (by simp [hh, hl, hs, hm]), if_neg (by simp [hhl, hhm, hlm])]

/-! The states that the multiplies leave. -/

section
variable {cond : BitVec 4} {s : State} (hc : s.passes cond = true) (hr : s.room = true)

section
include hr

/-- Without S only Rd is written. -/
theorem multiplyWrite_keepsFlags (rd : BitVec 4) (r : Word) :
    multiplyWrite 0#1 rd r s = .next (s.wrote 0#1 rd r false false) := by
  rw [multiplyWrite, if_neg (by decide), finish_setReg rd r hr, State.wrote, if_neg (by decide)]

/-- With S one free value is used, for C; V stays (R306). -/
theorem multiplyWrite_setsFlags (rd : BitVec 4) (r : Word) :
    multiplyWrite 1#1 rd r s =
      .next { s.wrote 1#1 rd r (s.draw.1.getLsbD 0) s.flagV with draws := s.draws + 1 } :=
  finish_of_same hr rfl rfl (by simp [State.multiplyFlags])

end

section
include hc

theorem execMul_writes {rd rs rm : BitVec 4} (sf : BitVec 1) (hd : rd ≠ 15#4) (hs : rs ≠ 15#4) (hm : rm ≠ 15#4)
    (hdm : rd ≠ rm) :
    execMul cond sf rd 0#4 rs rm s =
      multiplyWrite sf rd (BitVec.ofNat 32 ((s.reg rm).toNat * (s.reg rs).toNat)) s := by
  rw [execMul, ifPassed_passes hc, if_neg (by decide), if_neg (by simp [hd, hs, hm]), if_neg hdm, word_mul_eq_ofNat]

theorem execMla_writes {rd rn rs rm : BitVec 4} (sf : BitVec 1) (hd : rd ≠ 15#4) (hn : rn ≠ 15#4) (hs : rs ≠ 15#4)
    (hm : rm ≠ 15#4) (hdm : rd ≠ rm) :
    execMla cond sf rd rn rs rm s =
      multiplyWrite sf rd (BitVec.ofNat 32 ((s.reg rm).toNat * (s.reg rs).toNat + (s.reg rn).toNat)) s := by
  rw [execMla, ifPassed_passes hc, if_neg (by simp [hd, hn, hs, hm]), if_neg hdm, word_mul_add_eq_ofNat]

end

section
variable {rdHi rdLo rs rm : BitVec 4} (hl : longRefusal rdHi rdLo rs rm = none) {signed accumulate : Bool}
  {p : BitVec 64} (hp : s.longValue signed accumulate rdHi rdLo rs rm = p)
include hc hr hl hp

/-- Without S only RdLo and RdHi are written. -/
theorem longMultiply_keepsFlags :
    longMultiply signed accumulate cond 0#1 rdHi rdLo rs rm s =
      .next { (s.setReg rdLo (p.extractLsb' 0 32)).setReg rdHi (p.extractLsb' 32 32) with pc := s.pc + s.ilen } := by
  subst hp
  rw [longMultiply, ifPassed_passes hc, hl]
  exact finish_of_same hr rfl rfl rfl

/-- With S one free value is used, for C and V (R306). -/
theorem longMultiply_setsFlags :
    longMultiply signed accumulate cond 1#1 rdHi rdLo rs rm s =
      .next { (((s.setFlags (p.getLsbD 63) (p == 0#64) (s.draw.1.getLsbD 0) (s.draw.1.getLsbD 1)).setReg rdLo
          (p.extractLsb' 0 32)).setReg rdHi (p.extractLsb' 32 32)) with
        pc := s.pc + s.ilen
        draws := s.draws + 1 } := by
  subst hp
  rw [longMultiply, ifPassed_passes hc, hl]
  exact finish_of_same hr rfl rfl (by simp [State.longFlags])

end

end

/-- Settles O8: the short multiplies by what `multiplyWrite` leaves, the long ones by the value of each. -/
theorem multiplies : Obligations.Multiplies := by
  constructor
  · intro cond rd rn rs rm s hc hd hs hm hdm hr p q
    have mul (sf : BitVec 1) : exec (.mul cond sf rd 0#4 rs rm) s = multiplyWrite sf rd p s :=
      execMul_writes hc sf hd hs hm hdm
    have mla (hn : rn ≠ 15#4) (sf : BitVec 1) : exec (.mla cond sf rd rn rs rm) s = multiplyWrite sf rd q s :=
      execMla_writes hc sf hd hn hs hm hdm
    exact ⟨(mul 0#1).trans (multiplyWrite_keepsFlags hr rd p), ⟨_, (mul 1#1).trans (multiplyWrite_setsFlags hr rd p)⟩,
      fun hn => (mla hn 0#1).trans (multiplyWrite_keepsFlags hr rd q),
      fun hn => ⟨_, (mla hn 1#1).trans (multiplyWrite_setsFlags hr rd q)⟩⟩
  · intro cond rdHi rdLo rs rm s hc hhi hlo hs hm hhl hhm hlm hr acc u i
    have hl : longRefusal rdHi rdLo rs rm = none := longRefusal_eq_none hhi hlo hs hm hhl hhm hlm
    have umull : s.longValue false false rdHi rdLo rs rm = BitVec.ofNat 64 u := s.longValue_product ..
    have umlal : s.longValue false true rdHi rdLo rs rm = BitVec.ofNat 64 (u + acc) :=
      (s.longValue_sum ..).trans (BitVec.ofNat_add u acc).symm
    have smull : s.longValue true false rdHi rdLo rs rm = BitVec.ofInt 64 i := s.longValue_product ..
    have smlal : s.longValue true true rdHi rdLo rs rm = BitVec.ofInt 64 (i + acc) := by
      rw [State.longValue_sum, BitVec.ofInt_add, BitVec.ofInt_natCast]
      rfl
    simp only [List.forall_mem_cons, List.not_mem_nil, false_implies, implies_true, and_true]
    exact ⟨⟨longMultiply_keepsFlags hc hr hl umull, _, _, longMultiply_setsFlags hc hr hl umull⟩,
      ⟨longMultiply_keepsFlags hc hr hl umlal, _, _, longMultiply_setsFlags hc hr hl umlal⟩,
      ⟨longMultiply_keepsFlags hc hr hl smull, _, _, longMultiply_setsFlags hc hr hl smull⟩,
      ⟨longMultiply_keepsFlags hc hr hl smlal, _, _, longMultiply_setsFlags hc hr hl smlal⟩⟩

end Sys2Proof.Machine
end

section
/-!
PROOFS. The swaps of a machine at rest: the read at the address of the transfer, the write to the same lanes, and the
register that takes the old item.
-/

namespace Sys2Proof.Machine

/-! The item and its register value (R107). -/

theorem memWord_transferAddr (m : Memory) (sz : Size) (a : Word) : memWord m (transferAddr sz a) = memWord m a := by
  cases sz with
  | byte => rfl
  | half => rfl
  | word => exact memWord_wordAddr m a

theorem rotateLoaded_eq (w a : Word) : rotateLoaded w a = w.rotateRight (8 * (a.toNat % 4)) := by
  rw [rotateLoaded, BitVec.extractLsb'_toNat, Nat.shiftRight_zero]

/-- With everything off, a swap takes the item at `a` and leaves what a store there leaves. -/
theorem swapAccess_transferAddr {s : State} (sz : Size) (a v : Word) (h : s.direct = true) :
    swapAccess (transferAddr sz a) sz v s = .done (s.memItem sz a) { s with mem := s.memStored sz a v } := by
  rw [swapAccess_direct _ sz v h, memWord_transferAddr]
  rfl

/-- A swap that is not refused: both registers are those of the state it began in, so that Rd = Rm needs no case of
its own (R334). -/
theorem swapOp_exchanges {sz : Size} {k : LoadKind} {cond rn rd rm : BitVec 4} {s : State}
    (hc : s.passes cond = true) (hs : s.direct = true) (hr : s.room = true) (hn : rn ≠ 15#4) (hd : rd ≠ 15#4)
    (hm : rm ≠ 15#4) (hnd : rn ≠ rd) (hnm : rn ≠ rm) :
    swapOp sz k cond rn rd 0#4 rm s =
      .next { s.setReg rd (k.value (s.memItem sz (s.reg rn)) (s.reg rn)) with
        mem := s.memStored sz (s.reg rn) (s.reg rm)
        pc := s.pc + s.ilen } := by
  rw [swapOp, ifPassed_passes hc, if_neg (by decide), if_neg (by simp [hn, hd, hm]), if_neg (by simp [hnd, hnm]),
    swapAccess_transferAddr sz _ _ hs]
  exact finish_of_same hr rfl rfl rfl

/-- Settles O14: both are `swapOp`, and the old word goes to Rd rotated by the low bits of its address. -/
theorem swapExchanges : Obligations.SwapExchanges := by
  intro cond rn rd rm s hc hs hr hn hd hm hnd hnm a
  have old : LoadKind.word.value (s.memItem .word a) a = (memWord s.mem a).rotateRight (8 * (a.toNat % 4)) :=
    rotateLoaded_eq ..
  constructor
  · rw [← old]
    exact swapOp_exchanges hc hs hr hn hd hm hnd hnm
  · exact swapOp_exchanges (k := .byte) hc hs hr hn hd hm hnd hnm

end Sys2Proof.Machine
end

section
/-!
PROOFS. Block transfers and coprocessor transfers stopped by an access that is turned away: what the accesses before it
have transferred, and that the Data Abort is taken there.
-/

namespace Sys2Proof.Machine

/-! Nonbufferable accesses with the DCache off. -/

/-- No debugger, the DCache off and nothing in the write buffer: a nonbufferable access is one external transfer. -/
def State.unbuffered (s : State) : Prop := s.undebugged = true ∧ s.cp15.c = false ∧ s.wbuf = []

theorem lanesPut_word (big : Bool) (a v : Word) : lanesPut big .word a v = v := BitVec.shiftLeft_zero v

section
variable {s : State} {a : Word} (hs : s.unbuffered)
include hs

theorem loadWord_unbuffered (cd : Bool) :
    loadWord a (cd && s.cp15.c && s.cp15.p) s =
      if extAbort s.busErrors .read a then .abort s else .done (memWord s.mem a) s := by
  obtain ⟨-, hc, hw⟩ := hs
  rw [hc, Bool.and_false, Bool.false_and, loadWord_external (.inl hc), drainWriteBuffer_empty hw]

theorem load_letsOut (h : s.letsOut a false) : load a .word s.privileged s = .done (memWord s.mem a) s := by
  obtain ⟨cd, pass, quiet⟩ := h
  exact load_done hs.1 pass ((loadWord_unbuffered hs cd).trans (if_neg (ne_true_of_eq_false quiet)))

theorem load_turnsAway (h : s.turnsAway a false) : load a .word s.privileged s = .abort s := by
  rcases h with refused | ⟨cd, pass, error⟩
  · exact load_turnedAway hs.1 (.inl refused)
  · exact load_abort hs.1 pass ((loadWord_unbuffered hs cd).trans (if_pos error))

theorem store_unbuffered {cd : Bool} (v : Word) (join : Bool)
    (pass : checkAccess s.cp15 .data a true s.privileged = .pass cd false) :
    store a .word v s.privileged join s =
      if extAbort s.busErrors .write a then .abort s else .done () { s with mem := memWrite s.mem a 15#4 v } := by
  obtain ⟨hu, hc, hw⟩ := hs
  rw [store_pass hu v join pass, storeWord_absent (.inl hc), hc, Bool.and_false, Bool.false_and, Bool.or_self,
    if_neg Bool.false_ne_true, storeExternal_eq, drainWriteBuffer_empty hw, lanesPut_word]
  rfl

theorem store_letsOut (v : Word) (join : Bool) (h : s.letsOut a true) :
    store a .word v s.privileged join s = .done () { s with mem := memWrite s.mem a 15#4 v } := by
  obtain ⟨cd, pass, quiet⟩ := h
  exact (store_unbuffered hs v join pass).trans (if_neg (ne_true_of_eq_false quiet))

theorem store_turnsAway (v : Word) (join : Bool) (h : s.turnsAway a true) :
    store a .word v s.privileged join s = .abort s := by
  rcases h with refused | ⟨cd, pass, error⟩
  · exact store_turnedAway hs.1 join (.inl refused)
  · exact (store_unbuffered hs v join pass).trans (if_pos error)

end

/-! The places of a transfer: the numbers below a bound that are picked, and the address of each. -/

/-- The numbers below `n` that `P` picks, ascending: the registers of a list, or every word of a transfer. -/
def picked (P : Nat → Bool) (n : Nat) : List Nat := (List.range n).filter P

/-- The address of place `n` of a transfer whose first address is `start`: the picked places below it come before. -/
def pickedAddr (P : Nat → Bool) (start : Word) (n : Nat) : Word := start + BitVec.ofNat 32 (4 * (List.range n).countP P)

/-- Register `j` of the list comes before register `i` (R350). -/
abbrev ComesBefore (list : BitVec 16) (i j : BitVec 4) : Prop := j.toNat < i.toNat ∧ list.getLsbD j.toNat = true

/-- Register `i` of a block transfer is the first whose access is not let out. -/
def State.stopsAt (s : State) (list : BitVec 16) (start : Word) (write : Bool) (i : BitVec 4) : Prop :=
  list.getLsbD i.toNat = true ∧ s.turnsAway (wordAddr (slotAddr start list i.toNat)) write ∧
    ∀ j, ComesBefore list i j → s.letsOut (wordAddr (slotAddr start list j.toNat)) write

theorem State.stopsAt.list_ne_zero {s : State} {list : BitVec 16} {start : Word} {write : Bool} {i : BitVec 4}
    (h : s.stopsAt list start write i) : list ≠ 0#16 := by
  rintro rfl
  exact absurd h.1 (by simp)

theorem toNat_ofNat_register {n : Nat} (h : n ≤ 15) : (BitVec.ofNat 4 n).toNat = n := by
  rw [BitVec.toNat_ofNat, Nat.mod_eq_of_lt (by omega)]

theorem comesBefore_ofNat {list : BitVec 16} {i : BitVec 4} {n : Nat} (hn : n < i.toNat)
    (listed : list.getLsbD n = true) :
    (BitVec.ofNat 4 n).toNat = n ∧ ComesBefore list i (BitVec.ofNat 4 n) := by
  have place := toNat_ofNat_register (Nat.le_of_lt_succ (hn.trans i.isLt))
  rw [ComesBefore, place]
  exact ⟨rfl, hn, listed⟩

theorem State.stopsAt.before {s : State} {list : BitVec 16} {start : Word} {write : Bool} {i : BitVec 4}
    (h : s.stopsAt list start write i) {n : Nat} (hn : n < i.toNat) (listed : list.getLsbD n = true) :
    s.letsOut (wordAddr (slotAddr start list n)) write := by
  obtain ⟨place, comesBefore⟩ := comesBefore_ofNat hn listed
  have ⟨_, _, out⟩ := h
  have letOut := out _ comesBefore
  rwa [place] at letOut

theorem regsOf_eq_picked (list : BitVec 16) : regsOf list = (picked list.getLsbD 16).map (BitVec.ofNat 4) := rfl

theorem slotAddr_eq_pickedAddr (start : Word) (list : BitVec 16) (n : Nat) :
    slotAddr start list n = pickedAddr list.getLsbD start n := rfl

theorem picked_all (n : Nat) : picked (fun _ => true) n = List.range n := List.filter_true _

theorem pickedAddr_all (start : Word) (n : Nat) :
    pickedAddr (fun _ => true) start n = start + BitVec.ofNat 32 (4 * n) := by
  simp [pickedAddr]

section
variable {P : Nat → Bool} {n : Nat}

theorem picked_succ_pos (h : P n = true) : picked P (n + 1) = picked P n ++ [n] := by
  simp [picked, List.range_succ, h]

theorem picked_succ_neg (h : P n = false) : picked P (n + 1) = picked P n := by
  simp [picked, List.range_succ, h]

theorem pickedAddr_succ_pos (start : Word) (h : P n = true) :
    pickedAddr P start (n + 1) = pickedAddr P start n + 4#32 := by
  simp only [pickedAddr, List.range_succ, List.countP_append, List.countP_singleton, h, if_true, Nat.mul_add,
    BitVec.ofNat_add, BitVec.add_assoc]

theorem pickedAddr_succ_neg (start : Word) (h : P n = false) : pickedAddr P start (n + 1) = pickedAddr P start n := by
  simp [pickedAddr, List.range_succ, h]

/-- A picked place, with those below it before it. -/
theorem picked_split {N : Nat} (hP : P n = true) (hN : n < N) : ∃ rest, picked P N = picked P n ++ n :: rest := by
  induction N with
  | zero => exact absurd hN (Nat.not_lt_zero n)
  | succ N ih =>
    rcases Nat.lt_succ_iff_lt_or_eq.mp hN with below | rfl
    · obtain ⟨rest, e⟩ := ih below
      cases hPN : P N with
      | false => exact ⟨rest, (picked_succ_neg hPN).trans e⟩
      | true => exact ⟨rest ++ [N], by rw [picked_succ_pos hPN, e, List.append_assoc, List.cons_append]⟩
    · exact ⟨[], picked_succ_pos hP⟩

/-- Two of sixteen places have different words. -/
theorem pickedAddr_apart {j : Nat} (start : Word) (hj : P j = true) (hlt : j < n) (hn : n ≤ 16) :
    wordAddr (pickedAddr P start j) ≠ wordAddr (pickedAddr P start n) := by
  have before : (List.range j).countP P + 1 ≤ (List.range n).countP P := by
    have upTo : (List.range (j + 1)).countP P = (List.range j).countP P + 1 := by simp [List.range_succ, hj]
    rw [← upTo]
    exact (List.range_sublist.mpr hlt).countP_le
  have few : (List.range n).countP P ≤ n := List.countP_le_length.trans_eq List.length_range
  intro e
  have := congrArg BitVec.toNat e
  simp only [wordAddr_toNat, pickedAddr, BitVec.toNat_add, BitVec.toNat_ofNat] at this
  omega

end

/-! Block loads. -/

/-- The register file once the listed registers below `n` have been loaded, but for those that are held back. -/
def loadedRegs (s : State) (m : BitVec 5) (hold : BitVec 4 → Bool) (list : BitVec 16) (start : Word) : Nat → RegFile
  | 0 => s.regs
  | n + 1 =>
    if list.getLsbD n && !hold (BitVec.ofNat 4 n) then
      (loadedRegs s m hold list start n).set (regIndex m (BitVec.ofNat 4 n)) (memWord s.mem (slotAddr start list n))
    else loadedRegs s m hold list start n

section
variable {s : State} {m : BitVec 5} {hold : BitVec 4 → Bool} {list : BitVec 16} {start : Word} {n : Nat}

theorem ne_pc_of_lt {i : BitVec 4} (h : i.toNat < 15) : i ≠ 15#4 := by
  rintro rfl
  exact absurd h (by decide)

theorem ofNat_ne_pc (h : n < 15) : BitVec.ofNat 4 n ≠ 15#4 := ne_pc_of_lt (by rwa [toNat_ofNat_register (by omega)])

theorem loadedRegs_other {k : Fin 30} (hn : n ≤ 15)
    (h : ∀ j : BitVec 4, j.toNat < n → list.getLsbD j.toNat = true → hold j = false → regIndex m j ≠ k) :
    (loadedRegs s m hold list start n)[k] = s.regs[k] := by
  induction n with
  | zero => rfl
  | succ n ih =>
    have before := ih (by omega) fun j hj => h j (by omega)
    rw [loadedRegs]
    split_ifs with taken
    · simp only [Bool.and_eq_true, Bool.not_eq_true'] at taken
      have place := toNat_ofNat_register (show n ≤ 15 by omega)
      have apart := h (BitVec.ofNat 4 n) (by omega) (place.symm ▸ taken.1) taken.2
      exact (Vector.getElem_set_ne _ _ fun e => apart (Fin.ext e)).trans before
    · exact before

theorem loadedRegs_at {j : BitVec 4} (hn : n ≤ 15) (hj : j.toNat < n) (listed : list.getLsbD j.toNat = true)
    (free : hold j = false) :
    (loadedRegs s m hold list start n)[regIndex m j] = memWord s.mem (slotAddr start list j.toNat) := by
  induction n with
  | zero => exact absurd hj (Nat.not_lt_zero _)
  | succ n ih =>
    rw [loadedRegs]
    rcases Nat.lt_succ_iff_lt_or_eq.mp hj with below | rfl
    · have before := ih (by omega) below
      have hjn : BitVec.ofNat 4 n ≠ j := by
        rintro rfl
        rw [toNat_ofNat_register (by omega)] at below
        exact Nat.lt_irrefl n below
      have apart : regIndex m (BitVec.ofNat 4 n) ≠ regIndex m j :=
        fun e => hjn ((regIndex_inj m _ j (ofNat_ne_pc (by omega)) (ne_pc_of_lt (by omega))).mp e)
      split_ifs
      · exact (Vector.getElem_set_ne _ _ fun e => apart (Fin.ext e)).trans before
      · exact before
    · simp [listed, free]

/-- An access that is let out loads its register, unless it is held back. -/
theorem loadMany_cons_letsOut (hs : s.unbuffered) {i : BitVec 4} {a : Word} (hi : i ≠ 15#4)
    (out : s.letsOut (wordAddr a) false) (held : Held) :
    ∃ held', ∀ rest,
      loadMany m hold (i :: rest) a held s =
        loadMany m hold rest (a + 4#32) held' (if hold i then s else s.bankSet m i (memWord s.mem a)) := by
  have word := (load_letsOut hs out).trans (congrArg (Access.done · s) (memWord_wordAddr ..))
  cases kept : hold i with
  | true =>
    refine ⟨{ held with base := some (memWord s.mem a) }, fun rest => ?_⟩
    simp only [loadMany, word, if_neg hi, kept, if_true]
  | false =>
    refine ⟨held, fun rest => ?_⟩
    simp only [loadMany, word, if_neg hi, kept, Bool.false_eq_true, if_false]

/-- Accesses that are let out load their registers, and the rest of the list comes next. -/
theorem loadMany_letOut (hs : s.unbuffered) (hn : n ≤ 15)
    (out : ∀ j < n, list.getLsbD j = true → s.letsOut (wordAddr (slotAddr start list j)) false) (held : Held) :
    ∃ held', ∀ rest,
      loadMany m hold ((picked list.getLsbD n).map (BitVec.ofNat 4) ++ rest) start held s =
        loadMany m hold rest (slotAddr start list n) held' { s with regs := loadedRegs s m hold list start n } := by
  induction n with
  | zero => exact ⟨held, fun rest => congrArg (loadMany m hold rest · held s) (BitVec.add_zero start).symm⟩
  | succ n ih =>
    obtain ⟨before, run⟩ := ih (by omega) fun j hj => out j (by omega)
    simp only [slotAddr_eq_pickedAddr] at run ⊢
    cases listed : list.getLsbD n with
    | false =>
      refine ⟨before, fun rest => ?_⟩
      rw [picked_succ_neg listed, run, pickedAddr_succ_neg start listed, loadedRegs, listed]
      rfl
    | true =>
      let t := { s with regs := loadedRegs s m hold list start n }
      obtain ⟨after, step⟩ := loadMany_cons_letsOut (s := t) (m := m) (hold := hold) hs
        (ofNat_ne_pc (show n < 15 by omega)) (out n (by omega) listed) before
      refine ⟨after, fun rest => ?_⟩
      rw [picked_succ_pos listed, List.map_append, List.append_assoc, run, pickedAddr_succ_pos start listed]
      refine (step rest).trans (congrArg _ ?_)
      rw [loadedRegs, listed]
      cases hold (BitVec.ofNat 4 n) <;> rfl

/-- A block load whose access for register `i` is turned away. -/
theorem loadMany_stops (hs : s.unbuffered) {i : BitVec 4} (h : s.stopsAt list start false i) (held : Held) :
    loadMany m hold (regsOf list) start held s = .abort { s with regs := loadedRegs s m hold list start i.toNat } := by
  have ⟨listed, away, _⟩ := h
  obtain ⟨rest, split⟩ := picked_split listed i.isLt
  obtain ⟨held', run⟩ := loadMany_letOut (m := m) (hold := hold) hs (Nat.le_of_lt_succ i.isLt) (fun _ => h.before) held
  rw [regsOf_eq_picked, split, List.map_append, run, List.map_cons, loadMany,
    load_turnsAway (s := { s with regs := loadedRegs s m hold list start i.toNat }) hs away]

end

/-! Block stores. -/

/-- Memory once the picked words below `n` have been stored. -/
def storedMem (mem : Memory) (P : Nat → Bool) (word : Nat → Word) (start : Word) : Nat → Memory
  | 0 => mem
  | n + 1 =>
    if P n then memWrite (storedMem mem P word start n) (wordAddr (pickedAddr P start n)) 15#4 (word n)
    else storedMem mem P word start n

section
variable {mem : Memory} {P : Nat → Bool} {word : Nat → Word} {start : Word} {n : Nat} (hm : mem.wf = true)
include hm

theorem storedMem_wf : (storedMem mem P word start n).wf = true := by
  induction n with
  | zero => exact hm
  | succ n ih =>
    rw [storedMem]
    split_ifs
    · exact memWrite_wf _ _ _ ih
    · exact ih

theorem storedMem_other {a : Word} (h : ∀ j < n, P j = true → wordAddr (pickedAddr P start j) ≠ wordAddr a) :
    memWord (storedMem mem P word start n) a = memWord mem a := by
  induction n with
  | zero => rfl
  | succ n ih =>
    have before := ih fun j hj => h j (by omega)
    rw [storedMem]
    split_ifs with taken
    · have apart := h n (Nat.lt_succ_self n) taken
      rw [← wordAddr_idem] at apart
      exact (memWord_memWrite_other _ _ _ _ (storedMem_wf hm) apart.symm).trans before
    · exact before

theorem storedMem_at {j : Nat} (hn : n ≤ 16) (hj : j < n) (hP : P j = true) :
    memWord (storedMem mem P word start n) (pickedAddr P start j) = word j := by
  induction n with
  | zero => exact absurd hj (Nat.not_lt_zero _)
  | succ n ih =>
    rw [storedMem]
    rcases Nat.lt_succ_iff_lt_or_eq.mp hj with below | rfl
    · have before := ih (by omega) below
      split_ifs
      · have apart := pickedAddr_apart start hP below (by omega)
        rw [← wordAddr_idem (pickedAddr P start n)] at apart
        exact (memWord_memWrite_other _ _ _ _ (storedMem_wf hm) apart).trans before
      · exact before
    · rw [if_pos hP, ← memWord_wordAddr, memWrite_word_same _ _ (storedMem_wf hm)]

end

section
variable {s : State} {P : Nat → Bool} {word : Nat → Word} {start : Word} {n : Nat} (hs : s.unbuffered)
include hs

/-- Accesses that are let out store their words, and the rest of the words come next. -/
theorem storeMany_letOut (out : ∀ j < n, P j = true → s.letsOut (wordAddr (pickedAddr P start j)) true) (join : Bool) :
    ∃ join', ∀ rest,
      storeMany ((picked P n).map word ++ rest) start join s =
        storeMany rest (pickedAddr P start n) join' { s with mem := storedMem s.mem P word start n } := by
  induction n with
  | zero => exact ⟨join, fun rest => congrArg (storeMany rest · join s) (BitVec.add_zero start).symm⟩
  | succ n ih =>
    obtain ⟨before, run⟩ := ih fun j hj => out j (by omega)
    cases taken : P n with
    | false =>
      refine ⟨before, fun rest => ?_⟩
      rw [picked_succ_neg taken, run, pickedAddr_succ_neg start taken, storedMem, taken, if_neg Bool.false_ne_true]
    | true =>
      refine ⟨true, fun rest => ?_⟩
      let t := { s with mem := storedMem s.mem P word start n }
      rw [picked_succ_pos taken, List.map_append, List.append_assoc, run, pickedAddr_succ_pos start taken,
        List.map_singleton, List.singleton_append, storeMany,
        store_letsOut (s := t) hs _ _ (out n (by omega) taken), storedMem, if_pos taken]

/-- A block store whose access for place `n` of `N` is turned away. -/
theorem storeMany_stops {N : Nat} (hN : n < N) (hP : P n = true)
    (away : s.turnsAway (wordAddr (pickedAddr P start n)) true)
    (out : ∀ j < n, P j = true → s.letsOut (wordAddr (pickedAddr P start j)) true) (join : Bool) :
    storeMany ((picked P N).map word) start join s = .abort { s with mem := storedMem s.mem P word start n } := by
  obtain ⟨rest, split⟩ := picked_split hP hN
  obtain ⟨join', run⟩ := storeMany_letOut (word := word) hs out join
  rw [split, List.map_append, run, List.map_cons, storeMany,
    store_turnsAway (s := { s with mem := storedMem s.mem P word start n }) hs _ _ away]

end

/-- At the address of a word, the words of an STC are stored as those of an STM are. -/
theorem cpStoreMany_eq_storeMany (vs : List Word) {a : Word} (ha : wordAddr a = a) (join : Bool) (s : State) :
    cpStoreMany vs a join s = storeMany vs a join s := by
  induction vs generalizing a join s with
  | nil => rfl
  | cons v vs ih =>
    rw [cpStoreMany, storeMany, ha]
    cases store a .word v s.privileged join s with
    | done u t => exact ih (wordAddr_ahead ha 1) true t
    | abort t => rfl
    | fault e => rfl

/-! The words that a coprocessor takes. -/

/-- The state of a coprocessor once it has taken the first `n` words of a transfer from `a` (R382). -/
def State.cpTaken (s : State) (cp : BitVec 4) (w a : Word) (n : Nat) : Nat :=
  (List.range n).foldl
    (fun st k => Config.cpLoadWord cp.toNat w k (memWord s.mem (a + BitVec.ofNat 32 (4 * k))) st) (s.cpStateOf cp)

theorem State.cpTaken_succ (s : State) (cp : BitVec 4) (w a : Word) (n : Nat) :
    s.cpTaken cp w a (n + 1) =
      Config.cpLoadWord cp.toNat w n (memWord s.mem (a + BitVec.ofNat 32 (4 * n))) (s.cpTaken cp w a n) := by
  rw [State.cpTaken, List.range_succ, List.foldl_append]
  rfl

theorem setCpState_setCpState (s : State) (cp : BitVec 4) (v v' : Nat) :
    (s.setCpState cp v).setCpState cp v' = s.setCpState cp v' := by
  simp [State.setCpState]

theorem setCpState_cpStateOf (s : State) (cp : BitVec 4) : s.setCpState cp (s.cpStateOf cp) = s := by
  have same : s.cpState.setIfInBounds cp.toNat (s.cpStateOf cp) = s.cpState := by
    ext i hi
    rw [Vector.getElem_setIfInBounds]
    split_ifs with e
    · subst e
      simp [State.cpStateOf, hi]
    · rfl
  rw [State.setCpState, same]

section
variable {s : State} {cp : BitVec 4} (ha : s.hasCp cp = true)
include ha

theorem hasCp_lt : cp.toNat < 14 := BitVec.lt_of_getLsbD ha

theorem cpStateOf_setCpState (v : Nat) : (s.setCpState cp v).cpStateOf cp = v := by
  simp [State.cpStateOf, State.setCpState, hasCp_lt ha]

variable {w a : Word} {n : Nat} (hs : s.unbuffered)
include hs

/-- Accesses that are let out give the coprocessor their words, and the rest of them come next. -/
theorem cpLoadMany_letOut (out : ∀ k < n, s.letsOut (a + BitVec.ofNat 32 (4 * k)) false) (rest : Nat) :
    cpLoadMany cp w a (n + rest) 0 s = cpLoadMany cp w a rest n (s.setCpState cp (s.cpTaken cp w a n)) := by
  induction n generalizing rest with
  | zero =>
    rw [Nat.zero_add]
    exact congrArg (cpLoadMany cp w a rest 0) (setCpState_cpStateOf s cp).symm
  | succ n ih =>
    rw [Nat.succ_add, ← Nat.add_succ, ih fun k hk => out k (by omega)]
    rw [cpLoadMany, load_letsOut (s := s.setCpState cp (s.cpTaken cp w a n)) hs (out n (by omega))]
    simp only [cpStateOf_setCpState ha, setCpState_setCpState, State.cpTaken_succ]
    rfl

/-- A coprocessor load whose access for word `n` of `N` is turned away. -/
theorem cpLoadMany_stops {N : Nat} (hN : n < N) (away : s.turnsAway (a + BitVec.ofNat 32 (4 * n)) false)
    (out : ∀ k < n, s.letsOut (a + BitVec.ofNat 32 (4 * k)) false) :
    cpLoadMany cp w a N 0 s = .abort (s.setCpState cp (s.cpTaken cp w a n)) := by
  obtain ⟨rest, rfl⟩ := Nat.exists_eq_add_of_lt hN
  rw [Nat.add_assoc, cpLoadMany_letOut ha hs out, cpLoadMany,
    load_turnsAway (s := s.setCpState cp (s.cpTaken cp w a n)) hs away]

end

/-! Block transfers that are stopped. -/

/-- `r` is the Data Abort of a block load from `s` that has loaded the listed registers below `i` of mode `m` that are
`free`, and no other register (R356, log 53). -/
def LoadAborts (s : State) (m : BitVec 5) (free : BitVec 4 → Prop) (list : BitVec 16) (start : Word) (i : BitVec 4)
    (r : Result) : Prop :=
  ∃ regs : RegFile,
    r = .next (State.aborted { s with regs := regs }) ∧
    (∀ j, ComesBefore list i j → free j → regs[regIndex m j] = memWord s.mem (slotAddr start list j.toNat)) ∧
    ∀ k : Fin 30, (∀ j, ComesBefore list i j → free j → regIndex m j ≠ k) → regs[k] = s.regs[k]

/-- `r` is the Data Abort of a block store from `s` that has stored `value` of the listed registers below `i`, and no
other word (R356, log 53). -/
def StoreAborts (s : State) (value : BitVec 4 → Word) (list : BitVec 16) (start : Word) (i : BitVec 4) (r : Result) :
    Prop :=
  ∃ mem : Memory,
    r = .next (State.aborted { s with mem := mem }) ∧
    (∀ j, ComesBefore list i j → memWord mem (slotAddr start list j.toNat) = value j) ∧
    ∀ a, (∀ j, ComesBefore list i j → wordAddr (slotAddr start list j.toNat) ≠ wordAddr a) →
      memWord mem a = memWord s.mem a

section
variable {s : State} (hs : s.unbuffered) {list : BitVec 16} {start : Word} {i : BitVec 4} {r : Result}
include hs

/-- A block load that is not refused; `free` are the registers it does not hold back. -/
theorem loadAborts_of_loadMany {m : BitVec 5} {hold : BitVec 4 → Bool} {held : Held} {f : Held → State → Result}
    {free : BitVec 4 → Prop} (h : s.stopsAt list start false i) (hfree : ∀ j, j ≠ 15#4 → (free j ↔ hold j = false))
    (run : r = afterAccess (loadMany m hold (regsOf list) start held s) f) : LoadAborts s m free list start i r := by
  have below {j : BitVec 4} (hj : j.toNat < i.toNat) : j ≠ 15#4 := ne_pc_of_lt (by omega)
  refine ⟨loadedRegs s m hold list start i.toNat, ?_, fun j hj loads => ?_, fun k other => ?_⟩
  · rw [run, loadMany_stops hs h]
    exact raise_dataAbort hs.1
  · exact loadedRegs_at (by omega) hj.1 hj.2 ((hfree j (below hj.1)).mp loads)
  · exact loadedRegs_other (by omega) fun j hj listed loads => other j ⟨hj, listed⟩ ((hfree j (below hj)).mpr loads)

/-- A block store that is not refused; it stores no R15 before its last register. -/
theorem storeAborts_of_storeMany {word value : BitVec 4 → Word} {join : Bool} {f : Unit → State → Result}
    (hm : s.mem.wf = true) (h : s.stopsAt list start true i) (hvalue : ∀ j, j ≠ 15#4 → word j = value j)
    (run : r = afterAccess (storeMany ((regsOf list).map word) start join s) f) :
    StoreAborts s value list start i r := by
  have ⟨listed, away, _⟩ := h
  refine ⟨storedMem s.mem list.getLsbD (fun n => word (BitVec.ofNat 4 n)) start i.toNat, ?_, fun j hj => ?_,
    fun a other => storedMem_other hm fun n hn listed => ?_⟩
  · have words : (regsOf list).map word = (picked list.getLsbD 16).map fun n => word (BitVec.ofNat 4 n) :=
      List.map_map ..
    rw [run, words, storeMany_stops hs i.isLt listed away fun _ => h.before]
    exact raise_dataAbort hs.1
  · refine (storedMem_at hm i.isLt.le hj.1 hj.2).trans ?_
    rw [BitVec.ofNat_toNat, BitVec.setWidth_eq]
    exact hvalue j (ne_pc_of_lt (by omega))
  · obtain ⟨place, comesBefore⟩ := comesBefore_ofNat hn listed
    have apart := other _ comesBefore
    rwa [place] at apart

end

theorem unlessRefused_none {r : Option Refusal} (h : r = none) (k : Result) : unlessRefused r k = k := by
  subst h
  rfl

theorem userRefusal_none {s : State} (h : s.mode ≠ modeUsr ∧ s.mode ≠ modeSys) : userRefusal 0#1 s = none :=
  if_neg fun bad => bad.elim (by decide) fun mode => mode.elim h.1 h.2

/-- A base that is stored first, where it is written back (R350). -/
theorem storedBaseRefusal_lowest {w : BitVec 1} {rn : BitVec 4} {list : BitVec 16}
    (h : w = 1#1 → list.getLsbD rn.toNat = true → ∀ j, j < rn.toNat → list.getLsbD j = false) :
    storedBaseRefusal w rn list = none := by
  refine if_neg fun ⟨hw, listed, higher⟩ => higher ?_
  obtain ⟨rest, split⟩ := picked_split listed rn.isLt
  have first : picked list.getLsbD rn.toNat = [] :=
    List.filter_eq_nil_iff.mpr fun j hj => ne_true_of_eq_false (h hw listed j (List.mem_range.mp hj))
  rw [regsOf_eq_picked, split, first, List.nil_append, List.map_cons, List.head?_cons, BitVec.ofNat_toNat,
    BitVec.setWidth_eq]

theorem listBytes_eq (list : BitVec 16) : listBytes list = BitVec.ofNat 32 (4 * listedBelow list 16) := by
  rw [listBytes, regsOf_length]

/-- The User register that is the base register itself (R352). -/
theorem regIndex_user_ne_iff {m : BitVec 5} {rn j : BitVec 4} (hn : rn ≠ 15#4) (hj : j ≠ 15#4) :
    regIndex modeUsr j ≠ regIndex m rn ↔ (j == rn && regIndex modeUsr j == regIndex m j) = false := by
  rw [Bool.and_eq_false_imp, beq_iff_eq, beq_eq_false_iff_ne]
  constructor
  · rintro apart rfl
    exact apart
  · intro apart e
    have number : j = rn := by rw [← registerNumber_regIndex (m := modeUsr) hj, e, registerNumber_regIndex hn]
    exact apart number (number ▸ e)

section
variable {s : State} {cond rn : BitVec 4} {p u w : BitVec 1} {list : BitVec 16} {low : BitVec 15} {i : BitVec 4}
  (hc : s.passes cond = true) (hs : s.unbuffered) (hn : rn ≠ 15#4)
include hc hs hn

theorem execLdm_aborts (hb : w = 1#1 → list.getLsbD rn.toNat = false)
    (h : s.stopsAt list (blockFirst p u (s.reg rn) list) false i) :
    LoadAborts s s.mode (· ≠ rn) list (blockFirst p u (s.reg rn) list) i (execLdm cond p u w rn list s) := by
  have form := blockRefusal_none h.list_ne_zero hn
  rw [← blockStart_eq] at h ⊢
  exact loadAborts_of_loadMany hs h (fun _ _ => beq_eq_false_iff_ne.symm)
    ((ifPassed_passes hc).trans ((unlessRefused_none form _).trans (unlessRefused_none (baseRefusal_none hb) _)))

theorem execLdmRestore_aborts (hb : w = 1#1 → (1#1 ++ low).getLsbD rn.toNat = false) (hm : modeHasSpsr s.mode = true)
    (h : s.stopsAt (1#1 ++ low) (blockFirst p u (s.reg rn) (1#1 ++ low)) false i) :
    LoadAborts s s.mode (· ≠ rn) (1#1 ++ low) (blockFirst p u (s.reg rn) (1#1 ++ low)) i
      (execLdmRestore cond p u w rn low s) := by
  have form := blockRefusal_none h.list_ne_zero hn
  have spsr : ¬ (!modeHasSpsr s.mode) = true := by rw [hm]; decide
  rw [← blockStart_eq] at h ⊢
  exact loadAborts_of_loadMany hs h (fun _ _ => beq_eq_false_iff_ne.symm)
    (by rw [execLdmRestore, ifPassed_passes hc, unlessRefused_none form, unlessRefused_none (baseRefusal_none hb),
      if_neg spsr])

theorem execLdmUser_aborts (hm : s.mode ≠ modeUsr ∧ s.mode ≠ modeSys)
    (h : s.stopsAt (0#1 ++ low) (blockFirst p u (s.reg rn) (0#1 ++ low)) false i) :
    LoadAborts s modeUsr (fun j => regIndex modeUsr j ≠ regIndex s.mode rn) (0#1 ++ low)
      (blockFirst p u (s.reg rn) (0#1 ++ low)) i (execLdmUser cond p u 0#1 rn low s) := by
  have form := blockRefusal_none h.list_ne_zero hn
  rw [← blockStart_eq] at h ⊢
  exact loadAborts_of_loadMany hs h (fun j hj => regIndex_user_ne_iff hn hj)
    (by rw [execLdmUser, ifPassed_passes hc, unlessRefused_none form, unlessRefused_none (userRefusal_none hm)])

variable (hm : s.mem.wf = true)
include hm

theorem execStm_aborts (hb : w = 1#1 → list.getLsbD rn.toNat = true → ∀ j, j < rn.toNat → list.getLsbD j = false)
    (h : s.stopsAt list (blockFirst p u (s.reg rn) list) true i) :
    StoreAborts s s.storedReg list (blockFirst p u (s.reg rn) list) i (execStm cond p u w rn list s) := by
  have form := blockRefusal_none h.list_ne_zero hn
  rw [← blockStart_eq] at h ⊢
  exact storeAborts_of_storeMany hs hm h (fun _ _ => rfl)
    ((ifPassed_passes hc).trans ((unlessRefused_none form _).trans
      (unlessRefused_none (storedBaseRefusal_lowest hb) _)))

theorem execStmUser_aborts (hmode : s.mode ≠ modeUsr ∧ s.mode ≠ modeSys)
    (h : s.stopsAt list (blockFirst p u (s.reg rn) list) true i) :
    StoreAborts s (fun j => if j = 15#4 then s.pc + 12#32 else s.bankGet modeUsr j) list
      (blockFirst p u (s.reg rn) list) i (execStmUser cond p u 0#1 rn list s) := by
  have form := blockRefusal_none h.list_ne_zero hn
  rw [← blockStart_eq] at h ⊢
  refine storeAborts_of_storeMany hs hm h (fun j hj => ?_)
    ((ifPassed_passes hc).trans ((unlessRefused_none form _).trans (unlessRefused_none (userRefusal_none hmode) _)))
  rw [if_neg hj, if_neg hj]
  exact if_neg hj

end

section
variable {s : State} {i : BitVec 4} (hs : s.unbuffered)
include hs

theorem execTPop_aborts {r : BitVec 1} {rlist : BitVec 8} (h : s.stopsAt (popList r rlist) (s.reg 13#4) false i) :
    LoadAborts s s.mode (· ≠ 13#4) (popList r rlist) (s.reg 13#4) i (execTPop r rlist s) :=
  loadAborts_of_loadMany hs h (fun _ _ => beq_eq_false_iff_ne.symm)
    (unlessRefused_none (blockRefusal_none h.list_ne_zero (by decide)) _)

theorem execTLdmia_aborts {rb : BitVec 3} {rlist : BitVec 8}
    (h : s.stopsAt (lowList rlist) (s.reg (lowReg rb)) false i) :
    LoadAborts s s.mode (· ≠ lowReg rb) (lowList rlist) (s.reg (lowReg rb)) i (execTLdmia rb rlist s) :=
  loadAborts_of_loadMany hs h (fun _ _ => beq_eq_false_iff_ne.symm)
    (unlessRefused_none (blockRefusal_none h.list_ne_zero (lowReg_ne_pc rb)) _)

variable (hm : s.mem.wf = true)
include hm

theorem execTPush_aborts {r : BitVec 1} {rlist : BitVec 8}
    (h : s.stopsAt (pushList r rlist) (s.reg 13#4 - BitVec.ofNat 32 (4 * listedBelow (pushList r rlist) 16)) true i) :
    StoreAborts s s.reg (pushList r rlist) (s.reg 13#4 - BitVec.ofNat 32 (4 * listedBelow (pushList r rlist) 16)) i
      (execTPush r rlist s) := by
  rw [← listBytes_eq] at h ⊢
  exact storeAborts_of_storeMany hs hm h (fun _ _ => rfl)
    (unlessRefused_none (blockRefusal_none h.list_ne_zero (by decide)) _)

theorem execTStmia_aborts {rb : BitVec 3} {rlist : BitVec 8}
    (hb : (lowList rlist).getLsbD (lowReg rb).toNat = true →
      ∀ j, j < (lowReg rb).toNat → (lowList rlist).getLsbD j = false)
    (h : s.stopsAt (lowList rlist) (s.reg (lowReg rb)) true i) :
    StoreAborts s s.reg (lowList rlist) (s.reg (lowReg rb)) i (execTStmia rb rlist s) :=
  storeAborts_of_storeMany hs hm h (fun _ hj => if_neg hj)
    ((unlessRefused_none (blockRefusal_none h.list_ne_zero (lowReg_ne_pc rb)) _).trans
      (unlessRefused_none (storedBaseRefusal_lowest fun _ => hb) _))

end

/-! Coprocessor transfers that are stopped. -/

/-- The address of the offset and pre-indexed forms (R217). -/
theorem cpIndexing_address_pre (s : State) (u w : BitVec 1) (rn : BitVec 4) (imm8 : BitVec 8) :
    (s.cpIndexing 1#1 u w rn imm8).address =
      if u = 1#1 then s.reg rn + BitVec.ofNat 32 (4 * imm8.toNat) else s.reg rn - BitVec.ofNat 32 (4 * imm8.toNat) := by
  change indexed (s.reg rn) (imm8.zeroExtend 32 * BitVec.ofNat 32 4) u = _
  rw [zeroExtend_mul imm8 4]
  rfl

section
variable {s : State} {cond rn cp : BitVec 4} {wb : BitVec 1} {w start : Word} {ix : State → Indexing} {n k : Nat}
  {rest : List CpAnswer} (hc : s.passes cond = true) (hs : s.unbuffered) (hn : rn ≠ 15#4) (ha : s.hasCp cp = true)
  (answer : s.cpAnswers = .accept n :: rest) (hk : k < n) (hn16 : n ≤ 16) (address : (ix s.offered).address = start)

include ha answer hk hn16 in
/-- An offer whose answer accepts a transfer of `n` words. -/
theorem offer_accepts (run : Nat → State → Result) : offer cp w s run = run n s.offered := by
  have words : cpWords n = n := by
    unfold cpWords
    omega
  simp only [offer, ha, if_true, State.cpAnswer, answer, words]

include hc hs hn ha answer hk hn16 address

theorem cpLoad_aborts (away : s.turnsAway (wordAddr start + BitVec.ofNat 32 (4 * k)) false)
    (out : ∀ m, m < k → s.letsOut (wordAddr start + BitVec.ofNat 32 (4 * m)) false) :
    cpLoad cond wb rn cp w ix s =
      .next (s.offered.setCpState cp (s.offered.cpTaken cp w (wordAddr start) k)).aborted := by
  rw [cpLoad, ifPassed_passes hc, offer_accepts ha answer hk hn16, if_neg fun h => hn h.1, address,
    cpLoadMany_stops (s := s.offered) ha hs hk away out]
  exact raise_dataAbort hs.1

theorem cpStore_aborts (hm : s.mem.wf = true) (away : s.turnsAway (wordAddr start + BitVec.ofNat 32 (4 * k)) true)
    (out : ∀ m, m < k → s.letsOut (wordAddr start + BitVec.ofNat 32 (4 * m)) true) :
    ∃ mem : Memory,
      cpStore cond wb rn cp w ix s = .next (State.aborted { s.offered with mem := mem }) ∧
      (∀ m, m < k →
        memWord mem (wordAddr start + BitVec.ofNat 32 (4 * m)) = Config.cpStoreWord cp.toNat w m (s.cpStateOf cp)) ∧
      ∀ a, (∀ m, m < k → wordAddr start + BitVec.ofNat 32 (4 * m) ≠ wordAddr a) → memWord mem a = memWord s.mem a := by
  have place (m : Nat) : wordAddr start + BitVec.ofNat 32 (4 * m) = pickedAddr (fun _ => true) (wordAddr start) m :=
    (pickedAddr_all ..).symm
  have aligned (m : Nat) : wordAddr (pickedAddr (fun _ => true) (wordAddr start) m) =
      pickedAddr (fun _ => true) (wordAddr start) m := by
    rw [← place]
    exact wordAddr_ahead (wordAddr_idem start) m
  simp only [place] at away out ⊢
  let word (m : Nat) : Word := Config.cpStoreWord cp.toNat w m (s.cpStateOf cp)
  refine ⟨storedMem s.mem (fun _ => true) word (wordAddr start) k, ?_, fun m hm' => storedMem_at hm (by omega) hm' rfl,
    fun a other => storedMem_other hm fun m hm' _ => (aligned m).symm ▸ other m hm'⟩
  have words : s.offered.cpStoreWords cp w n = (picked (fun _ => true) n).map word := by
    rw [picked_all]
    rfl
  rw [cpStore, ifPassed_passes hc, offer_accepts ha answer hk hn16, if_neg fun h => hn h.1, address, words,
    cpStoreMany_eq_storeMany _ (wordAddr_idem start),
    storeMany_stops (s := s.offered) hs hk rfl ((aligned k).symm ▸ away) fun m hm' _ => (aligned m).symm ▸ out m hm']
  exact raise_dataAbort hs.1

end

/-- Settles O50: each transfer makes the accesses before the one that is turned away, and takes its Data Abort there. -/
theorem blockTransferAborts : Obligations.BlockTransferAborts := by
  intro cond p u w rn list low r rb rlist i s hc hu hoff hbuf hm hn taken first absent lowest other popped pushed lows
    below stops
  have hs : s.unbuffered := ⟨hu, hoff, hbuf⟩
  refine ⟨?_, execLdmUser_aborts hc hs hn, ?_, ?_⟩
  · simp only [List.forall_mem_cons, List.not_mem_nil, false_implies, implies_true, and_true]
    exact ⟨execLdm_aborts hc hs hn, fun ⟨hb, spsr⟩ => execLdmRestore_aborts hc hs hn hb spsr,
      fun _ => execTPop_aborts hs, fun _ => execTLdmia_aborts hs⟩
  · simp only [List.forall_mem_cons, List.not_mem_nil, false_implies, implies_true, and_true]
    exact ⟨execStm_aborts hc hs hn hm, execStmUser_aborts hc hs hn hm, fun _ => execTPush_aborts hs hm,
      execTStmia_aborts hs hm⟩
  · intro crd cp l imm8 n k rest attached answer hk hn16 base up down t word ends
    have offered : s.offered = t :=
      congrArg (fun as => { s with cpAnswers := List.tail as, draws := s.draws + 1 }) answer
    have pre : (s.offered.cpIndexing 1#1 u w rn imm8).address = if u = 1#1 then up else down :=
      cpIndexing_address_pre ..
    simp only [List.forall_mem_cons, List.not_mem_nil, false_implies, implies_true, and_true, ← offered]
    exact ⟨⟨fun ⟨away, out⟩ => cpLoad_aborts hc hs hn attached answer hk hn16 pre away out,
        fun ⟨away, out⟩ => cpLoad_aborts hc hs hn attached answer hk hn16 rfl away out,
        fun ⟨away, out⟩ => cpLoad_aborts hc hs hn attached answer hk hn16 rfl away out⟩,
      fun ⟨away, out⟩ => cpStore_aborts hc hs hn attached answer hk hn16 pre hm away out,
      fun ⟨away, out⟩ => cpStore_aborts hc hs hn attached answer hk hn16 rfl hm away out,
      fun ⟨away, out⟩ => cpStore_aborts hc hs hn attached answer hk hn16 rfl hm away out⟩

end Sys2Proof.Machine
end

section
/-!
PROOFS. SWI and the undefined instructions: all of a kind share one meaning, the entry of their exception.
-/

namespace Sys2Proof.Machine

section
variable {s : State} (hu : s.undebugged = true)
include hu

/-- The entry of R530 with the link value of R531; F is kept, for neither Reset nor FIQ is raised. -/
theorem raise_swi :
    raise .swi s = .next (s.entered modeSvc (s.pc + s.ilen) 0x08#32 (s.cpsr.extractLsb' 6 1)) :=
  congrArg Host.Outcome.next (takeException_undebugged hu)

theorem raise_undefined :
    raise .undefined s = .next (s.entered modeUnd (s.pc + s.ilen) 0x04#32 (s.cpsr.extractLsb' 6 1)) :=
  congrArg Host.Outcome.next (takeException_undebugged hu)

theorem execSwi_enters {cond : BitVec 4} (imm24 : BitVec 24) (hc : s.passes cond = true) :
    execSwi cond imm24 s = .next (s.entered modeSvc (s.pc + s.ilen) 0x08#32 (s.cpsr.extractLsb' 6 1)) := by
  rw [execSwi, ifPassed_passes hc, raise_swi hu]

theorem undefinedArm_enters {cond : BitVec 4} (hc : s.passes cond = true) :
    undefinedArm cond s = .next (s.entered modeUnd (s.pc + s.ilen) 0x04#32 (s.cpsr.extractLsb' 6 1)) := by
  rw [undefinedArm, ifPassed_passes hc, raise_undefined hu]

end

/-- Settles O10: each ARM row is `undefinedArm`, each Thumb row raises the exception with no condition. -/
theorem softwareAndUndefinedExceptions : Obligations.SoftwareAndUndefinedExceptions := by
  refine ⟨fun cond imm24 imm8 s hu => ⟨execSwi_enters hu imm24, raise_swi hu⟩, ?_⟩
  intro cond low x1 y1 x2 y2 x3 x4 r12 r20 t8 t9 t10 t11 s hu taken
  simp only [List.forall_mem_cons, List.not_mem_nil, false_implies, implies_true, and_true]
  constructor
  · intro hc
    have arm : undefinedArm cond s = .next taken := undefinedArm_enters hu hc
    exact ⟨arm, arm, arm, arm, arm, arm, arm, arm, arm, arm, arm, arm, arm⟩
  · have thumb : raise .undefined s = .next taken := raise_undefined hu
    exact ⟨thumb, thumb, thumb, thumb, thumb, thumb, thumb⟩

end Sys2Proof.Machine
end

section
/-!
PROOFS. Coprocessor instructions that are not accepted: all of them are the same handshake, and it ends in the Undefined
Instruction exception or in the wait.
-/

namespace Sys2Proof.Machine

/-- No coprocessor answers under number 14 or 15: `attached` has no bit for them (R391). -/
theorem not_hasCp {s : State} {cp : BitVec 4} (h : cp = 14#4 ∨ cp = 15#4 ∨ s.attached.getLsbD cp.toNat = false) :
    s.hasCp cp = false := by
  rcases h with rfl | rfl | h
  · exact BitVec.getLsbD_of_ge s.attached 14 (by decide)
  · exact BitVec.getLsbD_of_ge s.attached 15 (by decide)
  · exact h

section
variable {s : State} {cp : BitVec 4} {w : Word} {run : Nat → State → Result} {a : CpAnswer} {rest : List CpAnswer}

theorem cpAnswer_cons (h : s.cpAnswers = a :: rest) : s.cpAnswer cp w = a := by
  rw [State.cpAnswer, h]

theorem offered_cons (h : s.cpAnswers = a :: rest) :
    s.offered = { s with cpAnswers := rest, draws := s.draws + 1 } := by
  rw [State.offered, h, List.tail_cons]

theorem offer_unanswered (h : s.hasCp cp = false) : offer cp w s run = raise .undefined s := by
  rw [offer, if_neg (ne_true_of_eq_false h)]

theorem offer_absent (h : s.hasCp cp = true) (answer : s.cpAnswer cp w = .absent) :
    offer cp w s run = raise .undefined s.offered := by
  rw [offer, if_pos h, answer]

theorem offer_wait (h : s.hasCp cp = true) (answer : s.cpAnswer cp w = .wait) :
    offer cp w s run = .next { s.offered with busy := some w } := by
  rw [offer, if_pos h, answer]

end

/-- An instruction offers its own word to coprocessor `cp`; what it does once accepted is left open. -/
def OffersItself (s : State) (cp : BitVec 4) (i : Instr) : Prop :=
  ∃ run : Nat → State → Result, exec i s = offer cp (codeWord i) s run

section
variable {s : State} {cond : BitVec 4} (hc : s.passes cond = true)
include hc

theorem cdp_offersItself (op1 crn crd cp : BitVec 4) (op2 : BitVec 3) (crm : BitVec 4) :
    OffersItself s cp (.cdp cond op1 crn crd cp op2 crm) := by
  change ∃ run, execCdp cond op1 crn crd cp op2 crm s = offer cp _ s run
  rw [execCdp, ifPassed_passes hc]
  exact ⟨_, rfl⟩

theorem cpLoad_offers (wb : BitVec 1) (rn cp : BitVec 4) (w : Word) (ix : State → Indexing) :
    ∃ run, cpLoad cond wb rn cp w ix s = offer cp w s run :=
  ⟨_, ifPassed_passes hc⟩

theorem cpStore_offers (wb : BitVec 1) (rn cp : BitVec 4) (w : Word) (ix : State → Indexing) :
    ∃ run, cpStore cond wb rn cp w ix s = offer cp w s run :=
  ⟨_, ifPassed_passes hc⟩

/-- With number 14 or 15 the word is an access to CP14 or CP15, which no external coprocessor is offered. -/
theorem mcr_offersItself {cp : BitVec 4} (h14 : cp ≠ 14#4) (h15 : cp ≠ 15#4) (op1 : BitVec 3) (crn rd : BitVec 4)
    (op2 : BitVec 3) (crm : BitVec 4) : OffersItself s cp (.mcr cond op1 crn rd cp op2 crm) := by
  change ∃ run, execMcr cond op1 crn rd cp op2 crm s = offer cp _ s run
  rw [execMcr, if_neg h15, if_neg h14, ifPassed_passes hc]
  exact ⟨_, rfl⟩

theorem mrc_offersItself {cp : BitVec 4} (h14 : cp ≠ 14#4) (h15 : cp ≠ 15#4) (op1 : BitVec 3) (crn rd : BitVec 4)
    (op2 : BitVec 3) (crm : BitVec 4) : OffersItself s cp (.mrc cond op1 crn rd cp op2 crm) := by
  change ∃ run, execMrc cond op1 crn rd cp op2 crm s = offer cp _ s run
  rw [execMrc, if_neg h15, if_neg h14, ifPassed_passes hc]
  exact ⟨_, rfl⟩

end

/-- Settles O19: each instruction offers itself, and the handshake alone decides what an unaccepted offer does. -/
theorem coprocessorAbsentOrWaiting : Obligations.CoprocessorAbsentOrWaiting := by
  intro cond op4 crn rd cp crm op1 op2 u n w imm8 s rest hc hu i hi undefined
  have offers : OffersItself s cp i := by
    revert i
    rw [List.forall_mem_append]
    constructor
    · simp only [List.forall_mem_cons, List.not_mem_nil, false_implies, implies_true, and_true]
      exact ⟨cdp_offersItself hc .., cpLoad_offers hc .., cpLoad_offers hc .., cpLoad_offers hc ..,
        cpStore_offers hc .., cpStore_offers hc .., cpStore_offers hc ..⟩
    · split
      next => exact List.forall_mem_nil _
      next external =>
        obtain ⟨h14, h15⟩ := not_or.mp external
        simp only [List.forall_mem_cons, List.not_mem_nil, false_implies, implies_true, and_true]
        exact ⟨mcr_offersItself hc h14 h15 .., mrc_offersItself hc h14 h15 ..⟩
  obtain ⟨run, hrun⟩ := offers
  rw [hrun]
  refine ⟨fun nobody => ?unanswered, fun attached answers => ?absent, fun attached answers => ?wait⟩
  case unanswered => rw [offer_unanswered (not_hasCp nobody), raise_undefined hu]
  case absent =>
    rw [offer_absent attached (cpAnswer_cons answers), raise_undefined (s := s.offered) hu, offered_cons answers]
    rfl
  case wait => rw [offer_wait attached (cpAnswer_cons answers), offered_cons answers]

end Sys2Proof.Machine
end

section
/-!
PROOFS. The accesses to CP15 that are turned away: an MCR or MRC word of coprocessor 15 stands for an access to CP15,
whichever row it is of, and one that no row of R400 allows has no other meaning than its refusal.
-/

namespace Sys2Proof.Machine
open Laws

/-! What makes a term stand for an encoding of its row. -/

/-- The numbers of a generic transfer must not be those of a row of its own (R206); any other ARM term is only held to
the condition in its word (R202, R204). -/
inductive FormCheck : Instr → Prop
  | mcr (cond : BitVec 4) (op1 : BitVec 3) (crn rd cp : BitVec 4) (op2 : BitVec 3) (crm : BitVec 4) :
      FormCheck (.mcr cond op1 crn rd cp op2 crm)
  | mrc (cond : BitVec 4) (op1 : BitVec 3) (crn rd cp : BitVec 4) (op2 : BitVec 3) (crm : BitVec 4) :
      FormCheck (.mrc cond op1 crn rd cp op2 crm)
  | condition {i : Instr} (wf : ∀ w, encode i = .arm w → fld w 28 4 ≠ 15#4 → i.wellFormed = true) : FormCheck i

theorem FormCheck.arm {i : Instr} {cond : BitVec 4} {w : Word} (e : encode i = .arm w) (hw : Heads cond w)
    (h : i.wellFormed = (cond != 15#4)) : FormCheck i := by
  refine .condition fun w' e' hne => ?_
  cases e.symm.trans e'
  rw [hw.top] at hne
  exact h.trans (bne_iff_ne.mpr hne)

theorem FormCheck.thumb {i : Instr} {h : BitVec 16} (e : encode i = .thumb h) : FormCheck i :=
  .condition fun _ e' => by cases e.symm.trans e'

theorem formCheck (i : Instr) : FormCheck i := by
  cases i
  case condNever => exact .condition fun _ _ _ => rfl
  case mcr => exact .mcr ..
  case mrc => exact .mrc ..
  case and op2 | eor op2 | sub op2 | rsb op2 | add op2 | adc op2 | sbc op2 | rsc op2 | tst op2 | teq op2 | cmp op2 |
      cmn op2 | orr op2 | mov op2 | bic op2 | mvn op2 =>
    cases op2 <;> exact .arm rfl (by repeat constructor) rfl
  case strh off | ldrh off | ldrsb off | ldrsh off | ldr off | ldrPost off | ldrt off | ldrb off | ldrbPost off |
      ldrbt off | str off | strPost off | strt off | strb off | strbPost off | strbt off =>
    cases off <;> exact .arm rfl (by repeat constructor) rfl
  case tAddLow | tCmpLow | tMovLow | tBxHigh | tLslImm | tLsrImm | tAsrImm | tAddReg | tSubReg | tAddImm3 |
      tSubImm3 | tMovImm | tAddImm8 | tSubImm8 | tNeg | tCmpImm | tAnd | tEor | tAdc | tSbc | tOrr | tBic | tMvn |
      tLslReg | tLsrReg | tAsrReg | tRorReg | tTst | tCmpReg | tCmn | tMul | tAddHi | tAddLoHi | tCmpHi | tCmpLoHi |
      tMovHi | tMovLoHi | tBx | tLdrPc | tLdrReg | tLdrbReg | tLdrhReg | tLdsbReg | tLdshReg | tLdrImm | tLdrbImm |
      tLdrhImm | tLdrSp | tStrReg | tStrbReg | tStrhReg | tStrImm | tStrbImm | tStrhImm | tStrSp | tAddPc | tAddSp |
      tAddSpImm | tSubSpImm | tBlFirst | tPush | tPop | tUndB1 | tUndB2 | tUndB6 | tUndB8 | tUndBE | tUndCond |
      tSwi | tUndE8 | tStmia | tLdmia | tBeq | tBne | tBcs | tBcc | tBmi | tBpl | tBvs | tBvc | tBhi | tBls | tBge |
      tBlt | tBgt | tBle | tB | tBlSecond =>
    exact .thumb rfl
  all_goals exact .arm rfl (by repeat constructor) rfl

/-! The transfers of coprocessor 15. -/

/-- What the instruction does is an access to CP15 under this condition (R400). -/
def AccessesCp15 (cond : BitVec 4) (s : State) (i : Instr) : Prop := ∃ f, exec i s = cp15Access cond s f

theorem AccessesCp15.read {cond rd : BitVec 4} {s : State} {i : Instr} {r : SysReg}
    (h : exec i s = cp15Read r cond rd s) : AccessesCp15 cond s i := ⟨_, h⟩

theorem AccessesCp15.write {cond rd : BitVec 4} {s : State} {i : Instr} {r : SysReg}
    (h : exec i s = cp15Write r cond rd s) : AccessesCp15 cond s i := ⟨_, h⟩

theorem AccessesCp15.operation {cond rd : BitVec 4} {s : State} {i : Instr} {op : CacheOp}
    (h : exec i s = cp15Op op cond rd s) : AccessesCp15 cond s i := ⟨_, h⟩

theorem AccessesCp15.none {cond : BitVec 4} {s : State} {i : Instr} (h : exec i s = cp15None cond s) :
    AccessesCp15 cond s i := ⟨_, h⟩

/-- The condition and the coprocessor number in the word of a generic transfer; `l` tells MRC from MCR. -/
theorem genericTransfer_fields (cond crn rd cp crm : BitVec 4) (op1 op2 : BitVec 3) (l : BitVec 1) :
    let w : Word := cond ++ 0b1110#4 ++ op1 ++ l ++ crn ++ rd ++ cp ++ op2 ++ 0b1#1 ++ crm
    fld w 28 4 = cond ∧ fld w 8 4 = cp := by
  simp only [HAppend.hAppend]
  simp (decide := true) only [fld_append_high, fld_append_low, fld_whole, Nat.reduceSub, and_self]

theorem decodeMrc15_accessesCp15 {w : Word} (cp15 : fld w 8 4 = 15#4) (s : State) :
    AccessesCp15 (fld w 28 4) s (decodeMrc15 w) := by
  rw [decodeMrc15, cp15]
  split
  case h_34 => exact .none rfl
  all_goals exact .read rfl

theorem decodeMcr15_accessesCp15 {w : Word} (cp15 : fld w 8 4 = 15#4) (s : State) :
    AccessesCp15 (fld w 28 4) s (decodeMcr15 w) := by
  rw [decodeMcr15, cp15]
  split
  -- The decoder's order: the writes, the operations, and last the two misprints (R425) and the generic transfer.
  case h_36 | h_37 | h_38 => exact .none rfl
  case h_26 | h_27 | h_28 | h_29 | h_30 | h_31 | h_32 | h_33 | h_34 | h_35 => exact .operation rfl
  all_goals exact .write rfl

theorem bitAt_of_fld {w : Word} {a n : Nat} {v : BitVec n} (h : fld w a n = v) {i : Nat} (hi : i < n) :
    bitAt w (a + i) = bitAt v i := by
  rw [← h]
  exact (bitAt_extract w hi).symm

section
variable {w : Word} (arm : fld w 28 4 ≠ 15#4) (transfer : fld w 24 4 = 0b1110#4) (bit4 : bitAt w 4 = true)
  (cp15 : fld w 8 4 = 15#4)
include arm transfer bit4 cp15

/-- The decoder gives an MCR or MRC word of coprocessor 15 a row of CP15, or the generic transfer of its numbers. -/
theorem decodeArm_accessesCp15 (s : State) : AccessesCp15 (fld w 28 4) s (decodeArm w) := by
  have b24 : bitAt w 24 = false := bitAt_of_fld transfer (i := 0) (by decide)
  have b25 : bitAt w 25 = true := bitAt_of_fld transfer (i := 1) (by decide)
  have b26 : bitAt w 26 = true := bitAt_of_fld transfer (i := 2) (by decide)
  have b27 : bitAt w 27 = true := bitAt_of_fld transfer (i := 3) (by decide)
  have b8 : bitAt w 8 = true := bitAt_of_fld cp15 (i := 0) (by decide)
  have coproc : decodeArm w = decodeCoproc w := by
    rw [decodeArm, if_neg arm, if_pos b27, if_pos b26, if_pos b25]
  rw [coproc, decodeCoproc, if_neg (ne_true_of_eq_false b24), if_pos bit4, if_pos b8, if_pos b8, cp15]
  split
  · split
    · exact .none rfl
    · exact decodeMrc15_accessesCp15 cp15 s
  · split
    · exact .none rfl
    · exact decodeMcr15_accessesCp15 cp15 s

/-- Every term that encodes to such a word accesses CP15: a generic transfer by its own numbers, any other because it is
what its word decodes to. -/
theorem exec_accessesCp15 {i : Instr} (e : encode i = .arm w) (s : State) : AccessesCp15 (fld w 28 4) s i := by
  cases formCheck i with
  | mcr cond op1 crn rd cp op2 crm =>
    obtain ⟨hcond, hcp⟩ := genericTransfer_fields cond crn rd cp crm op1 op2 0b0#1
    cases e
    cases hcp.symm.trans cp15
    exact hcond.symm ▸ .none rfl
  | mrc cond op1 crn rd cp op2 crm =>
    obtain ⟨hcond, hcp⟩ := genericTransfer_fields cond crn rd cp crm op1 op2 0b1#1
    cases e
    cases hcp.symm.trans cp15
    exact hcond.symm ▸ .none rfl
  | condition wf =>
    have decoded : decodeArm w = i := by
      have back := roundTrip i (wf w e arm)
      rwa [e] at back
    exact decoded ▸ decodeArm_accessesCp15 arm transfer bit4 cp15 s

end

/-! The two ways of turning an access away. -/

section
variable {cond : BitVec 4} {s : State} (hc : s.passes cond = true)
include hc

/-- In User mode the access itself does not matter (R400). -/
theorem cp15Access_user (hm : s.mode = modeUsr) (f : State → Result) : cp15Access cond s f = raise .undefined s := by
  rw [cp15Access, ifPassed_passes hc, State.privileged, hm, if_neg (by decide)]

theorem cp15None_refused (hm : s.mode ≠ modeUsr) : cp15None cond s = .refused .cp15Reserved :=
  cp15Access_passes hc hm _

end

/-- Register 7 has no reads (R411 to R420). -/
theorem mrc15Listed_register7 (crm : BitVec 4) (op2 : BitVec 3) : mrc15Listed 7#4 crm op2 = false := by
  revert crm op2
  decide

theorem mrcGeneric_register7 (op1 op2 : BitVec 3) (crm : BitVec 4) : mrcGeneric op1 7#4 15#4 op2 crm = true := by
  simp [mrcGeneric, mrc15Listed_register7]

/-- Settles O23: in User mode an access to CP15 raises the exception whatever its row; a privileged one that has no
row is refused. -/
theorem cp15AccessesTurnedAway : Obligations.Cp15AccessesTurnedAway := by
  constructor
  · intro i w s e transfer bit4 cp15 hc hm hu
    have arm : fld w 28 4 ≠ 15#4 := by
      intro h
      simp [h, State.passes] at hc
    obtain ⟨f, access⟩ := exec_accessesCp15 arm transfer bit4 cp15 e s
    rw [access, cp15Access_user hc hm, raise_undefined hu]
  · intro cond crn rd crm op1 op2 s hc hm _
    have none : cp15None cond s = .refused .cp15Reserved := cp15None_refused hc hm
    refine ⟨none, none, fun _ => none, fun _ => none, ?_⟩
    rintro rfl
    exact mrcGeneric_register7 op1 op2 crm

end Sys2Proof.Machine
end

section
/-!
PROOFS. The Thumb additions and subtractions: each is a sum or a difference of `addWithCarry`, in closed form.
-/

namespace Sys2Proof.Machine

/-! A Thumb sum or difference whose result goes to a low register and to the flags (R451). -/

section
variable {s : State} (hr : s.room = true)
include hr

theorem thumbWrite_writes (rd : BitVec 3) (f : FlagResult) :
    thumbWrite rd f s = .next (s.wrote 1#1 (lowReg rd) f.value f.c f.v) := by
  rw [← dpWrite_register 1#1 f hr (lowReg_ne_pc rd), dpWrite, if_neg (lowReg_ne_pc rd), if_pos rfl]
  rfl

/-- An instruction that writes the sum of `a`, `b` and a carry. -/
theorem thumbSum_writes {i : Instr} {rd : BitVec 3} {a b : Word} {c : Bool}
    (h : exec i s = thumbWrite rd (addWithCarry a b c) s) :
    exec i s = .next (s.wrote 1#1 (lowReg rd) (a + b + BitVec.ofNat 32 c.toNat)
      (decide (2 ^ 32 ≤ a.toNat + b.toNat + c.toNat)) (overflows (a.toInt + b.toInt + c.toNat))) := by
  rw [h, thumbWrite_writes hr, addWithCarry_eq]

/-- An instruction that writes the difference of `a` and `b`, with the borrow of a clear carry. -/
theorem thumbDifference_writes {i : Instr} {rd : BitVec 3} {a b : Word} {c : Bool}
    (h : exec i s = thumbWrite rd (addWithCarry a (~~~b) c) s) :
    exec i s = .next (s.wrote 1#1 (lowReg rd) (a - b - BitVec.ofNat 32 (!c).toNat)
      (decide (b.toNat + (!c).toNat ≤ a.toNat)) (overflows (a.toInt - b.toInt - (!c).toNat))) := by
  rw [h, thumbWrite_writes hr, addWithCarry_not_eq]

/-- A value without flags for register `i`. -/
theorem thumbAddress_writes {i : BitVec 4} {v v' : Word} (h : v = v') :
    finish (s.setReg i v) = .next { s.setReg i v' with pc := s.pc + s.ilen } := by
  rw [h, finish_setReg i v' hr]

end

/-- Settles O29: the sums and the differences by their operands, and the addresses by theirs. -/
theorem thumbArithmetic : Obligations.ThumbArithmetic := by
  constructor
  · intro rn rs rd imm3 imm8 s hr d m c b
    constructor
    · have sum {i : Instr} {x y : Word} {cin : Bool} (h) :=
        thumbSum_writes hr (i := i) (rd := rd) (a := x) (b := y) (c := cin) h
      simp only [List.forall_mem_cons, List.not_mem_nil, false_implies, implies_true, and_true]
      exact ⟨sum (cin := false) rfl, sum (cin := false) rfl, sum (cin := false) rfl, sum rfl⟩
    · have difference {i : Instr} {x y : Word} {cin : Bool} (h) :=
        thumbDifference_writes hr (i := i) (rd := rd) (a := x) (b := y) (c := cin) h
      simp only [List.forall_mem_cons, List.not_mem_nil, false_implies, implies_true, and_true]
      exact ⟨difference (cin := true) rfl, difference (cin := true) rfl, difference (cin := true) rfl,
        difference (cin := true) rfl, difference rfl⟩
  · intro rd imm8 imm7 s hr put
    exact ⟨thumbAddress_writes hr (pcAddr_eq s imm8), thumbAddress_writes hr (spAddr_eq s imm8),
      thumbAddress_writes hr (congrArg (s.reg 13#4 + ·) (zeroExtend_mul imm7 4)),
      thumbAddress_writes hr (congrArg (s.reg 13#4 - ·) (zeroExtend_mul imm7 4))⟩

end Sys2Proof.Machine
end

section
/-!
PROOFS. The Thumb single transfers of a machine at rest: one external transfer at the address of the format.
-/

namespace Sys2Proof.Machine

section
variable {s : State} (hs : s.direct = true)
include hs

/-- With everything off, a load takes the item at `a`. -/
theorem load_transferAddr (sz : Size) (a : Word) (privileged : Bool) :
    load (transferAddr sz a) sz privileged s = .done (s.memItem sz a) s := by
  rw [load_direct _ sz privileged hs, memWord_transferAddr]
  rfl

/-- With everything off, a store gives its lanes of the word at `a` the item. -/
theorem store_transferAddr (sz : Size) (a v : Word) (privileged join : Bool) :
    store (transferAddr sz a) sz v privileged join s = .done () { s with mem := s.memStored sz a v } :=
  store_direct _ sz v privileged join hs

end

theorem oddHalf_half (a : Word) : oddHalf .half a = decide (a.toNat % 2 = 1) := by
  rw [oddHalf, BitVec.getLsbD, Nat.testBit_zero]
  rfl

/-! A Thumb transfer at the address `b` of its format, from the state's own view of it (R487 to R503). -/

section
variable {s : State} {a b : Word} {rd : BitVec 3} (hab : a = b)
include hab

theorem thumbLoad_odd {k : LoadKind} (hk : k.size = .half) (odd : b.toNat % 2 = 1) :
    thumbLoad k rd a s = .refused .oddHalfword := by
  rw [thumbLoad, loadInto, hab, hk, oddHalf_half, decide_eq_true odd, if_pos rfl]

theorem thumbStore_odd (odd : b.toNat % 2 = 1) : thumbStore .half rd a s = .refused .oddHalfword := by
  rw [thumbStore, storeFrom, hab, oddHalf_half, decide_eq_true odd, if_pos rfl]

variable (hs : s.direct = true) (hr : s.room = true)
include hs hr

/-- The register takes what the kind of the load makes of the item. -/
theorem thumbLoad_takes {k : LoadKind} {v : Word} (even : oddHalf k.size b = false)
    (value : k.value (s.memItem k.size b) b = v) :
    thumbLoad k rd a s = .next { s.setReg (lowReg rd) v with pc := s.pc + s.ilen } := by
  rw [thumbLoad, loadInto, hab, even, if_neg Bool.false_ne_true, load_transferAddr hs]
  change loadWrite (lowReg rd) (k.value (s.memItem k.size b) b) s = _
  rw [loadWrite, if_neg (lowReg_ne_pc rd), value, finish_setReg _ v hr]

theorem thumbStore_gives {sz : Size} (even : oddHalf sz b = false) :
    thumbStore sz rd a s =
      .next { s with mem := s.memStored sz b (s.reg (lowReg rd)), pc := s.pc + s.ilen } := by
  rw [thumbStore, storeFrom, hab, even, if_neg Bool.false_ne_true, State.storedReg, if_neg (lowReg_ne_pc rd),
    store_transferAddr hs]
  exact finish_of_same hr rfl rfl rfl

end

/-- Settles O31: each load and store at the address of its format, and its value by the kind of the load. -/
theorem thumbTransfers : Obligations.ThumbTransfers := by
  constructor
  · intro ro rb rd imm5 imm8 s hs hr base sum put
    have takes {a b v : Word} {k : LoadKind} (hab : a = b) := thumbLoad_takes (rd := rd) (k := k) (v := v) hab hs hr
    have word {a b : Word} (hab : a = b) := takes (k := .word) hab rfl (rotateLoaded_eq (memWord s.mem b) b)
    have byte {a b : Word} (hab : a = b) := takes (k := .byte) hab rfl rfl
    have half {a b : Word} (hab : a = b) (even : b.toNat % 2 = 0) := takes (k := .half) hab (oddHalf_even .half even) rfl
    have odd {a b : Word} (k : LoadKind) (hk : k.size = .half) (hab : a = b) (h : b.toNat % 2 = 1) :=
      thumbLoad_odd (s := s) (rd := rd) hab hk h
    simp only [List.forall_mem_cons, List.not_mem_nil, false_implies, implies_true, and_true]
    refine ⟨⟨word (pcAddr_eq s imm8), word rfl, word (immAddr_eq s rb imm5 4), word (spAddr_eq s imm8)⟩,
      ⟨byte rfl, byte (byteAddr_eq s rb imm5)⟩, takes (k := .signedByte) rfl rfl rfl,
      ⟨⟨half rfl, odd .half rfl rfl⟩, half (immAddr_eq s rb imm5 2), odd .half rfl (immAddr_eq s rb imm5 2)⟩,
      fun even => takes (k := .signedHalf) rfl (oddHalf_even .half even) rfl, odd .signedHalf rfl rfl⟩
  · intro ro rb rd imm5 imm8 s hs hr base sum v
    have gives {a b : Word} (sz : Size) (hab : a = b) := thumbStore_gives (rd := rd) (sz := sz) hab hs hr
    have half {a b : Word} (hab : a = b) (even : b.toNat % 2 = 0) := gives .half hab (oddHalf_even .half even)
    have odd {a b : Word} (hab : a = b) (h : b.toNat % 2 = 1) := thumbStore_odd (s := s) (rd := rd) hab h
    simp only [List.forall_mem_cons, List.not_mem_nil, false_implies, implies_true, and_true]
    exact ⟨⟨gives .word rfl rfl, gives .word (immAddr_eq s rb imm5 4) rfl, gives .word (spAddr_eq s imm8) rfl,
        gives .byte rfl rfl, gives .byte (byteAddr_eq s rb imm5) rfl⟩,
      ⟨half rfl, odd rfl⟩, half (immAddr_eq s rb imm5 2), odd (immAddr_eq s rb imm5 2)⟩

end Sys2Proof.Machine
end

section
/-!
PROOFS. The Thumb block transfers of a machine at rest: every listed register is loaded or stored, and the base moves
past the words.
-/

namespace Sys2Proof.Machine

theorem direct_unbuffered {s : State} (h : s.direct = true) : s.unbuffered := by
  obtain ⟨active, dbgen, -, -, cache, buffer, -⟩ := (direct_iff s).mp h
  refine ⟨?_, cache, buffer⟩
  rw [State.undebugged, active, dbgen]
  rfl

theorem direct_letsOut {s : State} (h : s.direct = true) (a : Word) (write : Bool) : s.letsOut a write := by
  obtain ⟨-, -, unit, -, -, -, errors⟩ := (direct_iff s).mp h
  refine ⟨false, checkAccess_off unit .data a write _, ?_⟩
  rw [errors]
  rfl

/-! A block load that completes, with what it holds back. -/

/-- The loaded word of the base register `rn`, once the listed registers below `n` have been loaded (R351). -/
def loadedWord (mem : Memory) (rn : BitVec 4) (list : BitVec 16) (start : Word) (n : Nat) : Option Word :=
  if rn.toNat < n ∧ list.getLsbD rn.toNat = true then some (memWord mem (slotAddr start list rn.toNat)) else none

section
variable {mem : Memory} {rn : BitVec 4} {list : BitVec 16} {start : Word} {n : Nat}

theorem loadedWord_succ_base (hn : n ≤ 15) (h : BitVec.ofNat 4 n = rn) (listed : list.getLsbD n = true) :
    loadedWord mem rn list start (n + 1) = some (memWord mem (slotAddr start list n)) := by
  have place : rn.toNat = n := h ▸ toNat_ofNat_register hn
  rw [loadedWord, place, if_pos ⟨Nat.lt_succ_self n, listed⟩]

theorem loadedWord_succ_other (h : BitVec.ofNat 4 n ≠ rn ∨ list.getLsbD n = false) :
    loadedWord mem rn list start (n + 1) = loadedWord mem rn list start n := by
  have same : rn.toNat < n + 1 ∧ list.getLsbD rn.toNat = true ↔ rn.toNat < n ∧ list.getLsbD rn.toNat = true := by
    refine and_congr_left fun listed => ⟨fun below => ?_, fun below => by omega⟩
    refine Nat.lt_of_le_of_ne (Nat.le_of_lt_succ below) fun e => ?_
    subst e
    rcases h with apart | unlisted
    · exact apart (by rw [BitVec.ofNat_toNat, BitVec.setWidth_eq])
    · exact absurd listed (ne_true_of_eq_false unlisted)
  rw [loadedWord, loadedWord]
  simp only [same]

end

section
variable {s : State} (hs : s.direct = true) {rn : BitVec 4} {list : BitVec 16} {start : Word}
include hs

/-- The listed registers below `n`, which are none of them the pc. -/
theorem loadMany_below {n : Nat} (hn : n ≤ 15) (rest : List (BitVec 4)) :
    loadMany s.mode (· == rn) ((picked list.getLsbD n).map (BitVec.ofNat 4) ++ rest) start
        { pc := none, base := none } s =
      loadMany s.mode (· == rn) rest (slotAddr start list n)
        { pc := none, base := loadedWord s.mem rn list start n }
        { s with regs := loadedRegs s s.mode (· == rn) list start n } := by
  induction n generalizing rest with
  | zero => exact congrArg (loadMany s.mode (· == rn) rest · _ s) (BitVec.add_zero start).symm
  | succ n ih =>
    have run := ih (by omega)
    simp only [slotAddr_eq_pickedAddr] at run ⊢
    cases listed : list.getLsbD n with
    | false =>
      rw [picked_succ_neg listed, run, pickedAddr_succ_neg start listed, loadedRegs, listed,
        loadedWord_succ_other (.inr listed)]
      rfl
    | true =>
      let t := { s with regs := loadedRegs s s.mode (· == rn) list start n }
      have word : load (wordAddr (pickedAddr list.getLsbD start n)) .word t.privileged t =
          .done (memWord s.mem (slotAddr start list n)) t := load_transferAddr (s := t) hs .word ..
      rw [picked_succ_pos listed, List.map_append, List.append_assoc, run, pickedAddr_succ_pos start listed,
        loadedRegs, listed, List.map_singleton, List.singleton_append, loadMany, word]
      simp only [if_neg (ofNat_ne_pc (show n < 15 by omega))]
      by_cases base : BitVec.ofNat 4 n = rn
      · rw [loadedWord_succ_base (by omega) base listed, beq_iff_eq.mpr base]
        rfl
      · rw [loadedWord_succ_other (.inl base), beq_eq_false_iff_ne.mpr base]
        rfl

/-- A block load of the current mode: every register but the base and the pc takes its word. -/
theorem loadMany_completes :
    loadMany s.mode (· == rn) (regsOf list) start { pc := none, base := none } s =
      .done { pc := if list.getLsbD 15 then some (memWord s.mem (slotAddr start list 15)) else none
              base := loadedWord s.mem rn list start 15 }
        { s with regs := loadedRegs s s.mode (· == rn) list start 15 } := by
  rw [regsOf_eq_picked]
  cases listed : list.getLsbD 15 with
  | false =>
    have run := loadMany_below hs (rn := rn) (list := list) (start := start) (Nat.le_refl 15) []
    rw [List.append_nil] at run
    rw [picked_succ_neg listed, run]
    rfl
  | true =>
    let t := { s with regs := loadedRegs s s.mode (· == rn) list start 15 }
    have word : load (wordAddr (slotAddr start list 15)) .word t.privileged t =
        .done (memWord s.mem (slotAddr start list 15)) t := by
      rw [load_letsOut (s := t) (direct_unbuffered hs) (direct_letsOut hs _ _), memWord_wordAddr]
    rw [picked_succ_pos listed, List.map_append, loadMany_below hs (Nat.le_refl 15), List.map_singleton, loadMany, word]
    rfl

end

/-! A block store that completes. -/

theorem storeMany_completes {s : State} (hs : s.direct = true) (list : BitVec 16) (word : BitVec 4 → Word)
    (start : Word) :
    storeMany ((regsOf list).map word) start false s =
      .done () { s with mem := storedMem s.mem list.getLsbD (fun n => word (BitVec.ofNat 4 n)) start 16 } := by
  have words : (regsOf list).map word = (picked list.getLsbD 16).map fun n => word (BitVec.ofNat 4 n) := List.map_map ..
  obtain ⟨join, run⟩ := storeMany_letOut (direct_unbuffered hs) (P := list.getLsbD) (n := 16)
    (word := fun n => word (BitVec.ofNat 4 n)) (start := start) (fun _ _ _ => direct_letsOut hs _ _) false
  rw [words, ← List.append_nil (List.map _ _), run]
  rfl

section
variable {mem : Memory} (hm : mem.wf = true) {list : BitVec 16} {word : BitVec 4 → Word} {start : Word}
include hm

theorem storedMem_listed {i : BitVec 4} (listed : list.getLsbD i.toNat = true) :
    memWord (storedMem mem list.getLsbD (fun n => word (BitVec.ofNat 4 n)) start 16) (slotAddr start list i.toNat) =
      word i := by
  rw [slotAddr_eq_pickedAddr, storedMem_at hm (Nat.le_refl 16) i.isLt listed, BitVec.ofNat_toNat, BitVec.setWidth_eq]

end

/-! The lists of the Thumb block transfers (R504 to R507). -/

theorem lowReg_toNat (r : BitVec 3) : (lowReg r).toNat = r.toNat := by
  revert r
  decide

theorem lowList_getLsbD (rlist : BitVec 8) (i : Nat) : (lowList rlist).getLsbD i = rlist.getLsbD i := by
  change BitVec.getLsbD (w := 8 + 8) (0#8 ++ rlist) i = _
  rw [BitVec.getLsbD_append]
  split_ifs with low
  · rfl
  · rw [BitVec.getLsbD_zero, BitVec.getLsbD_of_ge rlist i (Nat.le_of_not_lt low)]

theorem popList_getLsbD (r : BitVec 1) (rlist : BitVec 8) {i : Nat} (h : i < 15) :
    (popList r rlist).getLsbD i = rlist.getLsbD i := by
  change BitVec.getLsbD (w := 1 + 7 + 8) (r ++ 0#7 ++ rlist) i = _
  rw [BitVec.getLsbD_append, BitVec.getLsbD_append]
  split_ifs with low mid
  · rfl
  · rw [BitVec.getLsbD_zero, BitVec.getLsbD_of_ge rlist i (Nat.le_of_not_lt low)]
  · omega

theorem popList_pc (r : BitVec 1) (rlist : BitVec 8) : (popList r rlist).getLsbD 15 = (r == 1#1) := by
  change BitVec.getLsbD (w := 1 + 7 + 8) (r ++ 0#7 ++ rlist) 15 = _
  rw [BitVec.getLsbD_append, BitVec.getLsbD_append, if_neg (by decide), if_neg (by decide)]
  revert r
  decide

theorem lowList_ne_zero {rlist : BitVec 8} (h : rlist ≠ 0#8) : lowList rlist ≠ 0#16 := by
  intro e
  refine h (BitVec.eq_of_getLsbD_eq fun i hi => ?_)
  rw [← lowList_getLsbD, e, BitVec.getLsbD_zero, BitVec.getLsbD_zero]

/-! The register file after a block load (R505, R507). -/

/-- The register file after a block load whose base `rn` ends with `base`. -/
def blockRegs (s : State) (rn : BitVec 4) (list : BitVec 16) (start base : Word) : RegFile :=
  (loadedRegs s s.mode (· == rn) list start 15).set (regIndex s.mode rn) base

section
variable {s : State} {rn : BitVec 4} {list : BitVec 16} {start base : Word}

theorem blockRegs_base : (blockRegs s rn list start base)[regIndex s.mode rn] = base := Vector.getElem_set_self _

theorem blockRegs_listed (hn : rn ≠ 15#4) {i : BitVec 4} (hi : i.toNat < 15) (listed : list.getLsbD i.toNat = true)
    (apart : i ≠ rn) :
    (blockRegs s rn list start base)[regIndex s.mode i] = memWord s.mem (slotAddr start list i.toNat) := by
  have places : regIndex s.mode rn ≠ regIndex s.mode i :=
    fun e => apart ((regIndex_inj s.mode rn i hn (ne_pc_of_lt hi)).mp e).symm
  exact (Vector.getElem_set_ne _ _ fun e => places (Fin.ext e)).trans
    (loadedRegs_at (Nat.le_refl 15) hi listed (beq_eq_false_iff_ne.mpr apart))

theorem blockRegs_other {k : Fin 30}
    (h : ∀ i : BitVec 4, i.toNat < 15 → list.getLsbD i.toNat = true → regIndex s.mode i ≠ k)
    (apart : regIndex s.mode rn ≠ k) : (blockRegs s rn list start base)[k] = s.regs[k] :=
  (Vector.getElem_set_ne _ _ fun e => apart (Fin.ext e)).trans
    (loadedRegs_other (Nat.le_refl 15) fun j hj listed _ => h j hj listed)

end

/-! The four transfers. -/

theorem emptyList_refused {rn : BitVec 4} {list : BitVec 16} (h : list = 0#16) (k : Result) :
    unlessRefused (blockRefusal rn list) k = .refused .blockForm := unlessRefused_some (if_pos (.inl h))

section
variable {s : State} (hs : s.direct = true) (hr : s.room = true)
include hs hr

theorem execTPop_loads {r : BitVec 1} {rlist : BitVec 8} (hl : popList r rlist ≠ 0#16) :
    execTPop r rlist s =
      .next { s with
        regs := blockRegs s 13#4 (popList r rlist) (s.reg 13#4)
          (s.reg 13#4 + BitVec.ofNat 32 (4 * listedBelow (popList r rlist) 16))
        pc := if r = 1#1 then memWord s.mem (slotAddr (s.reg 13#4) (popList r rlist) 15) &&& 0xFFFFFFFE#32
          else s.pc + s.ilen } := by
  rw [execTPop, unlessRefused_none (blockRefusal_none hl (by decide)), loadMany_completes hs, popList_pc, listBytes_eq]
  rcases bit_cases r with rfl | rfl
  · exact finish_of_same hr rfl rfl rfl
  · rfl

theorem execTLdmia_loads {rb : BitVec 3} {rlist : BitVec 8} (hl : rlist ≠ 0#8) :
    execTLdmia rb rlist s =
      .next { s with
        regs := blockRegs s (lowReg rb) (lowList rlist) (s.reg (lowReg rb))
          ((loadedWord s.mem (lowReg rb) (lowList rlist) (s.reg (lowReg rb)) 15).getD
            (s.reg (lowReg rb) + BitVec.ofNat 32 (4 * listedBelow (lowList rlist) 16)))
        pc := s.pc + s.ilen } := by
  rw [execTLdmia, unlessRefused_none (blockRefusal_none (lowList_ne_zero hl) (lowReg_ne_pc rb)), loadMany_completes hs,
    listBytes_eq]
  exact finish_of_same hr rfl rfl rfl

theorem execTPush_stores {r : BitVec 1} {rlist : BitVec 8} (hl : pushList r rlist ≠ 0#16) :
    execTPush r rlist s =
      .next { s.setReg 13#4 (s.reg 13#4 - BitVec.ofNat 32 (4 * listedBelow (pushList r rlist) 16)) with
        mem := storedMem s.mem (pushList r rlist).getLsbD (fun n => s.reg (BitVec.ofNat 4 n))
          (s.reg 13#4 - BitVec.ofNat 32 (4 * listedBelow (pushList r rlist) 16)) 16
        pc := s.pc + s.ilen } := by
  rw [execTPush, unlessRefused_none (blockRefusal_none hl (by decide)), storeMany_completes hs, listBytes_eq]
  exact finish_of_same hr rfl rfl rfl

theorem execTStmia_stores {rb : BitVec 3} {rlist : BitVec 8} (hl : rlist ≠ 0#8)
    (lowest : rlist.getLsbD rb.toNat = true → ∀ j, j < rb.toNat → rlist.getLsbD j = false) :
    execTStmia rb rlist s =
      .next { s.setReg (lowReg rb) (s.reg (lowReg rb) + BitVec.ofNat 32 (4 * listedBelow (lowList rlist) 16)) with
        mem := storedMem s.mem (lowList rlist).getLsbD (fun n => s.storedReg (BitVec.ofNat 4 n)) (s.reg (lowReg rb)) 16
        pc := s.pc + s.ilen } := by
  have form : storedBaseRefusal 1#1 (lowReg rb) (lowList rlist) = none := by
    refine storedBaseRefusal_lowest fun _ => ?_
    simpa only [lowList_getLsbD, lowReg_toNat] using lowest
  rw [execTStmia, unlessRefused_none (blockRefusal_none (lowList_ne_zero hl) (lowReg_ne_pc rb)),
    unlessRefused_none form, State.stmWords, storeMany_completes hs, listBytes_eq]
  exact finish_of_same hr rfl rfl rfl

end

/-- Settles O32: the loads by their register file, the stores by their memory, and the forms that are refused. -/
theorem thumbBlockTransfers : Obligations.ThumbBlockTransfers := by
  constructor
  · intro r rb rlist s hs hr popped low word
    refine ⟨fun hl => ⟨_, execTPop_loads hs hr hl, fun i hi listed => ?_, blockRegs_base, fun k others base => ?_⟩,
      fun hl => ⟨_, execTLdmia_loads hs hr hl, fun i hi listed => ?_, fun unlisted => ?_, fun k others base => ?_⟩, ?_⟩
    · have listed' := (popList_getLsbD r rlist (show i.toNat < 15 by omega)).trans listed
      refine blockRegs_listed (by decide) (by omega) listed' ?_
      rintro rfl
      exact absurd hi (by decide)
    · refine blockRegs_other (fun i hi listed => ?_) base
      rw [popList_getLsbD r rlist hi] at listed
      exact others i (BitVec.lt_of_getLsbD listed) listed
    · have listed' := (lowList_getLsbD rlist i.toNat).trans listed
      by_cases base : i = lowReg rb
      · rw [base] at listed' hi ⊢
        rw [blockRegs_base, loadedWord, if_pos ⟨by omega, listed'⟩]
        rfl
      · exact blockRegs_listed (lowReg_ne_pc rb) (by omega) listed' base
    · have absent : ¬ ((lowReg rb).toNat < 15 ∧ (lowList rlist).getLsbD (lowReg rb).toNat = true) := by
        rw [lowList_getLsbD, lowReg_toNat, unlisted]
        exact fun h => Bool.false_ne_true h.2
      rw [blockRegs_base, loadedWord, if_neg absent]
      rfl
    · refine blockRegs_other (fun i hi listed => ?_) base
      rw [lowList_getLsbD] at listed
      exact others i (BitVec.lt_of_getLsbD listed) listed
    · rintro rfl
      change execTLdmia rb 0#8 s = _ ∧ execTPop 0#1 0#8 s = _
      exact ⟨emptyList_refused rfl _, emptyList_refused rfl _⟩
  · intro r rb rlist s hs hr hm pushed low bottom outside
    refine ⟨fun hl => ⟨_, execTPush_stores hs hr hl, fun i listed => storedMem_listed hm listed,
        fun a h => storedMem_other hm h⟩, fun listed higher => ?_,
      fun hl lowest => ⟨_, execTStmia_stores hs hr hl lowest, fun i listed => ?_, fun a h => storedMem_other hm h⟩, ?_⟩
    · have form : storedBaseRefusal 1#1 (lowReg rb) (lowList rlist) = some .blockForm := by
        apply storedBaseRefusal_higher
        all_goals simpa only [lowList_getLsbD, lowReg_toNat]
      exact (unlessRefused_orElse ..).trans (unlessRefused_some (blockRefusal_or form))
    · refine (storedMem_listed hm listed).trans (if_neg ?_)
      have listed := (lowList_getLsbD rlist i.toNat).symm.trans listed
      exact ne_pc_of_lt (by have := BitVec.lt_of_getLsbD listed; omega)
    · rintro rfl
      change execTStmia rb 0#8 s = _ ∧ execTPush 0#1 0#8 s = _
      exact ⟨emptyList_refused rfl _, emptyList_refused rfl _⟩

end Sys2Proof.Machine
end

section
/-!
PROOFS. The entry of an exception, and the entry to debug state that follows it where its vector is caught.
-/

namespace Sys2Proof.Machine

section
variable {e : Exc} {s : State} (ha : s.dbg.active = false)
include ha

/-- No debug event waits for the entry: debug is disabled, or no watchpoint is latched and the vector not caught. -/
theorem takeException_uncaught
    (h : s.pins.dbgen = false ∨ s.dbg.watch = .idle ∧ s.ice.vectorCatch.getLsbD e.catchBit = false) :
    takeException e s = exceptionEntry e s := by
  rw [takeException, catchEntry, State.watching, exceptionEntry_dbg, exceptionEntry_ice, exceptionEntry_pins, ha,
    if_neg Bool.false_ne_true]
  rcases h with disabled | ⟨idle, uncaught⟩
  · rw [disabled]
    rfl
  · rw [idle, uncaught, show (WatchPhase.idle != .idle || false) = false from rfl, Bool.and_false,
      if_neg Bool.false_ne_true]

/-- A caught vector: debug state with the pc three addresses past the vector (R607, R617; log 49). -/
theorem takeException_caught (enabled : s.pins.dbgen = true) (idle : s.dbg.watch = .idle)
    (caught : s.ice.vectorCatch.getLsbD e.catchBit = true) :
    takeException e s =
      { exceptionEntry e s with
        pc := (exceptionEntry e s).pc + 12#32
        waiting := false
        tap := { s.tap with sysSpeed := false, wptAndBkpt := false }
        dbg := { DebugCore.idle with active := true } } := by
  have event : catchEntry e (exceptionEntry e s) = enterDebug false false (exceptionEntry e s) := by
    rw [catchEntry, State.watching, exceptionEntry_dbg, exceptionEntry_ice, exceptionEntry_pins, ha, enabled, idle,
      caught]
    rfl
  rw [takeException, event, enterDebug, State.debugLead, exceptionEntry_thumb, exceptionEntry_tap]
  rfl

end

/-- Settles O36: each exception by its entry, which is `State.entered` with the exception's mode, link value and vector
by definition, and which a caught vector carries on into debug state.  (`exceptionEntry` is the model's own function.) -/
theorem exceptionEntry_everyException : Obligations.ExceptionEntry := by
  intro s ha f
  have entry (e : Exc) := And.intro (takeException_uncaught (e := e) ha) (takeException_caught (e := e) ha)
  constructor
  · simp only [List.forall_mem_cons, List.not_mem_nil, false_implies, implies_true, and_true]
    exact ⟨entry .undefined, entry .swi, entry .prefetchAbort, entry .dataAbort, entry .irq, entry .fiq⟩
  · intro disabled
    exact ⟨s.linkOf .reset, takeException_uncaught ha (.inl disabled)⟩

end Sys2Proof.Machine
end

section
/-!
PROOFS. The comparators of the watchpoint units (R612 to R614, R619): a masked comparison bit by bit, and what each unit
and the CHAINOUT latch make of an access.
-/

namespace Sys2Proof.Machine
open Laws

/-- A masked comparison finds no difference where every bit is masked or agrees (R619). -/
theorem maskedDifference_eq_zero_iff {n : Nat} (x v m : BitVec n) :
    (x ^^^ v) &&& ~~~m = 0#n ↔ ∀ i, i < n → m.getLsbD i = true ∨ x.getLsbD i = v.getLsbD i := by
  rw [BitVec.eq_of_getLsbD_eq_iff]
  refine forall_congr' fun i => imp_congr_right fun hi => ?_
  rw [BitVec.getLsbD_and, BitVec.getLsbD_xor, BitVec.getLsbD_not, decide_eq_true hi, BitVec.getLsbD_zero]
  cases m.getLsbD i <;> cases x.getLsbD i <;> cases v.getLsbD i <;> decide

/-! A unit. -/

theorem Watchpoint.selects_iff (w : Watchpoint) (side : Side) :
    w.selects side = true ↔ (w.ctrlValue.getLsbD 3 = true ↔ side = .data) := by
  rw [Watchpoint.selects, beq_iff_eq, Bool.eq_iff_iff, beq_iff_eq]

theorem Watchpoint.dataOk_iff (w : Watchpoint) (d : Word) :
    w.dataOk d = true ↔ ∀ i, i < 32 → w.dataMask.getLsbD i = true ∨ d.getLsbD i = w.dataValue.getLsbD i := by
  rw [Watchpoint.dataOk, beq_iff_eq, maskedDifference_eq_zero_iff]

theorem Watchpoint.ctrlOk_iff (w : Watchpoint) (ctrl : BitVec 8) :
    (ctrl ^^^ w.ctrlValue.extractLsb' 0 8) &&& ~~~w.ctrlMask &&& 0xF7#8 = 0#8 ↔
      ∀ i, i < 8 → i ≠ 3 → w.ctrlMask.getLsbD i = true ∨ ctrl.getLsbD i = w.ctrlValue.getLsbD i := by
  rw [BitVec.and_assoc, show ~~~w.ctrlMask &&& 0xF7#8 = ~~~(w.ctrlMask ||| 8#8) by rw [BitVec.not_or]; rfl,
    maskedDifference_eq_zero_iff]
  refine forall_congr' fun i => imp_congr_right fun hi => ?_
  have third : (8#8).getLsbD i = decide (i = 3) := by
    revert i
    decide
  rw [BitVec.getLsbD_or, third, BitVec.getLsbD_extractLsb', decide_eq_true hi, Bool.true_and, Nat.zero_add]
  by_cases h : i = 3 <;> simp [h]

/-- Address and control match (R619). -/
theorem Watchpoint.addrCtrl_iff (w : Watchpoint) (a : Word) (ctrl : BitVec 8) :
    w.addrCtrl a ctrl = true ↔
      (∀ i, i < 32 → w.addrMask.getLsbD i = true ∨ a.getLsbD i = w.addrValue.getLsbD i) ∧
        ∀ i, i < 8 → i ≠ 3 → w.ctrlMask.getLsbD i = true ∨ ctrl.getLsbD i = w.ctrlValue.getLsbD i := by
  rw [Watchpoint.addrCtrl, Bool.and_eq_true, beq_iff_eq, beq_iff_eq, maskedDifference_eq_zero_iff, w.ctrlOk_iff]

/-- The eight control bits by number (R613). -/
theorem iceCtrl_getLsbD (range chain extern : Bool) (c : BitVec 5) {i : Nat} (hi : i < 8) :
    (iceCtrl range chain extern c).getLsbD i =
      if i = 7 then range else if i = 6 then chain else if i = 5 then extern else c.getLsbD i := by
  change bitAt _ i = _
  rw [iceCtrl]
  simp only [HAppend.hAppend]
  interval_cases i <;>
    simp (decide := true) only [bitAt_append_high, bitAt_append_low, bitAt_ofBool, Nat.reduceSub, if_true, if_false] <;>
    rfl

/-- The unit watches the interface of the access, and its address and control match. -/
theorem Watchpoint.located_iff (w : Watchpoint) (side : Side) (a : Word) (range chain extern : Bool) (c : BitVec 5) :
    (w.selects side && w.addrCtrl a (iceCtrl range chain extern c)) = true ↔
      (w.ctrlValue.getLsbD 3 = true ↔ side = .data) ∧
        (∀ i, i < 32 → w.addrMask.getLsbD i = true ∨ a.getLsbD i = w.addrValue.getLsbD i) ∧
        ∀ i, i < 8 → i ≠ 3 → w.ctrlMask.getLsbD i = true ∨
          (if i = 7 then range else if i = 6 then chain else if i = 5 then extern else c.getLsbD i) =
            w.ctrlValue.getLsbD i := by
  rw [Bool.and_eq_true, w.selects_iff, w.addrCtrl_iff]
  refine and_congr_right fun _ => and_congr_right fun _ => forall_congr' fun i => imp_congr_right fun hi => ?_
  rw [iceCtrl_getLsbD range chain extern c hi]

/-- The bits of a fetch that the spec names: InTRANS and ITBIT (R614). -/
theorem fetchCtrl_bits (s : State) : (fetchCtrl s).getLsbD 4 = s.privileged ∧ (fetchCtrl s).getLsbD 1 = s.thumb := by
  change bitAt _ 4 = _ ∧ bitAt _ 1 = _
  simp only [fetchCtrl, HAppend.hAppend]
  simp (decide := true) only [bitAt_append_high, bitAt_append_low, bitAt_ofBool, Nat.reduceSub, and_self]

/-- The bits of a data access: DnTRANS, DnRW and DMAS (R613; log 35). -/
theorem dataCtrl_bits (sz : Size) (write priv : Bool) :
    (dataCtrl sz write priv).getLsbD 4 = priv ∧ (dataCtrl sz write priv).getLsbD 0 = write ∧
      (dataCtrl sz write priv).extractLsb' 1 2 =
        match sz with | .byte => 0b00#2 | .half => 0b01#2 | .word => 0b10#2 := by
  revert write priv
  cases sz <;> decide

/-! What the debugger writes to the control registers (R613). -/

theorem Ice.unit_setUnit (ice : Ice) (unit1 : Bool) (w : Watchpoint) :
    (ice.setUnit unit1 w).unit unit1 = w ∧ (ice.setUnit unit1 w).unit (!unit1) = ice.unit (!unit1) := by
  cases unit1 <;> exact ⟨rfl, rfl⟩

/-- A write of a control value: that unit, and the CHAINOUT latch where it is unit 1 (log 42). -/
theorem iceWrite_ctrlValue (unit1 : Bool) (v : Word) (s : State) :
    ∃ t, iceWrite (.ctrlValue unit1) v s = .next t ∧ (t.ice.unit unit1).ctrlValue = v.extractLsb' 0 9 ∧
      t.ice.unit (!unit1) = s.ice.unit (!unit1) ∧ t.ice.chainOut = (!unit1 && s.ice.chainOut) := by
  cases unit1 <;> exact ⟨_, rfl, rfl, rfl, rfl⟩

/-- A write of a control mask: bit 3 is always clear. -/
theorem iceWrite_ctrlMask (unit1 : Bool) (v : Word) (s : State) :
    ∃ t, iceWrite (.ctrlMask unit1) v s = .next t ∧ (t.ice.unit unit1).ctrlMask.getLsbD 3 = false ∧
      (∀ i, i < 8 → i ≠ 3 → (t.ice.unit unit1).ctrlMask.getLsbD i = v.getLsbD i) ∧
      t.ice.unit (!unit1) = s.ice.unit (!unit1) := by
  obtain ⟨same, other⟩ := s.ice.unit_setUnit unit1
    { s.ice.unit unit1 with ctrlMask := v.extractLsb' 0 8 &&& 0xF7#8 }
  have kept : ∀ i < 8, i ≠ 3 → (0xF7#8).getLsbD i = true := by decide
  refine ⟨_, rfl, ?_, fun i hi h3 => ?_, other⟩
  all_goals rw [same, BitVec.getLsbD_and]
  · exact Bool.and_false _
  · rw [kept i hi h3, Bool.and_true, BitVec.getLsbD_extractLsb', decide_eq_true hi, Bool.true_and, Nat.zero_add]

/-- Settles O57: each unit by its masked comparisons, the latch by the case it is in, the registers by their writes. -/
theorem comparatorsMatch : Obligations.ComparatorsMatch := by
  intro s side a d c agree located bits ctrl1 ctrl0 data
  have located1 : (s.ice.wp1.selects side && s.ice.wp1.addrCtrl a (iceCtrl1 s c)) = true ↔ located s.ice.wp1 ctrl1 :=
    s.ice.wp1.located_iff ..
  have located0 : (s.ice.wp0.selects side && s.ice.wp0.addrCtrl a (iceCtrl0 s side a d c)) = true ↔
      located s.ice.wp0 ctrl0 := s.ice.wp0.located_iff ..
  refine ⟨?_, ?_, ?_, fun low => ?_, fun high hl => ?_, fun high hl => ?_, dataCtrl_bits, (fetchCtrl_bits s).1,
    (fetchCtrl_bits s).2, fun unit1 v => ⟨iceWrite_ctrlValue unit1 v s, iceWrite_ctrlMask unit1 v s⟩⟩
  · rw [rangeOut1, Bool.and_eq_true, located1, s.ice.wp1.dataOk_iff]
  · rw [rangeOut0, Bool.and_eq_true, located0, s.ice.wp0.dataOk_iff]
  · rw [iceMatch, Bool.or_eq_true, Bool.and_eq_true, Bool.and_eq_true]
    rfl
  · rw [chainNext, low, Bool.false_and]
  · rw [chainNext, high, Bool.true_and, if_pos (located1.mpr hl), s.ice.wp1.dataOk_iff]
  · rw [chainNext, high, Bool.true_and, if_neg fun h => hl (located1.mp h)]

end Sys2Proof.Machine
end

section
/-!
PROOFS. A reset from the pins: the step that holds the core, and the step that leaves the reset state.
-/

namespace Sys2Proof.Machine
open Laws

/-! The state that reset leaves (R662, R663). -/

theorem Cache.afterReset_line_valid (dirty : Bool) (n : Nat) (g : Fin 4) (idx : Fin 64) :
    ((Cache.afterReset dirty n).line g idx).valid = false := by
  simp [Cache.line, Cache.afterReset, Line.afterReset]

theorem regionsAfterReset_enable (n : Nat) (i : Fin 8) : (regionsAfterReset n)[i].enable = false := by
  simp [regionsAfterReset]

theorem Cp15.afterReset_enable (v : Bool) (n : Nat) (side : Side) (i : Fin 8) :
    ((Cp15.afterReset v n).regions side)[i].enable = false := by
  cases side <;> exact regionsAfterReset_enable ..

theorem Cp15.afterReset_control (v : Bool) (n : Nat) :
    (Cp15.afterReset v n).stated .control = if v then 0x00002000#32 else 0#32 := by
  change (Cp15.reset v).stated .control = _
  cases v <;> decide

theorem Cp15.afterReset_vector (v : Bool) (n : Nat) :
    (Cp15.afterReset v n).vectorBase + Exc.reset.offset = if v then 0xFFFF0000#32 else 0#32 := by
  cases v <;> rfl

theorem Cp15.afterReset_cleared (v : Bool) (n : Nat) :
    ∀ r ∈ ([.cachable .data, .cachable .instr, .bufferable, .lockdown .data, .lockdown .instr, .test] : List SysReg),
      (Cp15.afterReset v n).stated r = 0#32 := by
  have cleared : ∀ r ∈ ([.cachable .data, .cachable .instr, .bufferable, .lockdown .data, .lockdown .instr, .test] :
      List SysReg), (Cp15.reset v).stated r = 0#32 := by
    cases v <;> decide
  simp only [List.forall_mem_cons, List.not_mem_nil, false_implies, implies_true, and_true] at cleared ⊢
  exact cleared

/-- Supervisor mode in ARM state with both interrupts disabled (R540). -/
theorem entryStatus_reset (w : Word) : (entryStatus w .reset).extractLsb' 0 8 = 0b11010011#8 := by
  rw [entryStatus, if_pos (.inl rfl)]
  change (w.extractLsb' 8 24 ++ 1#1 ++ 1#1 ++ 0#1 ++ modeSvc).extractLsb' 0 8 = _
  simp only [HAppend.hAppend]
  apply BitVec.eq_of_getLsbD_eq
  intro i hi
  rw [BitVec.getLsbD_extractLsb', decide_eq_true hi, Bool.true_and, Nat.zero_add]
  change bitAt _ i = _
  interval_cases i <;>
    simp (decide := true) only [bitAt_append_high, bitAt_append_low, Nat.reduceSub]

/-! The two steps of a reset (log 34). -/

section
variable {s : State} (h : s.inputs = [])
include h

theorem step_without_inputs : step s = advance { s with instrExec := false } := by
  unfold step stepOnce
  simp only [h]

theorem step_reset_held (low : s.pins.bnRES = false) :
    step s = .next { s with resetHeld := true, instrExec := false } := by
  rw [step_without_inputs h, advance, low]
  rfl

theorem step_reset_entry (high : s.pins.bnRES = true) (held : s.resetHeld = true) :
    step s = .next (resetEntry { s with instrExec := false }) := by
  rw [step_without_inputs h, advance, high, held]
  rfl

end

/-- What the claim names of the state `t` that reset leaves from `s`. -/
structure ResetFrom (s t : State) : Prop where
  status : t.cpsr.extractLsb' 0 8 = 0b11010011#8
  pc : t.pc = if s.pins.vinithi then 0xFFFF0000#32 else 0#32
  cp15 : t.cp15 = Cp15.afterReset s.pins.vinithi (s.draws + 36)
  icache : t.icache = Cache.afterReset false (s.draws + 100)
  dcache : t.dcache = Cache.afterReset true (s.draws + 1500)
  wbuf : t.wbuf = []
  waiting : t.waiting = false
  dbg : t.dbg = DebugCore.idle
  resetHeld : t.resetHeld = false
  mem : t.mem = s.mem
  tap : t.tap = s.tap
  ice : t.ice = s.ice

theorem exceptionEntry_resetFrom (s : State) : ResetFrom s (exceptionEntry .reset (resetState s)) where
  status := entryStatus_reset _
  pc := Cp15.afterReset_vector ..
  cp15 := exceptionEntry_cp15 ..
  icache := exceptionEntry_icache ..
  dcache := exceptionEntry_dcache ..
  wbuf := exceptionEntry_wbuf ..
  waiting := exceptionEntry_waiting ..
  dbg := exceptionEntry_dbg ..
  resetHeld := exceptionEntry_resetHeld ..
  mem := by simp only [exceptionEntry_mem, resetState]
  tap := by simp only [exceptionEntry_tap, resetState]
  ice := by simp only [exceptionEntry_ice, resetState]

/-- The free SPSR_svc of reset is none of it. -/
theorem ResetFrom.freeSpsr {s t : State} (h : ResetFrom s t) (v : Word) (n : Nat) :
    ResetFrom s { t with spsrSvc := v, draws := n } :=
  ⟨h.status, h.pc, h.cp15, h.icache, h.dcache, h.wbuf, h.waiting, h.dbg, h.resetHeld, h.mem, h.tap, h.ice⟩

/-- The Reset exception is entered from the state that reset leaves, and its vector is not caught. -/
theorem resetEntry_resetFrom {s : State} (h : s.pins.dbgen = false ∨ s.ice.vectorCatch.getLsbD 0 = false) :
    ResetFrom s (resetEntry s) := by
  have entry : takeException .reset (resetState s) = exceptionEntry .reset (resetState s) :=
    takeException_uncaught (e := .reset) (s := resetState s) rfl (h.imp_right fun h => ⟨rfl, h⟩)
  rw [resetEntry, entry]
  exact (exceptionEntry_resetFrom s).freeSpsr _ _

/-- Settles O38: the two steps, and the reset state field by field. -/
theorem resetFromThePins : Obligations.ResetFromThePins := by
  intro s hi
  refine ⟨step_reset_held hi, fun high held uncaught => ⟨_, step_reset_entry hi high held, ?_⟩⟩
  obtain ⟨status, pc, cp15, icache, dcache, wbuf, waiting, dbg, resetHeld, mem, tap, ice⟩ :=
    resetEntry_resetFrom (s := { s with instrExec := false }) uncaught
  rw [cp15, icache, dcache, dbg]
  exact ⟨status, pc, Cp15.afterReset_control .., Cp15.afterReset_cleared _ _, Cp15.afterReset_enable _ _,
    fun g idx => ⟨Cache.afterReset_line_valid .., Cache.afterReset_line_valid ..⟩, wbuf, waiting, rfl, resetHeld, mem, tap,
    ice⟩

end Sys2Proof.Machine
end

section
/-!
PROOFS. The scan chains under INTEST: what each chain makes of the value shifted in, by the fields of that value.
-/

namespace Sys2Proof.Machine
open Laws

/-! A scan under INTEST by the selected chain (R592). -/

theorem scanDr_intest {s : State} (h : s.tap.ir = 0b1100#4) (v : BitVec 67) : scanDr v s = scanIntest v s := by
  rw [scanDr, h]
  rfl

section
variable {s : State} {chain : BitVec 5} (h : s.tap.chain = chain) (v : BitVec 67)
include h

theorem scanIntest_one (hc : chain = 1#5) :
    scanIntest v s =
      .next { s.draw.2 with tap := { s.tap.setCells1 v with out := s.tap.captured1 s.draw.1 } } := by
  rw [scanIntest, h, hc]
  rfl

theorem scanIntest_icache (hc : chain = 4#5) :
    scanIntest v s =
      match camRead s.icache false (v.extractLsb' 0 29) with
      | none => .refused .debugPort
      | some r => .next { s with tap := { s.tap with out := s.tap.scan4.zeroExtend 67, scan4 := r } } := by
  rw [scanIntest, h, hc]
  rfl

theorem scanIntest_dcache (hc : chain = 5#5) :
    scanIntest v s =
      match camRead s.dcache true (v.extractLsb' 0 29) with
      | none => .refused .debugPort
      | some r => .next { s with tap := { s.tap with out := s.tap.scan5.zeroExtend 67, scan5 := r } } := by
  rw [scanIntest, h, hc]
  rfl

theorem scanIntest_fifteen (hc : chain = 15#5) :
    scanIntest v s = update15 (v.extractLsb' 0 39) (s.setOut (s.tap.scan15.zeroExtend 67)) := by
  rw [scanIntest, h, hc]
  rfl

/-- Chain 3 and the unassigned chains are outside the macrocell (R595). -/
theorem scanIntest_external (hc : chain = 3#5 ∨ 16 ≤ chain.toNat) :
    scanIntest v s = .next (scanExternal v s) := by
  have external : externalChain chain = true := by
    rw [externalChain, Bool.or_eq_true, beq_iff_eq, decide_eq_true_eq]
    exact hc
  have outside : chain.toNat = 3 ∨ 16 ≤ chain.toNat := hc.imp_left fun e => by rw [e]; rfl
  rw [scanIntest, h]
  split
  case h_6 => exact if_pos external
  all_goals omega

end

/-! Scan chain 1 (R596). -/

theorem reverse_getLsbD (w : Word) {i : Nat} (hi : i < 32) : w.reverse.getLsbD i = w.getLsbD (31 - i) := by
  rw [BitVec.getLsbD_reverse, BitVec.getMsbD_eq_getLsbD, decide_eq_true hi, Bool.true_and]

/-- The debug data cells run against the order of the scan. -/
theorem setCells1_dd (t : Tap) (v : BitVec 67) {i : Nat} (hi : i < 32) :
    (t.setCells1 v).dd.getLsbD (31 - i) = v.getLsbD (35 + i) := by
  rw [Tap.setCells1, reverse_getLsbD _ (by omega), BitVec.getLsbD_extractLsb', decide_eq_true (by omega), Bool.true_and]
  congr 1
  omega

/-- The control and data cells as they are shifted out, whatever the instruction cells captured (log 58). -/
theorem captured1_getLsbD (t : Tap) (id : Word) :
    (t.captured1 id).getLsbD 32 = t.sysSpeed ∧ (t.captured1 id).getLsbD 33 = t.wptAndBkpt ∧
      (t.captured1 id).getLsbD 34 = t.ddEn ∧
      ∀ i, i < 32 → (t.captured1 id).getLsbD (35 + i) = t.dd.getLsbD (31 - i) := by
  have cell (k : Nat) : (t.captured1 id).getLsbD k = bitAt
      (t.dd.reverse ++ BitVec.ofBool t.ddEn ++ BitVec.ofBool t.wptAndBkpt ++ BitVec.ofBool t.sysSpeed ++ id) k := rfl
  simp only [cell, HAppend.hAppend]
  refine ⟨?_, ?_, ?_, fun i hi => ?_⟩
  · simp (decide := true) only [bitAt_append_high, bitAt_append_low, bitAt_ofBool, Nat.reduceSub]
  · simp (decide := true) only [bitAt_append_high, bitAt_append_low, bitAt_ofBool, Nat.reduceSub]
  · simp (decide := true) only [bitAt_append_high, bitAt_append_low, bitAt_ofBool, Nat.reduceSub]
  · rw [bitAt_append_high _ _ (by omega), bitAt_append_high _ _ (by omega), bitAt_append_high _ _ (by omega),
      bitAt_append_high _ _ (by omega), show 35 + i - 32 - 1 - 1 - 1 = i by omega]
    exact reverse_getLsbD _ hi

/-! Scan chains 4 and 5 (R599): the fields of the value shifted in are those of the register's 29 bits. -/

theorem extractLsb'_low {n : Nat} (v : BitVec n) {m lo k : Nat} (h : lo + k ≤ m) :
    (v.extractLsb' 0 m).extractLsb' lo k = v.extractLsb' lo k := by
  apply BitVec.eq_of_getLsbD_eq
  intro i hi
  simp only [BitVec.getLsbD_extractLsb', hi, decide_true, Bool.true_and, Nat.zero_add]
  rw [decide_eq_true (by omega), Bool.true_and]

theorem getLsbD_low {n : Nat} (v : BitVec n) {m i : Nat} (h : i < m) : (v.extractLsb' 0 m).getLsbD i = v.getLsbD i := by
  rw [BitVec.getLsbD_extractLsb', decide_eq_true h, Bool.true_and, Nat.zero_add]

theorem zeroExtend_low {n m : Nat} (x : BitVec n) (h : n ≤ m) : (x.zeroExtend m).extractLsb' 0 n = x := by
  apply BitVec.eq_of_getLsbD_eq
  intro i hi
  rw [getLsbD_low _ hi, BitVec.zeroExtend_eq_setWidth, BitVec.getLsbD_setWidth, decide_eq_true (by omega),
    Bool.true_and]

/-- What chains 4 and 5 hold of a cache line. -/
def camEntry (dirty : Bool) (l : Line) : BitVec 29 :=
  BitVec.ofBool l.valid ++ BitVec.ofBool (dirty && l.dirty) ++ Config.camTag l.tag

/-- The 67 bits that ask for line `idx` of segment `g`. -/
def camAddress (g : BitVec 2) (idx : BitVec 6) : BitVec 67 := 0#39 ++ idx ++ 0#20 ++ g

/-- An address of a line reads that line. -/
theorem camRead_address (c : Cache) (dirty : Bool) (g : BitVec 2) (idx : BitVec 6) :
    camRead c dirty ((camAddress g idx).extractLsb' 0 29) =
      some (camEntry dirty (c.line ⟨g.toNat, g.isLt⟩ (lineIdx idx))) := by
  have top : (camAddress g idx).getLsbD 28 = false := by
    change bitAt (_ ++ _ ++ _ ++ _) 28 = _
    simp only [HAppend.hAppend]
    simp (decide := true) only [bitAt_append_high, bitAt_zero, Nat.reduceSub]
  have middle {lo k : Nat} (hlo : 2 ≤ lo) (hk : lo + k ≤ 22) : (camAddress g idx).extractLsb' lo k = 0#k := by
    change fld (_ ++ _ ++ _ ++ _) lo k = _
    simp only [HAppend.hAppend]
    rw [fld_append_high _ _ hlo, fld_append_low _ _ (by omega)]
    exact BitVec.extractLsb'_zero
  have segment : (camAddress g idx).extractLsb' 0 2 = g := by
    change fld (_ ++ _ ++ _ ++ _) 0 2 = _
    simp only [HAppend.hAppend]
    simp (decide := true) only [fld_append_low, fld_whole]
  have index : (camAddress g idx).extractLsb' 22 6 = idx := by
    change fld (_ ++ _ ++ _ ++ _) 22 6 = _
    simp only [HAppend.hAppend]
    simp (decide := true) only [fld_append_high, fld_append_low, fld_whole, Nat.reduceSub]
  have zeros : (camAddress g idx).extractLsb' 6 16 = 0#16 ∧ (camAddress g idx).extractLsb' 2 4 = 0#4 :=
    ⟨middle (by decide) (by decide), middle (by decide) (by decide)⟩
  simp (decide := true) only [camRead, getLsbD_low, extractLsb'_low, top, zeros, segment, index]
  rfl

section
variable {s : State} (g : BitVec 2) (idx : BitVec 6)

theorem scanIntest_icache_line (hc : s.tap.chain = 4#5) :
    scanIntest (camAddress g idx) s =
      .next { s with
        tap := { s.tap with
          out := s.tap.scan4.zeroExtend 67
          scan4 := camEntry false (s.icache.line ⟨g.toNat, g.isLt⟩ (lineIdx idx)) } } := by
  rw [scanIntest_icache hc _ rfl, camRead_address]

theorem scanIntest_dcache_line (hc : s.tap.chain = 5#5) :
    scanIntest (camAddress g idx) s =
      .next { s with
        tap := { s.tap with
          out := s.tap.scan5.zeroExtend 67
          scan5 := camEntry true (s.dcache.line ⟨g.toNat, g.isLt⟩ (lineIdx idx)) } } := by
  rw [scanIntest_dcache hc _ rfl, camRead_address]

end

/-- The bits that should be zero (R599). -/
theorem camRead_none (c : Cache) (dirty : Bool) {v : BitVec 67}
    (h : v.getLsbD 28 = true ∨ v.extractLsb' 6 16 ≠ 0#16 ∨ v.extractLsb' 2 4 ≠ 0#4) :
    camRead c dirty (v.extractLsb' 0 29) = none := by
  rw [camRead, getLsbD_low v (by decide), extractLsb'_low v (by decide), extractLsb'_low v (by decide)]
  refine if_pos ?_
  simp only [Bool.or_eq_true, bne_iff_ne, or_assoc]
  exact h

/-! Scan chain 15 (R600). -/

section
variable {v : BitVec 39} {s : State} {r : SysReg}

theorem update15_none (h : chain15Reg (v.extractLsb' 32 6) = none) : update15 v s = .refused .debugPort := by
  rw [update15, h]

theorem update15_refused {e : Refusal} (h : chain15Reg (v.extractLsb' 32 6) = some (.register r))
    (hw : v.getLsbD 38 = true) (hr : r.writeRefusal (v.extractLsb' 0 32) = some e) : update15 v s = .refused e := by
  simp only [update15, h, hw, hr]

theorem update15_write (h : chain15Reg (v.extractLsb' 32 6) = some (.register r)) (hw : v.getLsbD 38 = true)
    (hr : r.writeRefusal (v.extractLsb' 0 32) = none) :
    update15 v s =
      .next { s with
        cp15 := s.cp15.write r (v.extractLsb' 0 32)
        tap := { s.tap with scan15 := v.extractLsb' 32 7 ++ v.extractLsb' 0 32 } } := by
  simp only [update15, h, hw, hr]

theorem update15_read (h : chain15Reg (v.extractLsb' 32 6) = some (.register r)) (hw : v.getLsbD 38 = false) :
    update15 v s =
      if r.freeBits = 0#32 then .next { s with tap := { s.tap with scan15 := v.extractLsb' 32 7 ++ s.sysRead r } }
      else
        .next { s with tap := { s.tap with scan15 := v.extractLsb' 32 7 ++ s.sysRead r }, draws := s.draws + 1 } := by
  rw [update15, h, hw]
  by_cases hf : r.freeBits = 0#32
  · simp only [if_pos hf]
  · simp only [if_neg hf, State.draw]

theorem update15_flush (h : chain15Reg (v.extractLsb' 32 6) = some .flushI) (hw : v.getLsbD 38 = true) :
    update15 v s =
      .next { s with
        icache := s.icache.mapLines Line.invalid
        tap := { s.tap with scan15 := v.extractLsb' 32 7 ++ v.extractLsb' 0 32 } } := by
  rw [update15, h, hw]

theorem update15_flushed (h : chain15Reg (v.extractLsb' 32 6) = some .flushI) (hw : v.getLsbD 38 = false) :
    update15 v s =
      .next { s with
        tap := { s.tap with scan15 := v.extractLsb' 32 7 ++ (Config.freeWord s.draws &&& 0x7FFFFFFF#32) }
        draws := s.draws + 1 } := by
  rw [update15, h, hw]
  rfl

end

/-- The 67 bits of an access. -/
def access15 (rw : BitVec 1) (addr : BitVec 6) (data : Word) : BitVec 67 := 0#28 ++ rw ++ addr ++ data

/-- Its register takes the low 39 bits. -/
theorem access15_register (rw : BitVec 1) (addr : BitVec 6) (data : Word) :
    (access15 rw addr data).extractLsb' 0 39 = (rw ++ addr ++ data : BitVec 39) := by
  apply BitVec.eq_of_getLsbD_eq
  intro i hi
  rw [getLsbD_low _ hi, access15]
  change BitVec.getLsbD (w := 28 + 1 + 6 + 32) (_ ++ _ ++ _ ++ _) i =
    BitVec.getLsbD (w := 1 + 6 + 32) (_ ++ _ ++ _) i
  simp only [BitVec.getLsbD_append]
  by_cases hd : i < 32
  · simp only [hd, if_true]
  by_cases ha : i - 32 < 6
  · simp only [hd, ha, if_true, if_false]
  · simp only [hd, ha, if_false, show i - 32 - 6 < 1 by omega, if_true]

section
variable (rw : BitVec 1) (addr : BitVec 6) (data : Word)

theorem register15_addr : (rw ++ addr ++ data : BitVec 39).extractLsb' 32 6 = addr := by
  change fld _ 32 6 = _
  simp only [HAppend.hAppend]
  simp (decide := true) only [fld_append_high, fld_append_low, fld_whole, Nat.reduceSub]

theorem register15_data : (rw ++ addr ++ data : BitVec 39).extractLsb' 0 32 = data := by
  change fld _ 0 32 = _
  simp only [HAppend.hAppend]
  simp (decide := true) only [fld_append_low, fld_whole]

theorem register15_write : (rw ++ addr ++ data : BitVec 39).getLsbD 38 = (rw == 1#1) := by
  change bitAt _ 38 = _
  simp only [HAppend.hAppend]
  simp (decide := true) only [bitAt_append_high, Nat.reduceSub]
  revert rw
  decide

end

/-- The TAP as a scan of chain 15 leaves it, with `r` in the register. -/
def Tap.scanned15 (t : Tap) (r : BitVec 39) : Tap := { t with out := t.scan15.zeroExtend 67, scan15 := r }

/-- The word that a read leaves in bits 31:0 of the register. -/
theorem readWord15_low (high : BitVec 7) (w : Word) : (high ++ w : BitVec 39).extractLsb' 0 32 = w :=
  (fld_append_low high w (Nat.le_refl 32)).trans (fld_whole w)

section
variable {s : State} (hn : s.pins.nTRST = true) (hi : s.tap.ir = 0b1100#4) (hc : s.tap.chain = 15#5)
  {addr : BitVec 6} (data : Word)
include hn hi hc

theorem scan15_eq (rw : BitVec 1) (addr : BitVec 6) :
    applyInput (.scanDr (access15 rw addr data)) s =
      update15 (rw ++ addr ++ data) (s.setOut (s.tap.scan15.zeroExtend 67)) := by
  rw [applyInput_scanDr hn, scanDr_intest hi, scanIntest_fifteen hc _ rfl, access15_register]

theorem scan15_refused (rw : BitVec 1) (h : chain15Reg addr = none) :
    applyInput (.scanDr (access15 rw addr data)) s = .refused .debugPort := by
  rw [scan15_eq hn hi hc, update15_none (by rw [register15_addr, h])]

/-- A write of a CP15 register refuses the values that the MCR refuses (logs 28 and 30). -/
theorem scan15_refusedValue {r : SysReg} {e : Refusal} (h : chain15Reg addr = some (.register r))
    (hr : r.writeRefusal data = some e) : applyInput (.scanDr (access15 1#1 addr data)) s = .refused e := by
  rw [scan15_eq hn hi hc]
  exact update15_refused (by rw [register15_addr, h]) (by rw [register15_write]; rfl) (by rw [register15_data, hr])

theorem scan15_write {r : SysReg} (h : chain15Reg addr = some (.register r)) (hr : r.writeRefusal data = none) :
    ∃ cells, applyInput (.scanDr (access15 1#1 addr data)) s =
      .next { s with cp15 := s.cp15.write r data, tap := s.tap.scanned15 cells } := by
  rw [scan15_eq hn hi hc, update15_write (by rw [register15_addr, h]) (by rw [register15_write]; rfl)
    (by rw [register15_data, hr]), register15_data]
  exact ⟨_, rfl⟩

theorem scan15_read {r : SysReg} (h : chain15Reg addr = some (.register r)) :
    ∃ (high : BitVec 7) (draws : Nat), applyInput (.scanDr (access15 0#1 addr data)) s =
      .next { s with tap := s.tap.scanned15 (high ++ s.sysRead r), draws := draws } := by
  rw [scan15_eq hn hi hc, update15_read (by rw [register15_addr, h]) (by rw [register15_write]; rfl)]
  split
  · exact ⟨_, _, rfl⟩
  · exact ⟨_, _, rfl⟩

theorem scan15_flush (h : chain15Reg addr = some .flushI) :
    ∃ cells, applyInput (.scanDr (access15 1#1 addr data)) s =
      .next { s with icache := s.icache.mapLines Line.invalid, tap := s.tap.scanned15 cells } := by
  rw [scan15_eq hn hi hc, update15_flush (by rw [register15_addr, h]) (by rw [register15_write]; rfl)]
  exact ⟨_, rfl⟩

theorem scan15_flushed (h : chain15Reg addr = some .flushI) :
    ∃ high : BitVec 7, applyInput (.scanDr (access15 0#1 addr data)) s =
      .next { s with
        tap := s.tap.scanned15 (high ++ (Config.freeWord s.draws &&& 0x7FFFFFFF#32)), draws := s.draws + 1 } := by
  rw [scan15_eq hn hi hc, update15_flushed (by rw [register15_addr, h]) (by rw [register15_write]; rfl)]
  exact ⟨_, rfl⟩

end

theorem flushed_bit (high : BitVec 7) (w : Word) : (high ++ (w &&& 0x7FFFFFFF#32) : BitVec 39).getLsbD 31 = false := by
  rw [BitVec.getLsbD_append, if_pos (by decide), BitVec.getLsbD_and]
  exact Bool.and_false _

/-! The debug status register (R616). -/

/-- Its five signals are the low bits of the register of scan chain 2. -/
theorem statusRead_fields (high : BitVec 6) (s : State) (free : Word) :
    let r : BitVec 38 := high ++ s.iceRead .debugStatus free
    r.getLsbD 4 = s.thumb ∧ r.getLsbD 3 = s.ice.sysComp ∧ r.getLsbD 2 = s.ifen ∧ r.getLsbD 1 = s.debugRequest ∧
      r.getLsbD 0 = s.debugAck := by
  change bitAt _ 4 = _ ∧ bitAt _ 3 = _ ∧ bitAt _ 2 = _ ∧ bitAt _ 1 = _ ∧ bitAt _ 0 = _
  simp only [State.iceRead, State.debugStatus, HAppend.hAppend]
  simp (decide := true) only [bitAt_append_high, bitAt_append_low, bitAt_ofBool, Nat.reduceSub, and_self]

theorem ifen_iff (s : State) :
    s.ifen = true ↔ s.ice.ctrl.getLsbD 2 = false ∧ s.dbg.active = false ∧ s.ice.ctrl.getLsbD 0 = false := by
  rw [State.ifen, Bool.not_eq_true', Bool.or_eq_false_iff, Bool.or_eq_false_iff, and_assoc]

theorem debugRequest_iff (s : State) : s.debugRequest = true ↔ s.pins.edbgrq = true ∨ s.ice.ctrl.getLsbD 1 = true := by
  rw [State.debugRequest, Bool.or_eq_true]

theorem debugAck_iff (s : State) :
    s.debugAck = true ↔ s.dbg.active = true ∨ s.dbg.ackFetches ≠ 0 ∨ s.ice.ctrl.getLsbD 0 = true := by
  rw [State.debugAck, Bool.or_eq_true, Bool.or_eq_true, bne_iff_ne, or_assoc]

/-- Settles O59: the scan by the selected chain, and an access of chain 2 or 15 by the register of its address. -/
theorem scanChains : Obligations.ScanChains := by
  intro s v data hn hi scan
  have intest (v : BitVec 67) : scan v = scanIntest v s := (applyInput_scanDr hn v).trans (scanDr_intest hi v)
  refine ⟨fun hc => ?_, fun g idx => ⟨fun hc => ?_, fun hc => ?_⟩, fun hc zero => ?_, fun hc => ⟨?_, ?_, ?_, ?_⟩,
    fun hc => ?_, fun hc => ⟨?_, ?_⟩⟩
  · obtain ⟨sysSpeed, wptAndBkpt, ddEn, dd⟩ := captured1_getLsbD s.tap s.draw.1
    exact ⟨_, (intest v).trans (scanIntest_one hc v rfl), rfl, rfl, rfl, rfl, rfl, fun i => setCells1_dd s.tap v,
      sysSpeed, wptAndBkpt, ddEn, dd⟩
  · exact ⟨_, (intest _).trans (scanIntest_icache_line g idx hc), rfl, rfl,
      zeroExtend_low (m := 67) s.tap.scan4 (by decide)⟩
  · exact ⟨_, (intest _).trans (scanIntest_dcache_line g idx hc), rfl, rfl,
      zeroExtend_low (m := 67) s.tap.scan5 (by decide)⟩
  · rcases hc with hc | hc
    · rw [intest, scanIntest_icache hc v rfl, camRead_none _ _ zero]
    · rw [intest, scanIntest_dcache hc v rfl, camRead_none _ _ zero]
  · intro p hp
    have mapped : chain15Reg p.1 = some (.register p.2) := by
      revert p
      decide
    obtain ⟨high, draws, read⟩ := scan15_read hn hi hc data mapped
    refine ⟨fun taken => ?_, fun e refused => ?_, _, read, rfl, ?_⟩
    · obtain ⟨cells, write⟩ := scan15_write hn hi hc data mapped taken
      exact ⟨_, write, rfl⟩
    · exact scan15_refusedValue hn hi hc data mapped refused
    · change (high ++ s.sysRead p.2 : BitVec 39).extractLsb' 0 32 &&& _ = _
      rw [readWord15_low, sysRead_stated]
  · obtain ⟨cells, flush⟩ := scan15_flush hn hi hc data (addr := 0b001111#6) (by decide)
    exact ⟨_, flush, fun g idx => congrArg Line.valid (Cache.line_mapLines ..), rfl, rfl⟩
  · obtain ⟨high, flushed⟩ := scan15_flushed hn hi hc data (addr := 0b001111#6) (by decide)
    exact ⟨_, flushed, flushed_bit high _, rfl⟩
  · exact fun rw => ⟨scan15_refused hn hi hc data rw (by decide), scan15_refused hn hi hc data rw (by decide)⟩
  · exact ⟨_, (intest v).trans (scanIntest_external rfl v hc), rfl⟩
  · obtain ⟨high, read⟩ := scan2_read (addr := 0b00001#5) (data := data) (r := .debugStatus) hn hi hc rfl
    obtain ⟨thumb, sysComp, ifen, request, ack⟩ := statusRead_fields high s (Config.freeWord s.draws)
    refine ⟨_, read, rfl, thumb, sysComp, ?_, ?_, ?_⟩
    · exact (Bool.eq_iff_iff.mp ifen).trans (ifen_iff s)
    · exact (Bool.eq_iff_iff.mp request).trans (debugRequest_iff s)
    · exact (Bool.eq_iff_iff.mp ack).trans (debugAck_iff s)
  · exact ⟨_, scan2_write (addr := 0b00001#5) (data := data) (r := .debugStatus) hn hi hc rfl, rfl⟩

end Sys2Proof.Machine
end

section
/-!
PROOFS. At debug speed an instruction reaches no memory, cache or write buffer and no register of CP15 (R596): one rule
for each operation that instructions share.
-/

namespace Sys2Proof.Machine

/-- `t` is `s` after a part of an instruction at debug speed, with the memory side as it was. -/
structure AtDebugSpeed (s t : State) : Prop where
  mem : t.mem = s.mem
  wbuf : t.wbuf = s.wbuf
  dcache : t.dcache = s.dcache
  icache : t.icache = s.icache
  cp15 : t.cp15 = s.cp15
  speed : t.debugSpeed = true

/-- Where an instruction goes on from `s`, the memory side is as it was. -/
structure DebugResult (s : State) (r : Result) : Prop where
  next : ∀ t, r = .next t → AtDebugSpeed s t

/-- An access at debug speed completes. -/
def Access.atDebugSpeed {α : Type} (s : State) : Access α → Prop
  | .done _ t => AtDebugSpeed s t
  | .abort _ => False
  | .fault _ => False

theorem AtDebugSpeed.refl {s : State} (h : s.debugSpeed = true) : AtDebugSpeed s s := ⟨rfl, rfl, rfl, rfl, rfl, h⟩

theorem debugResult_refused (s : State) (e : Refusal) : DebugResult s (.refused e) := by
  refine ⟨fun t h => ?_⟩
  cases h

theorem debugResult_next {s t : State} (h : AtDebugSpeed s t) : DebugResult s (.next t) := by
  refine ⟨fun t' e => ?_⟩
  cases e
  exact h

section
variable {s u : State} (h : AtDebugSpeed s u)
include h

/-! Updates of the state. -/

/-- A change of anything but the memory side and the debug condition. -/
theorem AtDebugSpeed.congr {t : State} (hm : t.mem = u.mem := by rfl) (hw : t.wbuf = u.wbuf := by rfl)
    (hd : t.dcache = u.dcache := by rfl) (hi : t.icache = u.icache := by rfl) (hc : t.cp15 = u.cp15 := by rfl)
    (hs : t.debugSpeed = u.debugSpeed := by rfl) : AtDebugSpeed s t where
  mem := hm.trans h.mem
  wbuf := hw.trans h.wbuf
  dcache := hd.trans h.dcache
  icache := hi.trans h.icache
  cp15 := hc.trans h.cp15
  speed := hs.trans h.speed

theorem AtDebugSpeed.setReg (i : BitVec 4) (v : Word) : AtDebugSpeed s (u.setReg i v) := h.congr

theorem AtDebugSpeed.bankSet (m : BitVec 5) (i : BitVec 4) (v : Word) : AtDebugSpeed s (u.bankSet m i v) := h.congr

theorem AtDebugSpeed.setFlags (n z c v : Bool) : AtDebugSpeed s (u.setFlags n z c v) := h.congr

theorem AtDebugSpeed.setFlagsOf (r : FlagResult) : AtDebugSpeed s (u.setFlagsOf r) := h.congr

theorem AtDebugSpeed.setThumb (b : Bool) : AtDebugSpeed s (u.setThumb b) := h.congr

theorem AtDebugSpeed.setPc (p : Word) : AtDebugSpeed s { u with pc := p } := h.congr

theorem AtDebugSpeed.setCpsr (v : Word) : AtDebugSpeed s { u with cpsr := v } := h.congr

theorem AtDebugSpeed.multiplyFlags (r : Word) : AtDebugSpeed s (u.multiplyFlags r) := h.congr

theorem AtDebugSpeed.longFlags (p : BitVec 64) : AtDebugSpeed s (u.longFlags p) := h.congr

theorem AtDebugSpeed.setSpsrOf (m : BitVec 5) (v : Word) : AtDebugSpeed s (u.setSpsrOf m v) :=
  h.congr (by simp) (by simp) (by simp) (by simp) (by simp) (by simp [State.debugSpeed])

theorem AtDebugSpeed.writeBase (rn : BitVec 4) (v : Option Word) : AtDebugSpeed s (u.writeBase rn v) := by
  cases v with
  | none => exact h
  | some v => exact h.setReg rn v

theorem AtDebugSpeed.setHeld (m : BitVec 5) (i : BitVec 4) (v : Option Word) : AtDebugSpeed s (u.setHeld m i v) := by
  cases v with
  | none => exact h
  | some v => exact h.bankSet m i v

theorem AtDebugSpeed.loadedBase (w : BitVec 1) (rn : BitVec 4) (hd : Held) (wb : Word) :
    AtDebugSpeed s (u.loadedBase w rn hd wb) := by
  unfold State.loadedBase
  dsimp only
  split
  · exact (h.setHeld ..).setReg ..
  · exact h.setHeld ..

/-! Accesses: a word of a load comes from the scan cells, a word of a store goes to them (R596). -/

theorem load_atDebugSpeed (a : Word) (sz : Size) (privileged : Bool) : (load a sz privileged u).atDebugSpeed s := by
  rw [load, if_pos h.speed]
  exact h.congr

theorem store_atDebugSpeed (a : Word) (sz : Size) (v : Word) (privileged join : Bool) :
    (store a sz v privileged join u).atDebugSpeed s := by
  rw [store, if_pos h.speed]
  exact h.congr

theorem swapAccess_atDebugSpeed (a : Word) (sz : Size) (v : Word) : (swapAccess a sz v u).atDebugSpeed s := by
  rw [swapAccess, if_pos h.speed]
  exact h.congr

theorem loadMany_atDebugSpeed (m : BitVec 5) (hold : BitVec 4 → Bool) (is : List (BitVec 4)) (a : Word) (hd : Held) :
    (loadMany m hold is a hd u).atDebugSpeed s := by
  induction is generalizing a hd u with
  | nil => exact h
  | cons i rest ih =>
    have one := load_atDebugSpeed h (wordAddr a) .word u.privileged
    unfold loadMany
    cases hx : load (wordAddr a) .word u.privileged u with
    | done v t =>
      rw [hx] at one
      have now : AtDebugSpeed s t := one
      dsimp only
      split
      · exact ih now ..
      · split
        · exact ih now ..
        · exact ih (now.bankSet ..) ..
    | abort t => rw [hx] at one; exact one
    | fault e => rw [hx] at one; exact one

theorem storeMany_atDebugSpeed (vs : List Word) (a : Word) (join : Bool) :
    (storeMany vs a join u).atDebugSpeed s := by
  induction vs generalizing a join u with
  | nil => exact h
  | cons v rest ih =>
    have one := store_atDebugSpeed h (wordAddr a) .word v u.privileged join
    unfold storeMany
    cases hx : store (wordAddr a) .word v u.privileged join u with
    | done x t => rw [hx] at one; exact ih one ..
    | abort t => rw [hx] at one; exact one
    | fault e => rw [hx] at one; exact one

/-! The shared operations. -/

theorem finish_debug : DebugResult s (finish u) := by
  refine ⟨fun t e => ?_⟩
  obtain ⟨-, rfl⟩ := finish_next e
  exact h.setPc _

theorem ifPassed_debug {cond : BitVec 4} {f : State → Result} (hf : DebugResult s (f u)) :
    DebugResult s (ifPassed cond u f) := by
  rcases ifPassed_cases cond u f with ⟨-, e⟩ | ⟨-, e⟩ | ⟨-, -, e⟩ <;> rw [e]
  · exact debugResult_refused ..
  · exact hf
  · exact finish_debug h

omit h in
theorem unlessRefused_debug {r : Option Refusal} {k : Result} (hk : DebugResult s k) :
    DebugResult s (unlessRefused r k) :=
  ⟨fun t e => hk.next t (unlessRefused_next e).2⟩

omit h in
theorem ite_refused_debug {c : Prop} [Decidable c] {e : Refusal} {k : Result} (hk : DebugResult s k) :
    DebugResult s (if c then .refused e else k) := by
  split
  · exact debugResult_refused ..
  · exact hk

omit h in
/-- An access at debug speed takes no exception. -/
theorem afterAccess_debug {α : Type} {a : Access α} {f : α → State → Result} (ha : a.atDebugSpeed s)
    (hf : ∀ v t, AtDebugSpeed s t → DebugResult s (f v t)) : DebugResult s (afterAccess a f) := by
  cases a with
  | done v t => exact hf v t ha
  | abort t => exact ha.elim
  | fault e => exact ha.elim

theorem writePc_debug (r : Word) : DebugResult s (writePc r u) := by
  refine ⟨fun t e => ?_⟩
  obtain ⟨p, -, rfl⟩ := writePc_aligned e
  exact h.setPc p

/-- A return from an exception writes the status word and what `writes` writes. -/
theorem returnFromException_debug {writes : State → Result}
    (hw : ∀ v t, writes v = .next t → ∃ p, alignedFor v.thumb p ∧ t = { v with pc := p }) :
    DebugResult s (returnFromException writes u) := by
  refine ⟨fun t e => ?_⟩
  obtain ⟨-, -, e⟩ := returnFromException_next e
  obtain ⟨p, -, rfl⟩ := hw _ _ e
  exact (h.setCpsr _).setPc p

theorem branchTo_debug (target : Int) : DebugResult s (branchTo target u) := by
  unfold branchTo
  split
  · exact debugResult_next (h.setPc _)
  · exact debugResult_refused ..

theorem exchangeTo_debug (v : Word) : DebugResult s (exchangeTo v u) :=
  ite_refused_debug (debugResult_next ((h.setThumb _).setPc _))

/-! The destinations that may be the pc or the flags. -/

theorem loadWrite_debug (rd : BitVec 4) (v : Word) : DebugResult s (loadWrite rd v u) := by
  unfold loadWrite
  split
  · exact debugResult_next (h.setPc _)
  · exact finish_debug (h.setReg ..)

theorem highWrite_debug (d : BitVec 4) (v : Word) : DebugResult s (highWrite d v u) := by
  unfold highWrite
  split
  · exact debugResult_next (h.setPc _)
  · exact finish_debug (h.setReg ..)

theorem dpWrite_debug (sf : BitVec 1) (rd : BitVec 4) (r : FlagResult) : DebugResult s (dpWrite sf rd r u) := by
  unfold dpWrite
  split
  · split
    · exact returnFromException_debug h fun _ _ => writePc_aligned
    · exact writePc_debug h _
  · refine finish_debug (AtDebugSpeed.setReg ?_ ..)
    split
    · exact h.setFlagsOf r
    · exact h

theorem loadedPc_debug (hd : Held) : DebugResult s (loadedPc hd u) := by
  unfold loadedPc
  split
  · exact debugResult_next (h.setPc _)
  · exact finish_debug h

theorem poppedPc_debug (hd : Held) : DebugResult s (poppedPc hd u) := by
  unfold poppedPc
  split
  · exact debugResult_next (h.setPc _)
  · exact finish_debug h

end

end Sys2Proof.Machine
end

section
/-!
PROOFS. The meanings of the instructions that debug state allows, and so `exec` at debug speed: `exec_debug`.
-/

namespace Sys2Proof.Machine

section
variable {s u : State} (h : AtDebugSpeed s u)
include h

/-! ARM data processing, status registers and multiplies. -/

theorem dataOp_debug (op : DpOp) (cond : BitVec 4) (sf : BitVec 1) (rn rd : BitVec 4) (op2 : Operand2) :
    DebugResult s (dataOp op cond sf rn rd op2 u) :=
  ifPassed_debug h (dpWrite_debug h ..)

theorem moveOp_debug (op : DpOp) (cond : BitVec 4) (sf : BitVec 1) (rn rd : BitVec 4) (op2 : Operand2) :
    DebugResult s (moveOp op cond sf rn rd op2 u) := by
  refine ifPassed_debug h ?_
  split
  · exact dpWrite_debug h ..
  · exact debugResult_refused ..

theorem compareOp_debug (op : DpOp) (cond rn rd : BitVec 4) (op2 : Operand2) :
    DebugResult s (compareOp op cond rn rd op2 u) := by
  refine ifPassed_debug h ?_
  split
  · exact finish_debug (h.setFlagsOf _)
  · exact debugResult_refused ..

theorem execMrs_debug (cond : BitVec 4) (r : BitVec 1) (sbo rd hi lo : BitVec 4) :
    DebugResult s (execMrs cond r sbo rd hi lo u) := by
  refine ifPassed_debug h (ite_refused_debug (ite_refused_debug ?_))
  split
  · exact finish_debug (h.setReg ..)
  · split
    · exact finish_debug (h.setReg ..)
    · exact debugResult_refused ..

theorem msrCpsr_debug (mask : BitVec 4) (v : Word) : DebugResult s (msrCpsr mask v u) := by
  refine ite_refused_debug ?_
  split
  · exact finish_debug (h.setCpsr _)
  · exact debugResult_refused ..

theorem msrSpsr_debug (mask : BitVec 4) (v : Word) : DebugResult s (msrSpsr mask v u) := by
  unfold msrSpsr
  split
  · exact finish_debug (h.setSpsrOf ..)
  · exact debugResult_refused ..

theorem msrWrite_debug (r : BitVec 1) (mask : BitVec 4) (v : Word) : DebugResult s (msrWrite r mask v u) := by
  unfold msrWrite
  split
  · exact msrCpsr_debug h ..
  · exact msrSpsr_debug h ..

theorem execMsrReg_debug (cond : BitVec 4) (r : BitVec 1) (mask sbo sbz rm : BitVec 4) :
    DebugResult s (execMsrReg cond r mask sbo sbz rm u) :=
  ifPassed_debug h (ite_refused_debug (ite_refused_debug (msrWrite_debug h ..)))

theorem execMsrImm_debug (cond : BitVec 4) (r : BitVec 1) (mask sbo rot : BitVec 4) (imm8 : BitVec 8) :
    DebugResult s (execMsrImm cond r mask sbo rot imm8 u) :=
  ifPassed_debug h (ite_refused_debug (msrWrite_debug h ..))

theorem multiplyWrite_debug (sf : BitVec 1) (rd : BitVec 4) (r : Word) : DebugResult s (multiplyWrite sf rd r u) := by
  refine finish_debug (AtDebugSpeed.setReg ?_ ..)
  split
  · exact h.multiplyFlags r
  · exact h

theorem execMul_debug (cond : BitVec 4) (sf : BitVec 1) (rd sbz rs rm : BitVec 4) :
    DebugResult s (execMul cond sf rd sbz rs rm u) :=
  ifPassed_debug h (ite_refused_debug (ite_refused_debug (ite_refused_debug (multiplyWrite_debug h ..))))

theorem execMla_debug (cond : BitVec 4) (sf : BitVec 1) (rd rn rs rm : BitVec 4) :
    DebugResult s (execMla cond sf rd rn rs rm u) :=
  ifPassed_debug h (ite_refused_debug (ite_refused_debug (multiplyWrite_debug h ..)))

theorem longMultiply_debug (signed accumulate : Bool) (cond : BitVec 4) (sf : BitVec 1) (hi lo rs rm : BitVec 4) :
    DebugResult s (longMultiply signed accumulate cond sf hi lo rs rm u) := by
  refine ifPassed_debug h ?_
  split
  · exact debugResult_refused ..
  · refine finish_debug (AtDebugSpeed.setReg (AtDebugSpeed.setReg ?_ ..) ..)
    split
    · exact h.longFlags _
    · exact h

/-! Single loads, stores and swaps. -/

theorem loadInto_debug (k : LoadKind) (privileged : Bool) (rn rd : BitVec 4) (ix : Indexing) :
    DebugResult s (loadInto k privileged rn rd ix u) :=
  ite_refused_debug (afterAccess_debug (load_atDebugSpeed h ..) fun _ _ g => loadWrite_debug (g.writeBase ..) ..)

theorem storeFrom_debug (sz : Size) (privileged : Bool) (rn rd : BitVec 4) (ix : Indexing) :
    DebugResult s (storeFrom sz privileged rn rd ix u) :=
  ite_refused_debug (afterAccess_debug (store_atDebugSpeed h ..) fun _ _ g => finish_debug (g.writeBase ..))

theorem loadOp_debug (k : LoadKind) (pcOk user : Bool) (cond : BitVec 4) (p up w : BitVec 1) (rn rd : BitVec 4)
    (off : Offset2) : DebugResult s (loadOp k pcOk user cond p up w rn rd off u) :=
  ifPassed_debug h (unlessRefused_debug (unlessRefused_debug (loadInto_debug h ..)))

theorem storeOp_debug (sz : Size) (pcOk user : Bool) (cond : BitVec 4) (p up w : BitVec 1) (rn rd : BitVec 4)
    (off : Offset2) : DebugResult s (storeOp sz pcOk user cond p up w rn rd off u) :=
  ifPassed_debug h (unlessRefused_debug (unlessRefused_debug (storeFrom_debug h ..)))

theorem loadHalfOp_debug (k : LoadKind) (cond : BitVec 4) (p up w : BitVec 1) (rn rd : BitVec 4) (off : Offset3) :
    DebugResult s (loadHalfOp k cond p up w rn rd off u) :=
  ifPassed_debug h (unlessRefused_debug (unlessRefused_debug (unlessRefused_debug (loadInto_debug h ..))))

theorem storeHalfOp_debug (cond : BitVec 4) (p up w : BitVec 1) (rn rd : BitVec 4) (off : Offset3) :
    DebugResult s (storeHalfOp cond p up w rn rd off u) :=
  ifPassed_debug h (unlessRefused_debug (unlessRefused_debug (unlessRefused_debug (storeFrom_debug h ..))))

theorem swapOp_debug (sz : Size) (k : LoadKind) (cond rn rd sbz rm : BitVec 4) :
    DebugResult s (swapOp sz k cond rn rd sbz rm u) :=
  ifPassed_debug h (ite_refused_debug (ite_refused_debug (ite_refused_debug
    (afterAccess_debug (swapAccess_atDebugSpeed h ..) fun _ _ g => finish_debug (g.setReg ..)))))

/-! Block transfers. -/

theorem execLdm_debug (cond : BitVec 4) (p up w : BitVec 1) (rn : BitVec 4) (list : BitVec 16) :
    DebugResult s (execLdm cond p up w rn list u) :=
  ifPassed_debug h (unlessRefused_debug (unlessRefused_debug
    (afterAccess_debug (loadMany_atDebugSpeed h ..) fun _ _ g => loadedPc_debug (g.loadedBase ..) _)))

theorem execLdmUser_debug (cond : BitVec 4) (p up w : BitVec 1) (rn : BitVec 4) (list : BitVec 15) :
    DebugResult s (execLdmUser cond p up w rn list u) := by
  unfold execLdmUser
  exact ifPassed_debug h (unlessRefused_debug (unlessRefused_debug
    (afterAccess_debug (loadMany_atDebugSpeed h ..) fun _ _ g => finish_debug (g.setHeld ..))))

theorem execLdmRestore_debug (cond : BitVec 4) (p up w : BitVec 1) (rn : BitVec 4) (list : BitVec 15) :
    DebugResult s (execLdmRestore cond p up w rn list u) := by
  unfold execLdmRestore
  exact ifPassed_debug h (unlessRefused_debug (unlessRefused_debug (ite_refused_debug
    (afterAccess_debug (loadMany_atDebugSpeed h ..) fun _ _ g =>
      returnFromException_debug (g.loadedBase ..) fun _ _ => writeLoadedPc_aligned))))

theorem execStm_debug (cond : BitVec 4) (p up w : BitVec 1) (rn : BitVec 4) (list : BitVec 16) :
    DebugResult s (execStm cond p up w rn list u) := by
  refine ifPassed_debug h (unlessRefused_debug (unlessRefused_debug
    (afterAccess_debug (storeMany_atDebugSpeed h ..) fun _ _ g => finish_debug ?_)))
  split
  · exact g.setReg ..
  · exact g

theorem execStmUser_debug (cond : BitVec 4) (p up w : BitVec 1) (rn : BitVec 4) (list : BitVec 16) :
    DebugResult s (execStmUser cond p up w rn list u) :=
  ifPassed_debug h (unlessRefused_debug (unlessRefused_debug
    (afterAccess_debug (storeMany_atDebugSpeed h ..) fun _ _ g => finish_debug g)))

/-! Branches. -/

theorem execB_debug (cond : BitVec 4) (imm24 : BitVec 24) : DebugResult s (execB cond imm24 u) :=
  ifPassed_debug h (branchTo_debug h _)

theorem execBl_debug (cond : BitVec 4) (imm24 : BitVec 24) : DebugResult s (execBl cond imm24 u) :=
  ifPassed_debug h (branchTo_debug (h.setReg ..) _)

theorem execBx_debug (cond a b c rm : BitVec 4) : DebugResult s (execBx cond a b c rm u) :=
  ifPassed_debug h (ite_refused_debug (ite_refused_debug (exchangeTo_debug h _)))

/-! Thumb instructions. -/

theorem thumbWrite_debug (rd : BitVec 3) (r : FlagResult) : DebugResult s (thumbWrite rd r u) :=
  finish_debug ((h.setFlagsOf r).setReg ..)

theorem thumbCompare_debug (r : FlagResult) : DebugResult s (thumbCompare r u) := finish_debug (h.setFlagsOf r)

theorem execTMul_debug (rs rd : BitVec 3) : DebugResult s (execTMul rs rd u) :=
  ite_refused_debug (finish_debug ((h.multiplyFlags _).setReg ..))

theorem highAdd_debug (d r : BitVec 4) : DebugResult s (highAdd d r u) := ite_refused_debug (highWrite_debug h ..)

theorem highCompare_debug (d r : BitVec 4) : DebugResult s (highCompare d r u) :=
  ite_refused_debug (thumbCompare_debug h _)

theorem execTBx_debug (h2 : BitVec 1) (rs sbz : BitVec 3) : DebugResult s (execTBx h2 rs sbz u) :=
  ite_refused_debug (exchangeTo_debug h _)

theorem thumbLoad_debug (k : LoadKind) (rd : BitVec 3) (a : Word) : DebugResult s (thumbLoad k rd a u) :=
  loadInto_debug h ..

theorem thumbStore_debug (sz : Size) (rd : BitVec 3) (a : Word) : DebugResult s (thumbStore sz rd a u) :=
  storeFrom_debug h ..

theorem execTPush_debug (r : BitVec 1) (list : BitVec 8) : DebugResult s (execTPush r list u) :=
  unlessRefused_debug (afterAccess_debug (storeMany_atDebugSpeed h ..) fun _ _ g => finish_debug (g.setReg ..))

theorem execTPop_debug (r : BitVec 1) (list : BitVec 8) : DebugResult s (execTPop r list u) :=
  unlessRefused_debug (afterAccess_debug (loadMany_atDebugSpeed h ..) fun _ _ g => poppedPc_debug (g.setReg ..) _)

theorem execTStmia_debug (rb : BitVec 3) (list : BitVec 8) : DebugResult s (execTStmia rb list u) :=
  unlessRefused_debug (unlessRefused_debug
    (afterAccess_debug (storeMany_atDebugSpeed h ..) fun _ _ g => finish_debug (g.setReg ..)))

theorem execTLdmia_debug (rb : BitVec 3) (list : BitVec 8) : DebugResult s (execTLdmia rb list u) :=
  unlessRefused_debug (afterAccess_debug (loadMany_atDebugSpeed h ..) fun _ _ g => finish_debug (g.setReg ..))

theorem thumbCondBranch_debug (cond : BitVec 4) (off : BitVec 8) : DebugResult s (thumbCondBranch cond off u) := by
  unfold thumbCondBranch
  split
  · exact branchTo_debug h _
  · exact finish_debug h

theorem execTBlSecond_debug (off : BitVec 11) : DebugResult s (execTBlSecond off u) :=
  debugResult_next ((h.setReg ..).setPc _)

end

/-- Whatever an instruction that debug state allows does at debug speed, the memory side keeps its state. -/
theorem exec_debug {s : State} (h : AtDebugSpeed s s) (i : Instr) (hi : debugClass i ≠ .barred) :
    DebugResult s (exec i s) := by
  cases i
  case and | eor | sub | rsb | add | adc | sbc | rsc | orr | bic => exact dataOp_debug h ..
  case tst | teq | cmp | cmn => exact compareOp_debug h ..
  case mov | mvn => exact moveOp_debug h ..
  case mrs => exact execMrs_debug h ..
  case msrReg => exact execMsrReg_debug h ..
  case msrImm => exact execMsrImm_debug h ..
  case mul => exact execMul_debug h ..
  case mla => exact execMla_debug h ..
  case umull | umlal | smull | smlal => exact longMultiply_debug h ..
  case swp | swpb => exact swapOp_debug h ..
  case strh => exact storeHalfOp_debug h ..
  case ldrh | ldrsb | ldrsh => exact loadHalfOp_debug h ..
  case ldr | ldrPost | ldrt | ldrb | ldrbPost | ldrbt => exact loadOp_debug h ..
  case str | strPost | strt | strb | strbPost | strbt => exact storeOp_debug h ..
  case ldm => exact execLdm_debug h ..
  case ldmUser => exact execLdmUser_debug h ..
  case ldmRestore => exact execLdmRestore_debug h ..
  case stm => exact execStm_debug h ..
  case stmUser => exact execStmUser_debug h ..
  case b => exact execB_debug h ..
  case bl => exact execBl_debug h ..
  case bx => exact execBx_debug h ..
  case tLslImm | tLsrImm | tAsrImm | tAddReg | tSubReg | tAddImm3 | tSubImm3 | tMovImm | tAddImm8 | tSubImm8 |
      tNeg | tAnd | tEor | tAdc | tSbc | tOrr | tBic | tMvn | tLslReg | tLsrReg | tAsrReg | tRorReg =>
    exact thumbWrite_debug h ..
  case tCmpImm | tTst | tCmpReg | tCmn => exact thumbCompare_debug h ..
  case tMul => exact execTMul_debug h ..
  case tAddHi | tAddLoHi => exact highAdd_debug h ..
  case tCmpHi | tCmpLoHi => exact highCompare_debug h ..
  case tMovHi | tMovLoHi => exact highWrite_debug h ..
  case tAddLow | tCmpLow | tMovLow | tBxHigh => exact debugResult_refused ..
  case tBx => exact execTBx_debug h ..
  case tLdrPc | tLdrReg | tLdrImm | tLdrSp => exact thumbLoad_debug h .word ..
  case tLdrbReg | tLdrbImm => exact thumbLoad_debug h .byte ..
  case tLdrhReg | tLdrhImm => exact thumbLoad_debug h .half ..
  case tLdsbReg => exact thumbLoad_debug h .signedByte ..
  case tLdshReg => exact thumbLoad_debug h .signedHalf ..
  case tStrReg | tStrImm | tStrSp => exact thumbStore_debug h .word ..
  case tStrbReg | tStrbImm => exact thumbStore_debug h .byte ..
  case tStrhReg | tStrhImm => exact thumbStore_debug h .half ..
  case tAddPc | tAddSp | tAddSpImm | tSubSpImm | tBlFirst => exact finish_debug (h.setReg ..)
  case tPush => exact execTPush_debug h ..
  case tPop => exact execTPop_debug h ..
  case tStmia => exact execTStmia_debug h ..
  case tLdmia => exact execTLdmia_debug h ..
  case tBeq | tBne | tBcs | tBcc | tBmi | tBpl | tBvs | tBvc | tBhi | tBls | tBge | tBlt | tBgt | tBle =>
    exact thumbCondBranch_debug h ..
  case tB => exact branchTo_debug h _
  case tBlSecond => exact execTBlSecond_debug h ..
  all_goals exact absurd rfl hi

end Sys2Proof.Machine
end

section
/-!
PROOFS. One pass through RUN-TEST/IDLE in debug state, case by case: a clock of the core under INTEST with scan chain 1,
and RESTART.
-/

namespace Sys2Proof.Machine

/-! What RUN-TEST/IDLE does (R596, R604, R605). -/

theorem applyInput_runTestIdle {s : State} (h : s.pins.nTRST = true) : applyInput .runTestIdle s = runTestIdle s :=
  if_pos h

/-- Reset holds the core (R660). -/
theorem runTestIdle_reset {s : State} (h : s.pins.bnRES = false ∨ s.resetHeld = true) : runTestIdle s = .next s := by
  refine if_pos ?_
  rcases h with h | h
  · rw [h, Bool.not_false, Bool.or_true, Bool.true_or]
  · rw [h, Bool.or_true]

section
variable {s : State} (ha : s.dbg.active = true) (hb : s.pins.bnRES = true) (hr : s.resetHeld = false)
include ha hb hr

theorem runTestIdle_intest (hi : s.tap.ir = 0b1100#4) (hc : s.tap.chain = 1#5) :
    runTestIdle s = debugClock s.beforeClock := by
  rw [runTestIdle, ha, hb, hr, hi]
  exact if_pos hc

theorem runTestIdle_restart (hi : s.tap.ir = 0b0100#4) :
    runTestIdle s = if s.dbg.armed = true then debugRestart s.beforeClock else .next s := by
  rw [runTestIdle, ha, hb, hr, hi]
  rfl

end

/-! One clock of the core (R596, R602). -/

section
variable {s : State}

theorem debugClock_export {v : Word} {rest : List Word} (h : s.dbg.dataOut = v :: rest) :
    debugClock s =
      .next { s with tap := { s.tap with dd := v, ddEn := true }, dbg := { s.dbg with dataOut := rest } } := by
  rw [debugClock, if_pos (by rw [h]; exact List.cons_ne_nil v rest), exportWord, h]

section
variable (hout : s.dbg.dataOut = [])
include hout

theorem debugClock_system (hs : s.tap.sysSpeed = true) :
    debugClock s =
      .next { s with dbg := { s.dbg with armed := true, flush := false }, ice := { s.ice with sysComp := false } } := by
  rw [debugClock, if_neg (not_not_intro hout), if_pos hs]

variable (hs : s.tap.sysSpeed = false)
include hs

theorem debugClock_flushed (hf : s.dbg.flush = true) :
    debugClock s = .next { s with dbg := { s.dbg with flush := false } } := by
  rw [debugClock, if_neg (not_not_intro hout), if_neg (ne_true_of_eq_false hs), if_pos hf]

variable (hf : s.dbg.flush = false)
include hf

/-- The pipeline is empty: the item is clocked in. -/
theorem debugClock_first (hp : s.dbg.pending = none) :
    debugClock s = .next { s.clockIn.2 with dbg := { s.dbg with pending := some s.clockIn.1 } } := by
  rw [debugClock, if_neg (not_not_intro hout), if_neg (ne_true_of_eq_false hs), if_neg (ne_true_of_eq_false hf), hp]

variable {w : Word} (hp : s.dbg.pending = some w)
include hp

/-- A load that wants more words than the scan cells have given. -/
theorem debugClock_collect (hw : (s.dbg.dataIn ++ [s.tap.dd]).length < wordsWanted (decodeFetched s.thumb w) s) :
    debugClock s = .next { s with dbg := { s.dbg with dataIn := s.dbg.dataIn ++ [s.tap.dd] } } := by
  rw [debugClock, if_neg (not_not_intro hout), if_neg (ne_true_of_eq_false hs), if_neg (ne_true_of_eq_false hf), hp]
  exact if_pos hw

/-- The pending instruction executes. -/
theorem debugClock_run (hw : wordsWanted (decodeFetched s.thumb w) s ≤ (s.dbg.dataIn ++ [s.tap.dd]).length) :
    debugClock s =
      debugRun (decodeFetched s.thumb w) (s.dbg.dataIn ++ [s.tap.dd]) s.clockIn.1 (s.clockIn.2.showExec w) := by
  rw [debugClock, if_neg (not_not_intro hout), if_neg (ne_true_of_eq_false hs), if_neg (ne_true_of_eq_false hf), hp]
  exact if_neg (Nat.not_lt.mpr hw)

end

end

/-! An instruction at debug speed (R596, R602). -/

theorem debugRun_barred {i : Instr} (h : debugClass i = .barred) (ins : List Word) (next : Word) (s : State) :
    debugRun i ins next s = .refused .debugInstruction :=
  if_pos h

theorem debugRun_of_next {i : Instr} {ins : List Word} {s t : State} (h : debugClass i ≠ .barred) (next : Word)
    (hx : exec i { s with dbg := { s.dbg with dataIn := ins } } = .next t) :
    debugRun i ins next s = .next (exportWord { t with dbg := clockedIn (branched s t) next t.dbg }) := by
  rw [debugRun, if_neg h, hx]

theorem branched_false {s t : State} (hp : t.pc = s.pc + s.ilen) (ht : t.thumb = s.thumb) : branched s t = false := by
  rw [branched, hp, ht, bne_self_eq_false, bne_self_eq_false]
  rfl

theorem branched_true {s t : State} (h : t.pc ≠ s.pc + s.ilen ∨ t.thumb ≠ s.thumb) : branched s t = true := by
  rw [branched, Bool.or_eq_true, bne_iff_ne, bne_iff_ne]
  exact h

/-- The word that appears on the data cells changes nothing else. -/
theorem exportWord_keeps (s : State) :
    (exportWord s).regs = s.regs ∧ (exportWord s).cpsr = s.cpsr ∧ (exportWord s).pc = s.pc ∧
      (exportWord s).mem = s.mem ∧ (exportWord s).dbg.active = s.dbg.active ∧
      (exportWord s).dbg.pending = s.dbg.pending ∧ (exportWord s).dbg.flush = s.dbg.flush := by
  unfold exportWord
  split
  · exact ⟨rfl, rfl, rfl, rfl, rfl, rfl, rfl⟩
  · exact ⟨rfl, rfl, rfl, rfl, rfl, rfl, rfl⟩

theorem exportWord_cons {s : State} {v : Word} {rest : List Word} (h : s.dbg.dataOut = v :: rest) :
    (exportWord s).tap.dd = v ∧ (exportWord s).tap.ddEn = true ∧ (exportWord s).dbg.dataOut = rest := by
  rw [exportWord, h]
  exact ⟨rfl, rfl, rfl⟩

/-- What an instruction leaves at debug speed: its own registers and memory, the item behind it in the pipeline or a
flushed pipeline, and the first word of a store on the data cells. -/
theorem debugRun_outcome {i : Instr} {ins : List Word} {s t : State} (hi : debugClass i ≠ .barred) (next : Word)
    (hx : exec i { s with dbg := { s.dbg with dataIn := ins } } = .next t) :
    ∃ u, debugRun i ins next s = .next u ∧ u.regs = t.regs ∧ u.cpsr = t.cpsr ∧ u.pc = t.pc ∧ u.mem = t.mem ∧
      u.dbg.active = t.dbg.active ∧
      (t.pc = s.pc + s.ilen → t.thumb = s.thumb → u.dbg.pending = some next ∧ u.dbg.flush = false) ∧
      (t.pc ≠ s.pc + s.ilen ∨ t.thumb ≠ s.thumb → u.dbg.pending = none ∧ u.dbg.flush = true) ∧
      ∀ v rest, t.dbg.dataOut = v :: rest → u.tap.dd = v ∧ u.tap.ddEn = true ∧ u.dbg.dataOut = rest := by
  obtain ⟨regs, cpsr, pc, mem, active, pending, flush⟩ :=
    exportWord_keeps { t with dbg := clockedIn (branched s t) next t.dbg }
  refine ⟨_, debugRun_of_next hi next hx, regs, cpsr, pc, mem, active, fun hpc ht => ?_, fun hb => ?_,
    fun v rest hout => exportWord_cons hout⟩
  · rw [pending, flush, branched_false hpc ht]
    exact ⟨rfl, rfl⟩
  · rw [pending, flush, branched_true hb]
    exact ⟨rfl, rfl⟩

/-! RESTART (R604, R605). -/

section
variable {s : State} {w : Word} {i : Instr} (hp : s.dbg.pending = some w) (hd : decodeFetched s.thumb w = i)
include hp hd

theorem debugRestart_barred (hi : debugClass i = .barred) : debugRestart s = .refused .debugInstruction := by
  rw [debugRestart, hp]
  dsimp only
  rw [hd, hi]

theorem debugRestart_compute (hi : debugClass i = .compute) : debugRestart s = leaveDebug i (s.showExec w) := by
  rw [debugRestart, hp]
  dsimp only
  rw [hd, hi]

theorem debugRestart_memory (hi : debugClass i = .memory) : debugRestart s = systemAccess i (s.showExec w) := by
  rw [debugRestart, hp]
  dsimp only
  rw [hd, hi]

end

/-- No instruction waits in the pipeline. -/
theorem debugRestart_idle {s : State} (hp : s.dbg.pending = none) :
    debugRestart s = .next { s with dbg := DebugCore.left } := by
  rw [debugRestart, hp]

theorem leaveDebug_of_next {i : Instr} {s t : State} (h : exec i s = .next t) :
    leaveDebug i s = .next { t with dbg := DebugCore.left } := by
  rw [leaveDebug, h]

theorem systemAccess_of_next {i : Instr} {s t : State}
    (h : exec i { s with dbg := { s.dbg with system := true } } = .next t) :
    systemAccess i s = .next (systemDone s.ilen t) := by
  rw [systemAccess, h]

/-- The first clause: no instruction at debug speed reaches the memory side. -/
theorem exec_debugSpeed {i : Instr} {s t : State} (ha : s.dbg.active = true) (hs : s.dbg.system = false)
    (hi : debugClass i ≠ .barred) (h : exec i s = .next t) :
    t.mem = s.mem ∧ t.wbuf = s.wbuf ∧ t.dcache = s.dcache ∧ t.icache = s.icache ∧ t.cp15 = s.cp15 := by
  have speed : s.debugSpeed = true := by rw [State.debugSpeed, ha, hs, Bool.not_false, Bool.and_true]
  obtain ⟨mem, wbuf, dcache, icache, cp15, -⟩ := (exec_debug (.refl speed) i hi).next t h
  exact ⟨mem, wbuf, dcache, icache, cp15⟩

/-- Settles O60: the first clause by the instructions that debug state allows, each other by the case of
RUN-TEST/IDLE. -/
theorem instructionsInDebugState : Obligations.InstructionsInDebugState := by
  refine ⟨fun i s t ha hs => exec_debugSpeed ha hs, fun s w i ha hn => ?_⟩
  intro clock r
  have run : clock = runTestIdle s := applyInput_runTestIdle hn
  refine ⟨fun h => run.trans (runTestIdle_reset h), fun hb hr hi hc => ?_, fun hb hr hi => ?_⟩
  · have core : clock = debugClock r := run.trans (runTestIdle_intest ha hb hr hi hc)
    rw [core]
    refine ⟨fun v rest hout => debugClock_export (s := r) hout, fun hout hs => debugClock_system (s := r) hout hs,
      fun hout hs hf => debugClock_flushed (s := r) hout hs hf, fun hout hs hf => ?_⟩
    obtain ⟨⟨d, taken⟩, whole, half⟩ := clockIn_cases r
    refine ⟨r.clockIn.1, d, fun arm => ?_, half, fun hp => ?_, fun hp hd => ?_⟩
    · have item := whole arm
      rw [item] at taken
      exact ⟨congrArg Prod.fst item, (congrArg State.draws taken).symm⟩
    · rw [debugClock_first (s := r) hout hs hf hp, taken]
    · intro words ready
      have there : (r.clockIn.2.showExec w) = { s with instrExec := ready.instrExec, draws := d } := by
        rw [taken]
        rfl
      subst hd
      refine ⟨fun hw => debugClock_collect (s := r) hout hs hf hp hw, fun hw hi => ?_, fun hw hi t hx => ?_⟩
      · rw [debugClock_run (s := r) hout hs hf hp hw]
        exact debugRun_barred hi ..
      · rw [debugClock_run (s := r) hout hs hf hp hw, there]
        exact debugRun_outcome hi _ hx
  · have restart := run.trans (runTestIdle_restart ha hb hr hi)
    refine ⟨fun h => restart.trans (if_neg (ne_true_of_eq_false h)), fun h hp => ?_, fun h hp hd => ?_⟩
    · rw [restart, if_pos h]
      exact debugRestart_idle (s := r) hp
    · rw [restart, if_pos h]
      refine ⟨debugRestart_barred (s := r) hp hd, fun hi t hx => ?_, fun hi t hx => ?_⟩
      · exact (debugRestart_compute (s := r) hp hd hi).trans (leaveDebug_of_next hx)
      · exact (debugRestart_memory (s := r) hp hd hi).trans (systemAccess_of_next hx)

end Sys2Proof.Machine
end

section
/-!
PROOFS. Every code word is the encoding of what it decodes to: the fields that the decoder takes out of a word and the
bits that it has tested on the way are all its bits, and they stand where the encoder puts them.
-/

namespace Sys2Proof
open Laws

/-! What a code word reads from a bit on. -/

/-- From bit `lo` on, the code word `w` reads `x`. -/
def Reads {k n : Nat} (w : BitVec k) (lo : Nat) (x : BitVec n) : Prop := fld w lo n = x

section
variable {k n m lo : Nat} {w : BitVec k}

theorem reads_fld : Reads w lo (fld w lo n) := rfl

theorem reads_iff_bits (x : BitVec n) : Reads w lo x ↔ ∀ i < n, bitAt w (lo + i) = x.getLsbD i := by
  refine ⟨fun h i hi => ?_, fun h => BitVec.eq_of_getLsbD_eq fun i hi => ?_⟩
  · rw [← h, fld, BitVec.getLsbD_extractLsb', decide_eq_true hi, Bool.true_and, bitAt]
  · rw [← h i hi, fld, BitVec.getLsbD_extractLsb', decide_eq_true hi, Bool.true_and, bitAt]

theorem Reads.append {x : BitVec n} {y : BitVec m} (hx : Reads w (lo + m) x) (hy : Reads w lo y) :
    Reads w lo (x ++ y) := by
  rw [reads_iff_bits] at hx hy ⊢
  intro i hi
  rw [BitVec.getLsbD_append]
  split_ifs with low
  · exact hy i low
  · rw [← hx (i - m) (by omega), Nat.add_assoc, Nat.add_sub_cancel' (Nat.le_of_not_lt low)]

theorem reads_ofNat_zero (v : Nat) : Reads w lo (BitVec.ofNat 0 v) := BitVec.eq_of_zero_length rfl

/-- A constant is read bit by bit, from its lowest. -/
theorem reads_ofNat_succ (v : Nat) :
    Reads w lo (BitVec.ofNat (n + 1) v) ↔ bitAt w lo = v.testBit 0 ∧ Reads w (lo + 1) (BitVec.ofNat n (v / 2)) := by
  rw [reads_iff_bits, reads_iff_bits, Nat.forall_lt_succ_left]
  refine and_congr ?_ (forall₂_congr fun i hi => ?_)
  · rw [BitVec.getLsbD_ofNat, decide_eq_true (Nat.succ_pos n), Bool.true_and]
    rfl
  · rw [BitVec.getLsbD_ofNat, BitVec.getLsbD_ofNat, decide_eq_true hi, decide_eq_true (Nat.succ_lt_succ hi),
      Nat.testBit_succ, Nat.add_assoc, Nat.add_comm i 1]

theorem fld_of_toNat {v : Nat} (h : (fld w lo n).toNat = v) : fld w lo n = BitVec.ofNat n v := by
  rw [← h, BitVec.ofNat_toNat, BitVec.setWidth_eq]

end

/-! The ARM words. -/

/-- The term is a well-formed instruction whose code word is `c`. -/
def StandsFor (c : Code) (i : Instr) : Prop := i.wellFormed = true ∧ encode i = c

theorem StandsFor.arm {i : Instr} {x w : Word} (wf : i.wellFormed = true) (e : encode i = .arm x) (h : Reads w 0 x) :
    StandsFor (.arm w) i :=
  ⟨wf, by rw [e, ← h, fld_whole]⟩

theorem StandsFor.thumb {i : Instr} {x h : Half} (wf : i.wellFormed = true) (e : encode i = .thumb x)
    (r : Reads h 0 x) : StandsFor (.thumb h) i :=
  ⟨wf, by rw [e, ← r, fld_whole]⟩

section
variable {w : Word} (cond : fld w 28 4 ≠ 15#4)
include cond

theorem condition_formed : (fld w 28 4 != 15#4) = true := bne_iff_ne.mpr cond

section
variable (b27 : bitAt w 27 = false) (b26 : bitAt w 26 = false)
include b27 b26

/-! R202 lines 1 to 7. -/

theorem decodeMultiply_standsFor (b25 : bitAt w 25 = false) (b24 : bitAt w 24 = false) (b7 : bitAt w 7 = true)
    (b6 : bitAt w 6 = false) (b5 : bitAt w 5 = false) (b4 : bitAt w 4 = true) :
    StandsFor (.arm w) (decodeMultiply w) := by
  unfold decodeMultiply
  split_ifs <;> refine .arm (condition_formed cond) rfl ?_ <;> repeat' apply Reads.append
  all_goals simp_all [reads_fld, reads_ofNat_succ, reads_ofNat_zero]

theorem decodeSwap_standsFor (b25 : bitAt w 25 = false) (b24 : bitAt w 24 = true) (b7 : bitAt w 7 = true)
    (b6 : bitAt w 6 = false) (b5 : bitAt w 5 = false) (b4 : bitAt w 4 = true) :
    StandsFor (.arm w) (decodeSwap w) := by
  unfold decodeSwap
  split_ifs <;> refine .arm (condition_formed cond) rfl ?_ <;> repeat' apply Reads.append
  all_goals simp_all [reads_fld, reads_ofNat_succ, reads_ofNat_zero]

theorem decodeHalf_standsFor (b25 : bitAt w 25 = false) (b7 : bitAt w 7 = true)
    (b65 : bitAt w 6 = true ∨ bitAt w 5 = true) (b4 : bitAt w 4 = true) : StandsFor (.arm w) (decodeHalf w) := by
  unfold decodeHalf
  split_ifs <;> refine .arm (condition_formed cond) rfl ?_ <;> repeat' apply Reads.append
  all_goals simp_all [reads_fld, reads_ofNat_succ, reads_ofNat_zero]

theorem decodeControl_standsFor (b24 : bitAt w 24 = true) (b23 : bitAt w 23 = false) (b20 : bitAt w 20 = false)
    (b74 : bitAt w 25 = false → ¬ (bitAt w 7 = true ∧ bitAt w 4 = true)) :
    StandsFor (.arm w) (decodeControl w) := by
  unfold decodeControl
  split_ifs <;> refine .arm (condition_formed cond) rfl ?_ <;> repeat' apply Reads.append
  all_goals simp_all [reads_fld, reads_ofNat_succ, reads_ofNat_zero]

theorem decodeDpImm_standsFor (b25 : bitAt w 25 = true)
    (test : bitAt w 24 = true → bitAt w 23 = false → bitAt w 20 = true) : StandsFor (.arm w) (decodeDpImm w) := by
  have bound := (fld w 21 4).isLt
  unfold decodeDpImm
  interval_cases op : (fld w 21 4).toNat <;> refine .arm (condition_formed cond) rfl ?_ <;>
    repeat' apply Reads.append
  all_goals
    have opcode : Reads w 21 _ := fld_of_toNat op
    simp_all [reads_fld, reads_ofNat_succ, reads_ofNat_zero]

theorem decodeDpRegShift_standsFor (b25 : bitAt w 25 = false) (b7 : bitAt w 7 = false) (b4 : bitAt w 4 = true)
    (test : bitAt w 24 = true → bitAt w 23 = false → bitAt w 20 = true) :
    StandsFor (.arm w) (decodeDpRegShift w) := by
  have bound := (fld w 21 4).isLt
  unfold decodeDpRegShift
  interval_cases op : (fld w 21 4).toNat <;> refine .arm (condition_formed cond) rfl ?_ <;>
    repeat' apply Reads.append
  all_goals
    have opcode : Reads w 21 _ := fld_of_toNat op
    simp_all [reads_fld, reads_ofNat_succ, reads_ofNat_zero]

theorem decodeDpImmShift_standsFor (b25 : bitAt w 25 = false) (b4 : bitAt w 4 = false)
    (test : bitAt w 24 = true → bitAt w 23 = false → bitAt w 20 = true) :
    StandsFor (.arm w) (decodeDpImmShift w) := by
  have bound := (fld w 21 4).isLt
  unfold decodeDpImmShift
  interval_cases op : (fld w 21 4).toNat <;> refine .arm (condition_formed cond) rfl ?_ <;>
    repeat' apply Reads.append
  all_goals
    have opcode : Reads w 21 _ := fld_of_toNat op
    simp_all [reads_fld, reads_ofNat_succ, reads_ofNat_zero]

end

/-! R202 lines 8 to 13. -/

section
variable (b27 : bitAt w 27 = false) (b26 : bitAt w 26 = true)
include b27 b26

theorem decodeLsImm_standsFor (b25 : bitAt w 25 = false) : StandsFor (.arm w) (decodeLsImm w) := by
  unfold decodeLsImm
  split_ifs <;> refine .arm (condition_formed cond) rfl ?_ <;> repeat' apply Reads.append
  all_goals simp_all [reads_fld, reads_ofNat_succ, reads_ofNat_zero]

theorem decodeLsReg_standsFor (b25 : bitAt w 25 = true) (b4 : bitAt w 4 = false) :
    StandsFor (.arm w) (decodeLsReg w) := by
  unfold decodeLsReg
  split_ifs <;> refine .arm (condition_formed cond) rfl ?_ <;> repeat' apply Reads.append
  all_goals simp_all [reads_fld, reads_ofNat_succ, reads_ofNat_zero]

end

theorem decodeLsm_standsFor (b27 : bitAt w 27 = true) (b26 : bitAt w 26 = false) (b25 : bitAt w 25 = false) :
    StandsFor (.arm w) (decodeLsm w) := by
  unfold decodeLsm
  split_ifs <;> refine .arm (condition_formed cond) rfl ?_ <;> repeat' apply Reads.append
  all_goals simp_all [reads_fld, reads_ofNat_succ, reads_ofNat_zero]

theorem decodeLsc_standsFor (b27 : bitAt w 27 = true) (b26 : bitAt w 26 = true) (b25 : bitAt w 25 = false) :
    StandsFor (.arm w) (decodeLsc w) := by
  unfold decodeLsc
  split_ifs <;> refine .arm (condition_formed cond) rfl ?_ <;> repeat' apply Reads.append
  all_goals simp_all [reads_fld, reads_ofNat_succ, reads_ofNat_zero]

section
variable (b27 : bitAt w 27 = true) (b26 : bitAt w 26 = true) (b25 : bitAt w 25 = true) (b24 : bitAt w 24 = false)
  (b4 : bitAt w 4 = true)
include b27 b26 b25 b24 b4

/-! R206: the rows of CP15 and CP14, each a choice of CRn, CRm and opcode_2. -/

theorem StandsFor.systemRow {i : Instr} {l : BitVec 1} {cp : BitVec 4} {high low : BitVec 12}
    (opcode1 : Reads w 21 0#3) (b20 : Reads w 20 l) (number : Reads w 8 cp) (wf : i.wellFormed = (fld w 28 4 != 15#4))
    (e : encode i = .arm (fld w 28 4 ++ high ++ fld w 12 4 ++ low))
    (hhigh : high = 0b1110#4 ++ 0#3 ++ l ++ fld w 16 4) (hlow : low = cp ++ fld w 5 3 ++ 1#1 ++ fld w 0 4) :
    StandsFor (.arm w) i := by
  subst hhigh hlow
  refine .arm (wf.trans (condition_formed cond)) e ?_
  repeat' apply Reads.append
  all_goals simp_all [reads_fld, reads_ofNat_succ, reads_ofNat_zero]

theorem decodeMrc15_standsFor (opcode1 : Reads w 21 0#3) (b20 : Reads w 20 1#1) (number : Reads w 8 15#4)
    (listed : mrc15Listed (fld w 16 4) (fld w 0 4) (fld w 5 3) = true) : StandsFor (.arm w) (decodeMrc15 w) := by
  unfold mrc15Listed at listed
  split at listed
  any_goals contradiction
  all_goals
    next crn crm opcode2 =>
    rw [decodeMrc15, crn, crm, opcode2]
    exact .systemRow cond b27 b26 b25 b24 b4 opcode1 b20 number rfl rfl (by rw [fld_of_toNat crn]; rfl)
      (by rw [fld_of_toNat crm, fld_of_toNat opcode2]; rfl)

theorem decodeMcr15_standsFor (opcode1 : Reads w 21 0#3) (b20 : Reads w 20 0#1) (number : Reads w 8 15#4)
    (listed : mcr15Listed (fld w 16 4) (fld w 0 4) (fld w 5 3) = true) : StandsFor (.arm w) (decodeMcr15 w) := by
  unfold mcr15Listed at listed
  split at listed
  any_goals contradiction
  all_goals
    next crn crm opcode2 =>
    rw [decodeMcr15, crn, crm, opcode2]
    exact .systemRow cond b27 b26 b25 b24 b4 opcode1 b20 number rfl rfl (by rw [fld_of_toNat crn]; rfl)
      (by rw [fld_of_toNat crm, fld_of_toNat opcode2]; rfl)

theorem decodeMrc14_standsFor (opcode1 : Reads w 21 0#3) (b20 : Reads w 20 1#1) (number : Reads w 8 14#4)
    (listed : mrc14Listed (fld w 16 4) (fld w 0 4) (fld w 5 3) = true) : StandsFor (.arm w) (decodeMrc14 w) := by
  unfold mrc14Listed at listed
  split at listed
  any_goals contradiction
  all_goals
    next crn crm opcode2 =>
    rw [decodeMrc14, crn, crm, opcode2]
    exact .systemRow cond b27 b26 b25 b24 b4 opcode1 b20 number rfl rfl (by rw [fld_of_toNat crn]; rfl)
      (by rw [fld_of_toNat crm, fld_of_toNat opcode2]; rfl)

theorem decodeMcr14_standsFor (opcode1 : Reads w 21 0#3) (b20 : Reads w 20 0#1) (number : Reads w 8 14#4)
    (listed : mcr14Listed (fld w 16 4) (fld w 0 4) (fld w 5 3) = true) : StandsFor (.arm w) (decodeMcr14 w) := by
  unfold mcr14Listed at listed
  split at listed
  any_goals contradiction
  all_goals
    next crn crm opcode2 =>
    rw [decodeMcr14, crn, crm, opcode2]
    exact .systemRow cond b27 b26 b25 b24 b4 opcode1 b20 number rfl rfl (by rw [fld_of_toNat crn]; rfl)
      (by rw [fld_of_toNat crm, fld_of_toNat opcode2]; rfl)

/-- A register read is a generic row, or a row of CP15 or CP14. -/
theorem registerRead_standsFor (b20 : Reads w 20 1#1) :
    StandsFor (.arm w)
      (if mrcGeneric (fld w 21 3) (fld w 16 4) (fld w 8 4) (fld w 5 3) (fld w 0 4) then
        .mrc (fld w 28 4) (fld w 21 3) (fld w 16 4) (fld w 12 4) (fld w 8 4) (fld w 5 3) (fld w 0 4)
      else if bitAt w 8 then decodeMrc15 w else decodeMrc14 w) := by
  by_cases row : mrcGeneric (fld w 21 3) (fld w 16 4) (fld w 8 4) (fld w 5 3) (fld w 0 4) = true
  · rw [if_pos row]
    refine .arm (Bool.and_eq_true_iff.mpr ⟨condition_formed cond, row⟩) rfl ?_
    repeat' apply Reads.append
    all_goals simp_all [reads_fld, reads_ofNat_succ, reads_ofNat_zero]
  rw [if_neg row]
  simp only [mrcGeneric, Bool.not_eq_true', Bool.not_eq_false, Bool.and_eq_true, Bool.or_eq_true, beq_iff_eq] at row
  obtain ⟨opcode1, ⟨number, listed⟩ | ⟨number, listed⟩⟩ := row
  · have b8 : bitAt w 8 = true := ((reads_ofNat_succ 15).mp number).1
    rw [if_pos b8]
    exact decodeMrc15_standsFor cond b27 b26 b25 b24 b4 opcode1 b20 number listed
  · have b8 : bitAt w 8 = false := ((reads_ofNat_succ 14).mp number).1
    rw [if_neg (ne_true_of_eq_false b8)]
    exact decodeMrc14_standsFor cond b27 b26 b25 b24 b4 opcode1 b20 number listed

/-- A register write is a generic row, or a row of CP15 or CP14. -/
theorem registerWrite_standsFor (b20 : Reads w 20 0#1) :
    StandsFor (.arm w)
      (if mcrGeneric (fld w 21 3) (fld w 16 4) (fld w 8 4) (fld w 5 3) (fld w 0 4) then
        .mcr (fld w 28 4) (fld w 21 3) (fld w 16 4) (fld w 12 4) (fld w 8 4) (fld w 5 3) (fld w 0 4)
      else if bitAt w 8 then decodeMcr15 w else decodeMcr14 w) := by
  by_cases row : mcrGeneric (fld w 21 3) (fld w 16 4) (fld w 8 4) (fld w 5 3) (fld w 0 4) = true
  · rw [if_pos row]
    refine .arm (Bool.and_eq_true_iff.mpr ⟨condition_formed cond, row⟩) rfl ?_
    repeat' apply Reads.append
    all_goals simp_all [reads_fld, reads_ofNat_succ, reads_ofNat_zero]
  rw [if_neg row]
  simp only [mcrGeneric, Bool.not_eq_true', Bool.not_eq_false, Bool.and_eq_true, Bool.or_eq_true, beq_iff_eq] at row
  obtain ⟨opcode1, ⟨number, listed⟩ | ⟨number, listed⟩⟩ := row
  · have b8 : bitAt w 8 = true := ((reads_ofNat_succ 15).mp number).1
    rw [if_pos b8]
    exact decodeMcr15_standsFor cond b27 b26 b25 b24 b4 opcode1 b20 number listed
  · have b8 : bitAt w 8 = false := ((reads_ofNat_succ 14).mp number).1
    rw [if_neg (ne_true_of_eq_false b8)]
    exact decodeMcr14_standsFor cond b27 b26 b25 b24 b4 opcode1 b20 number listed

end

/-! R202 lines 14 to 16. -/

theorem decodeCoproc_standsFor (b27 : bitAt w 27 = true) (b26 : bitAt w 26 = true) (b25 : bitAt w 25 = true) :
    StandsFor (.arm w) (decodeCoproc w) := by
  unfold decodeCoproc
  by_cases b24 : bitAt w 24 = true
  · rw [if_pos b24]
    refine .arm (condition_formed cond) rfl ?_
    repeat' apply Reads.append
    all_goals simp_all [reads_fld, reads_ofNat_succ, reads_ofNat_zero]
  rw [if_neg b24]
  rw [Bool.not_eq_true] at b24
  by_cases b4 : bitAt w 4 = true
  · rw [if_pos b4]
    by_cases b20 : bitAt w 20 = true
    · rw [if_pos b20]
      exact registerRead_standsFor cond b27 b26 b25 b24 b4 ((reads_ofNat_succ 1).mpr ⟨b20, reads_ofNat_zero _⟩)
    · rw [if_neg b20]
      rw [Bool.not_eq_true] at b20
      exact registerWrite_standsFor cond b27 b26 b25 b24 b4 ((reads_ofNat_succ 0).mpr ⟨b20, reads_ofNat_zero _⟩)
  · rw [if_neg b4]
    refine .arm (condition_formed cond) rfl ?_
    repeat' apply Reads.append
    all_goals simp_all [reads_fld, reads_ofNat_succ, reads_ofNat_zero]

theorem b_standsFor (b27 : bitAt w 27 = true) (b26 : bitAt w 26 = false) (b25 : bitAt w 25 = true)
    (b24 : bitAt w 24 = false) : StandsFor (.arm w) (.b (fld w 28 4) (fld w 0 24)) := by
  refine .arm (condition_formed cond) rfl ?_
  repeat' apply Reads.append
  all_goals simp_all [reads_fld, reads_ofNat_succ, reads_ofNat_zero]

theorem bl_standsFor (b27 : bitAt w 27 = true) (b26 : bitAt w 26 = false) (b25 : bitAt w 25 = true)
    (b24 : bitAt w 24 = true) : StandsFor (.arm w) (.bl (fld w 28 4) (fld w 0 24)) := by
  refine .arm (condition_formed cond) rfl ?_
  repeat' apply Reads.append
  all_goals simp_all [reads_fld, reads_ofNat_succ, reads_ofNat_zero]

theorem undSpace_standsFor (b27 : bitAt w 27 = false) (b26 : bitAt w 26 = true) (b25 : bitAt w 25 = true)
    (b4 : bitAt w 4 = true) : StandsFor (.arm w) (.undSpace (fld w 28 4) (fld w 5 20) (fld w 0 4)) := by
  refine .arm (condition_formed cond) rfl ?_
  repeat' apply Reads.append
  all_goals simp_all [reads_fld, reads_ofNat_succ, reads_ofNat_zero]

end

/-- R202: the rows of the ARM decode, by the bits that choose among them. -/
theorem decodeArm_standsFor (w : Word) : StandsFor (.arm w) (decodeArm w) := by
  unfold decodeArm
  by_cases never : fld w 28 4 = 15#4
  · rw [if_pos never]
    exact .arm rfl rfl (Reads.append never reads_fld)
  rw [if_neg never]
  split_ifs with b27 b26 b25 b25 b24 b26 b25 b4 extension b65 b24 control b25 b4
  all_goals try simp only [Bool.not_eq_true, Bool.and_eq_true, Bool.or_eq_true, Bool.not_eq_eq_eq_not,
    Bool.not_true] at *
  · exact decodeCoproc_standsFor never b27 b26 b25
  · exact decodeLsc_standsFor never b27 b26 b25
  · exact bl_standsFor never b27 b26 b25 b24
  · exact b_standsFor never b27 b26 b25 b24
  · exact decodeLsm_standsFor never b27 b26 b25
  · exact undSpace_standsFor never b27 b26 b25 b4
  · exact decodeLsReg_standsFor never b27 b26 b25 b4
  · exact decodeLsImm_standsFor never b27 b26 b25
  · exact decodeHalf_standsFor never b27 b26 extension.1.1 extension.1.2 b65 extension.2
  · obtain ⟨b6, b5⟩ := not_or.mp b65
    exact decodeSwap_standsFor never b27 b26 extension.1.1 b24 extension.1.2 (Bool.eq_false_iff.mpr b6)
      (Bool.eq_false_iff.mpr b5) extension.2
  · obtain ⟨b6, b5⟩ := not_or.mp b65
    exact decodeMultiply_standsFor never b27 b26 extension.1.1 b24 extension.1.2 (Bool.eq_false_iff.mpr b6)
      (Bool.eq_false_iff.mpr b5) extension.2
  · exact decodeControl_standsFor never b27 b26 control.1.1 control.1.2 control.2
      fun b25 b74 => extension ⟨⟨b25, b74.1⟩, b74.2⟩
  · exact decodeDpImm_standsFor never b27 b26 b25 fun b24 b23 => by simpa [b24, b23] using control
  · exact decodeDpRegShift_standsFor never b27 b26 b25 (by simpa [b25, b4] using extension) b4
      fun b24 b23 => by simpa [b24, b23] using control
  · exact decodeDpImmShift_standsFor never b27 b26 b25 b4 fun b24 b23 => by simpa [b24, b23] using control

/-! The Thumb halfwords. -/

section
variable {h : Half}

theorem decodeThumbAddSub_standsFor (format : Reads h 11 0b00011#5) :
    StandsFor (.thumb h) (decodeThumbAddSub h) := by
  unfold decodeThumbAddSub
  split_ifs <;> refine .thumb rfl rfl ?_ <;> repeat' apply Reads.append
  all_goals simp_all [reads_fld, reads_ofNat_succ, reads_ofNat_zero]

theorem decodeThumbAlu_standsFor (format : Reads h 11 0b01000#5) (b10 : bitAt h 10 = false) :
    StandsFor (.thumb h) (decodeThumbAlu h) := by
  have bound := (fld h 6 4).isLt
  unfold decodeThumbAlu
  interval_cases op : (fld h 6 4).toNat <;> refine .thumb rfl rfl ?_ <;> repeat' apply Reads.append
  all_goals
    have opcode : Reads h 6 _ := fld_of_toNat op
    simp_all [reads_fld, reads_ofNat_succ, reads_ofNat_zero]

theorem decodeThumbHigh_standsFor (format : Reads h 11 0b01000#5) (b10 : bitAt h 10 = true) :
    StandsFor (.thumb h) (decodeThumbHigh h) := by
  unfold decodeThumbHigh
  split_ifs <;> refine .thumb rfl rfl ?_ <;> repeat' apply Reads.append
  all_goals simp_all [reads_fld, reads_ofNat_succ, reads_ofNat_zero]

theorem decodeThumbLsReg_standsFor (format : Reads h 12 0b0101#4) : StandsFor (.thumb h) (decodeThumbLsReg h) := by
  unfold decodeThumbLsReg
  split_ifs <;> refine .thumb rfl rfl ?_ <;> repeat' apply Reads.append
  all_goals simp_all [reads_fld, reads_ofNat_succ, reads_ofNat_zero]

theorem decodeThumbMisc_standsFor (format : Reads h 12 0b1011#4) : StandsFor (.thumb h) (decodeThumbMisc h) := by
  unfold decodeThumbMisc
  split_ifs <;> refine .thumb rfl rfl ?_ <;> repeat' apply Reads.append
  all_goals simp_all [reads_fld, reads_ofNat_succ, reads_ofNat_zero]

theorem decodeThumbCond_standsFor (format : Reads h 12 0b1101#4) : StandsFor (.thumb h) (decodeThumbCond h) := by
  have bound := (fld h 8 4).isLt
  unfold decodeThumbCond
  interval_cases op : (fld h 8 4).toNat <;> refine .thumb rfl rfl ?_ <;> repeat' apply Reads.append
  all_goals
    have condition : Reads h 8 _ := fld_of_toNat op
    simp_all [reads_fld, reads_ofNat_succ, reads_ofNat_zero]

end

/-- R221: the formats of the Thumb decode, by bits 15:11. -/
theorem decodeThumb_standsFor (h : Half) : StandsFor (.thumb h) (decodeThumb h) := by
  have bound := (fld h 11 5).isLt
  match top : (fld h 11 5).toNat with
  | 3 =>
    rw [decodeThumb, top]
    exact decodeThumbAddSub_standsFor (fld_of_toNat top)
  | 8 =>
    rw [decodeThumb, top]
    cases b10 : bitAt h 10 with
    | false => exact decodeThumbAlu_standsFor (fld_of_toNat top) b10
    | true => exact decodeThumbHigh_standsFor (fld_of_toNat top) b10
  | 10 | 11 =>
    rw [decodeThumb, top]
    exact decodeThumbLsReg_standsFor ((reads_ofNat_succ _).mp (fld_of_toNat top)).2
  | 22 | 23 =>
    rw [decodeThumb, top]
    exact decodeThumbMisc_standsFor ((reads_ofNat_succ _).mp (fld_of_toNat top)).2
  | 26 | 27 =>
    rw [decodeThumb, top]
    exact decodeThumbCond_standsFor ((reads_ofNat_succ _).mp (fld_of_toNat top)).2
  | 0 | 1 | 2 | 4 | 5 | 6 | 7 | 9 | 12 | 13 | 14 | 15 | 16 | 17 | 18 | 19 | 20 | 21 | 24 | 25 | 28 | 29 | 30 | 31 =>
    have format : Reads h 11 _ := fld_of_toNat top
    rw [decodeThumb, top]
    refine .thumb rfl rfl ?_
    repeat' apply Reads.append
    all_goals simp_all [reads_fld, reads_ofNat_succ, reads_ofNat_zero]
  | n + 32 => omega

/-- Settles O44: the decoder takes every field of a word from the place where the encoder puts it, and has tested
every other bit. -/
theorem encodeUndoesDecode : Obligations.EncodeUndoesDecode := by
  intro c
  cases c with
  | arm w => exact decodeArm_standsFor w
  | thumb h => exact decodeThumb_standsFor h

/-! The bytes of a code word, and the words that the specification writes out. -/

/-- Settles O42, by running the decoder on the twelve words. -/
theorem decodedWords : Obligations.DecodedWords := by
  unfold Obligations.DecodedWords
  decide

theorem decodeBytes_codeBytes (c : Code) (rest : List Byte) :
    decodeBytes (!c.isArm) (c.bytes ++ rest) = .ok (decode c, rest) := by
  cases c with
  | arm w =>
    have whole : wordOfBytes (fld w 0 8) (fld w 8 8) (fld w 16 8) (fld w 24 8) = w := Machine.bytes_append w
    change Except.ok (decodeArm (wordOfBytes (fld w 0 8) (fld w 8 8) (fld w 16 8) (fld w 24 8)), rest) = _
    rw [whole]
    rfl
  | thumb h =>
    have whole : Reads h 0 (halfOfBytes (fld h 0 8) (fld h 8 8)) := Reads.append reads_fld reads_fld
    change Except.ok (decodeThumb (halfOfBytes (fld h 0 8) (fld h 8 8)), rest) = _
    rw [← whole, fld_whole]
    rfl

/-- Settles O43, by the round trip of each row. -/
theorem decodeUndoesEncode : Obligations.DecodeUndoesEncode := by
  intro i rest wf
  refine ⟨Machine.roundTrip i wf, ?_⟩
  have read := decodeBytes_codeBytes (encode i) rest
  rw [Machine.roundTrip i wf] at read
  rw [← read, encodeBytes]
  cases encode i <;> rfl

end Sys2Proof
end

section
/-!
PROOFS. Branches and exchanges of instruction set, ARM and Thumb, and the results that Thumb writes to a high register.
-/

namespace Sys2Proof.Machine

/-! Branches to an exact address. -/

theorem branchTo_inside {target : Int} {s : State} (low : 0 ≤ target) (high : target < 2 ^ 32) :
    branchTo target s = .next { s with pc := BitVec.ofInt 32 target } := if_pos ⟨low, high⟩

theorem branchTo_outside {target : Int} {s : State} (h : target < 0 ∨ 2 ^ 32 ≤ target) :
    branchTo target s = .refused .addressWrap := if_neg (by omega)

/-! Exchanges of instruction set. -/

theorem extractLsb'_one (v : Word) : v.extractLsb' 0 1 = BitVec.ofBool (v.getLsbD 0) := by
  apply BitVec.eq_of_getLsbD_eq
  intro i hi
  obtain rfl : i = 0 := by omega
  simp

theorem clearBit0_eq (v : Word) : v &&& 0xFFFFFFFE#32 = BitVec.ofNat 32 (2 * (v.toNat / 2)) := by
  have shifted : v &&& 0xFFFFFFFE#32 = (v >>> 1) <<< 1 := by
    apply BitVec.eq_of_getLsbD_eq
    intro i hi
    have mask : ∀ i < 32, (0xFFFFFFFE#32).getLsbD i = !decide (i < 1) := by decide
    rw [BitVec.getLsbD_and, BitVec.getLsbD_shiftLeft, BitVec.getLsbD_ushiftRight, mask i hi, decide_eq_true hi]
    grind
  rw [shifted]
  bv_omega

theorem lowTwoBits_eq_two (v : Word) : v.extractLsb' 0 2 = 2#2 ↔ v.toNat % 4 = 2 := by
  rw [← BitVec.toNat_inj, BitVec.extractLsb'_toNat, Nat.shiftRight_zero]
  rfl

theorem exchangeTo_takes {v : Word} {s : State} (h : v.toNat % 4 ≠ 2) :
    exchangeTo v s = .next { s with
      cpsr := s.cpsr.extractLsb' 6 26 ++ v.extractLsb' 0 1 ++ s.cpsr.extractLsb' 0 5
      pc := v &&& 0xFFFFFFFE#32 } := by
  rw [exchangeTo, if_neg (mt (lowTwoBits_eq_two v).mp h), extractLsb'_one]
  rfl

theorem exchangeTo_refused {v : Word} {s : State} (h : v.toNat % 4 = 2) : exchangeTo v s = .refused .bxTarget :=
  if_pos ((lowTwoBits_eq_two v).mpr h)

section
variable {s : State} {cond : BitVec 4} (hc : s.passes cond = true)
include hc

theorem exec_b (imm24 : BitVec 24) : exec (.b cond imm24) s = branchTo (s.branchTarget imm24) s := by
  change execB cond imm24 s = _
  rw [execB, ifPassed_passes hc]

theorem exec_bl (imm24 : BitVec 24) :
    exec (.bl cond imm24) s = branchTo (s.branchTarget imm24) (s.setReg 14#4 (s.pc + 4#32)) := by
  change execBl cond imm24 s = _
  rw [execBl, ifPassed_passes hc]

theorem exec_bx (a b c rm : BitVec 4) :
    exec (.bx cond a b c rm) s = if a ≠ 15#4 ∨ b ≠ 15#4 ∨ c ≠ 15#4 then .refused .shouldBe
      else if rm = 15#4 then .refused .r15Operand else exchangeTo (s.reg rm) s := by
  change execBx cond a b c rm s = _
  rw [execBx, ifPassed_passes hc]

end

/-- Settles O9: the target is computed exactly, so it is inside the address space or the branch is refused; bits 1:0
of BX's register decide the exchange. -/
theorem branchesAndExchange : Obligations.BranchesAndExchange := by
  refine ⟨fun cond imm24 s hc => ⟨fun inside => ⟨?_, ?_⟩, fun outside => ⟨?_, ?_⟩⟩, fun cond a b c rm s hc => ?_⟩
  · exact (exec_b hc imm24).trans (branchTo_inside inside.1 inside.2)
  · exact (exec_bl hc imm24).trans (branchTo_inside inside.1 inside.2)
  · exact (exec_b hc imm24).trans (branchTo_outside outside)
  · exact (exec_bl hc imm24).trans (branchTo_outside outside)
  rw [exec_bx hc]
  refine ⟨?takes, ?target, ?ones, ?pc⟩
  case takes =>
    rintro rfl rfl rfl hrm low
    rw [if_neg (by decide), if_neg hrm, exchangeTo_takes low, clearBit0_eq]
  case target =>
    rintro rfl rfl rfl hrm low
    rw [if_neg (by decide), if_neg hrm, exchangeTo_refused low]
  case ones => exact fun zero => if_pos zero
  case pc =>
    rintro rfl rfl rfl rfl
    rw [if_neg (by decide), if_pos rfl]

/-! Thumb branches. -/

/-- What a conditional branch does, by the outcome of its condition (R508). -/
def CondBranches (s : State) (off8 : BitVec 8) (p : Instr × Bool) : Prop :=
  let near : Int := s.pc.toNat + 4 + 2 * off8.toInt
  (p.2 = false → exec p.1 s = .next s.stepped) ∧
  (p.2 = true → 0 ≤ near → near < 2 ^ 32 → exec p.1 s = .next { s with pc := BitVec.ofInt 32 near }) ∧
  (p.2 = true → near < 0 ∨ 2 ^ 32 ≤ near → exec p.1 s = .refused .addressWrap)

section
variable {s : State} (hr : s.room = true)
include hr

theorem thumbCondBranch_branches {off8 : BitVec 8} {i : Instr} {cond : BitVec 4}
    (e : exec i s = thumbCondBranch cond off8 s) : CondBranches s off8 (i, s.condPassed cond) := by
  refine ⟨fun fails => ?_, fun holds low high => ?_, fun holds outside => ?_⟩
  · rw [e, thumbCondBranch, if_neg (ne_true_of_eq_false fails), finish_room hr]
  · rw [e, thumbCondBranch, if_pos holds]
    exact branchTo_inside low high
  · rw [e, thumbCondBranch, if_pos holds]
    exact branchTo_outside outside

end

theorem signExtend_shiftLeft (off11 : BitVec 11) :
    off11.signExtend 32 <<< 12 = BitVec.ofInt 32 (4096 * off11.toInt) := by
  rw [BitVec.ofInt_mul, BitVec.shiftLeft_eq_mul_twoPow, BitVec.mul_comm]
  rfl

theorem zeroExtend_shiftLeft (off11 : BitVec 11) :
    off11.zeroExtend 32 <<< 1 = BitVec.ofNat 32 (2 * off11.toNat) := by
  bv_omega

/-- Settles O33, by the outcome of the condition and the exact target. -/
theorem thumbBranches : Obligations.ThumbBranches := by
  intro off8 off11 s hr
  refine ⟨?_, fun low high => branchTo_inside low high, fun outside => branchTo_outside outside, ?_, ?_⟩
  · change ∀ p ∈ _, CondBranches s off8 p
    simp only [List.forall_mem_cons, List.not_mem_nil, false_implies, implies_true, and_true]
    exact ⟨thumbCondBranch_branches hr (cond := 0#4) rfl, thumbCondBranch_branches hr (cond := 1#4) rfl,
      thumbCondBranch_branches hr (cond := 2#4) rfl, thumbCondBranch_branches hr (cond := 3#4) rfl,
      thumbCondBranch_branches hr (cond := 4#4) rfl, thumbCondBranch_branches hr (cond := 5#4) rfl,
      thumbCondBranch_branches hr (cond := 6#4) rfl, thumbCondBranch_branches hr (cond := 7#4) rfl,
      thumbCondBranch_branches hr (cond := 8#4) rfl, thumbCondBranch_branches hr (cond := 9#4) rfl,
      thumbCondBranch_branches hr (cond := 10#4) rfl, thumbCondBranch_branches hr (cond := 11#4) rfl,
      thumbCondBranch_branches hr (cond := 12#4) rfl, thumbCondBranch_branches hr (cond := 13#4) rfl⟩
  · have target : s.pc + 4#32 + (off11.signExtend 32 <<< 12) =
        BitVec.ofInt 32 (s.pc.toNat + 4 + 4096 * off11.toInt) := by
      rw [signExtend_shiftLeft, BitVec.ofInt_add, BitVec.ofInt_add, BitVec.ofInt_natCast, BitVec.ofNat_toNat,
        BitVec.setWidth_eq]
      rfl
    rw [← target]
    exact finish_setReg 14#4 _ hr
  · rw [← zeroExtend_shiftLeft]
    rfl

/-! High registers. -/

section
variable {s : State} (hr : s.room = true)
include hr

theorem highWrite_into (d : BitVec 4) (v : Word) :
    highWrite d v s =
      .next (if d = 15#4 then { s with pc := v &&& 0xFFFFFFFE#32 } else { s.setReg d v with pc := s.pc + s.ilen }) := by
  unfold highWrite
  split_ifs
  · rfl
  · exact finish_setReg d v hr

theorem highAdd_into {d m : BitVec 4} (h : d ≠ 15#4 ∨ m ≠ 15#4) :
    highAdd d m s = .next (if d = 15#4 then { s with pc := (s.reg d + s.reg m) &&& 0xFFFFFFFE#32 }
      else { s.setReg d (s.reg d + s.reg m) with pc := s.pc + s.ilen }) := by
  rw [highAdd, if_neg (not_and_or.mpr h), highWrite_into hr]

end

theorem exec_tBx (h2 : BitVec 1) (rs : BitVec 3) (s : State) :
    exec (.tBx h2 rs 0#3) s = exchangeTo (s.reg (highReg h2 rs)) s := by
  change execTBx h2 rs 0#3 s = _
  exact if_neg (not_not_intro rfl)

/-- Settles O30: every sum and move ends in the one write to a high register, and BX in the exchange. -/
theorem thumbHighRegisters : Obligations.ThumbHighRegisters := by
  refine ⟨fun rs rd h2 s hr => ⟨fun h => highAdd_into hr h, fun hd hm => if_pos ⟨hd, hm⟩,
    highAdd_into hr (.inl (lowReg_ne_pc rd)), highWrite_into hr _ _, highWrite_into hr _ _, fun low => ?takes,
    fun low => ?target, fun sbz ones => if_pos ones⟩, fun rs rd sbz h2 s => ⟨rfl, rfl, rfl, rfl⟩⟩
  case takes => rw [exec_tBx, exchangeTo_takes low]
  case target => rw [exec_tBx, exchangeTo_refused low]

end Sys2Proof.Machine
end

section
/-!
PROOFS. The shifter operand: one equation per shift, on the number that the shifted word stands for, holds for every
amount from 1 on; the rows of the tables are its cases.
-/

namespace Sys2Proof.Machine

section
variable (m : Word) {n : Nat} (c : Bool)

theorem shiftLsl_eq (hn : 0 < n) :
    shiftLsl m n c = ⟨BitVec.ofNat 32 (m.toNat * 2 ^ n), decide (n ≤ 32) && m.getLsbD (32 - n)⟩ := by
  have value : BitVec.ofNat 32 (m.toNat * 2 ^ n) = m <<< n := by
    rw [← Nat.shiftLeft_eq]
    exact (BitVec.shiftLeft_eq m n).symm ▸ rfl
  rw [value, shiftLsl, if_neg hn.ne']
  split_ifs with h
  · rw [decide_eq_true h, Bool.true_and]
  · rw [decide_eq_false h, Bool.false_and, BitVec.shiftLeft_eq_zero (by omega)]

theorem shiftLsr_eq (hn : 0 < n) :
    shiftLsr m n c = ⟨BitVec.ofNat 32 (m.toNat / 2 ^ n), m.getLsbD (n - 1)⟩ := by
  have value : BitVec.ofNat 32 (m.toNat / 2 ^ n) = m >>> n := by
    apply BitVec.eq_of_toNat_eq
    rw [BitVec.toNat_ushiftRight, Nat.shiftRight_eq_div_pow, BitVec.toNat_ofNat,
      Nat.mod_eq_of_lt ((Nat.div_le_self ..).trans_lt m.isLt)]
  rw [value, shiftLsr, if_neg hn.ne']
  split_ifs with h
  · rfl
  · rw [BitVec.ushiftRight_eq_zero (by omega), BitVec.getLsbD_of_ge m _ (by omega)]

theorem sshiftRight_of_width_le (h : 32 ≤ n) :
    m.sshiftRight n = if m.getLsbD 31 then 0xFFFFFFFF#32 else 0#32 := by
  apply BitVec.eq_of_getLsbD_eq
  intro i hi
  have ones : ∀ i < 32, (0xFFFFFFFF#32).getLsbD i = true := by decide
  rw [BitVec.getLsbD_sshiftRight, decide_eq_false (by omega), if_neg (by omega), BitVec.msb_eq_getLsbD_last]
  cases m.getLsbD 31 <;> simp [ones i hi]

theorem shiftAsr_eq (hn : 0 < n) :
    shiftAsr m n c = ⟨BitVec.ofInt 32 (m.toInt / 2 ^ n), m.getLsbD (min (n - 1) 31)⟩ := by
  have value : BitVec.ofInt 32 (m.toInt / 2 ^ n) = m.sshiftRight n := by
    have number : (m.sshiftRight n).toInt = m.toInt / 2 ^ n := by
      rw [BitVec.toInt_sshiftRight, Int.shiftRight_eq_div_pow]
      rfl
    rw [← number, BitVec.ofInt_toInt]
  rw [value, shiftAsr, if_neg hn.ne']
  by_cases h : n < 32
  · rw [if_pos h, min_eq_left (by omega)]
  · rw [if_neg h, sshiftRight_of_width_le m (by omega), min_eq_right (by omega)]

theorem shiftRor_eq (h : n % 32 ≠ 0) :
    shiftRor m n c = ⟨(m >>> (n % 32)) ||| (m <<< (32 - n % 32)), m.getLsbD (n % 32 - 1)⟩ := by
  rw [shiftRor, if_neg (by omega), if_neg h, BitVec.rotateRight_def, Nat.mod_mod]

theorem shiftRrx_eq : shiftRrx m c = ⟨((BitVec.ofBool c).zeroExtend 32 <<< 31) ||| (m >>> 1), m.getLsbD 0⟩ := by
  have value : BitVec.ofBool c ++ m.extractLsb' 1 31 = ((BitVec.ofBool c).zeroExtend 32 <<< 31) ||| (m >>> 1) := by
    apply BitVec.eq_of_getLsbD_eq
    intro i hi
    rw [BitVec.getLsbD_append, BitVec.getLsbD_or, BitVec.getLsbD_shiftLeft, BitVec.getLsbD_ushiftRight,
      decide_eq_true hi, Bool.true_and]
    split_ifs with low
    · rw [decide_eq_true low, BitVec.getLsbD_extractLsb', decide_eq_true low]
      rfl
    · obtain rfl : i = 31 := by omega
      rw [BitVec.getLsbD_of_ge m 32 (by decide)]
      simp
  rw [shiftRrx, value]

end

theorem shiftRor_multiple {m : Word} {n : Nat} (hn : 0 < n) (c : Bool) (h : n % 32 = 0) :
    shiftRor m n c = ⟨m, m.getLsbD 31⟩ := by
  rw [shiftRor, if_neg hn.ne', if_pos h]

theorem shiftByReg_zero (ty : BitVec 2) (m : Word) (c : Bool) : shiftByReg ty 0#8 m c = ⟨m, c⟩ := by
  unfold shiftByReg
  split <;> rfl

theorem rotImm_bit (rot : BitVec 4) (imm8 : BitVec 8) (c : Bool) {i : Nat} (hi : i < 32) :
    (rotImm rot imm8 c).value.getLsbD i = imm8.getLsbD ((i + 2 * rot.toNat) % 32) := by
  change ((imm8.zeroExtend 32 : Word).rotateRight (2 * rot.toNat)).getLsbD i = _
  have amount : 2 * rot.toNat < 32 := by omega
  rw [BitVec.getLsbD_rotateRight, Nat.mod_eq_of_lt amount]
  by_cases h : i < 32 - 2 * rot.toNat
  · rw [decide_eq_true h, cond_true, BitVec.getLsbD_setWidth, decide_eq_true (by omega), Bool.true_and,
      Nat.mod_eq_of_lt (by omega), Nat.add_comm]
  · rw [decide_eq_false h, cond_false, decide_eq_true hi, Bool.true_and, BitVec.getLsbD_setWidth,
      decide_eq_true (by omega), Bool.true_and]
    congr 1
    omega

/-- Settles O2: an amount of the immediate shifts is below 32, and their amount 0 means 32 for LSR and ASR. -/
theorem shifterTables : Obligations.ShifterTables := by
  refine ⟨fun rot imm8 c => ⟨fun i hi => rotImm_bit rot imm8 c hi, rfl⟩, fun n m c => ⟨?none, fun hn => ?some⟩,
    fun n m c => ⟨?zero, fun hn => ?amount⟩⟩
  case none =>
    rintro rfl
    refine ⟨rfl, ?_, rfl, shiftRrx_eq m c⟩
    change (⟨m >>> 32, m.getLsbD 31⟩ : Shifted) = _
    rw [BitVec.ushiftRight_eq_zero le_rfl]
  case some =>
    have positive : 0 < n.toNat := by bv_omega
    have bound : n.toNat < 32 := n.isLt
    have lsl := shiftLsl_eq m c positive
    have lsr := shiftLsr_eq m c positive
    have asr := shiftAsr_eq m c positive
    have ror := shiftRor_eq m (n := n.toNat) c (by omega)
    rw [decide_eq_true bound.le, Bool.true_and] at lsl
    rw [min_eq_left (by omega)] at asr
    rw [Nat.mod_eq_of_lt bound] at ror
    refine ⟨lsl, ?_, ?_, (if_neg hn).trans ror⟩
    · change shiftLsr m (if n = 0#5 then 32 else n.toNat) c = _
      rw [if_neg hn, lsr]
    · change shiftAsr m (if n = 0#5 then 32 else n.toNat) c = _
      rw [if_neg hn, asr]
  case zero =>
    rintro rfl ty
    exact shiftByReg_zero ty m c
  case amount =>
    have positive : 0 < n.toNat := by bv_omega
    exact ⟨shiftLsl_eq m c positive, shiftLsr_eq m c positive, shiftAsr_eq m c positive,
      fun h => shiftRor_multiple positive c h, fun h => shiftRor_eq m c h⟩

end Sys2Proof.Machine
end

section
/-!
PROOFS. Data-processing results that go to the pc, and the Thumb shifts, logic and compares: each instruction by what
its operation computes, and each destination once.
-/

namespace Sys2Proof.Machine

/-! Writes to the pc (R283, R284, R537). -/

section
variable {s : State} {v : Word}

theorem lowTwoBits_eq_zero (v : Word) : v.extractLsb' 0 2 = 0#2 ↔ v.toNat % 4 = 0 := by
  rw [← BitVec.toNat_inj, BitVec.extractLsb'_toNat, Nat.shiftRight_zero]
  rfl

theorem writePc_thumb (ht : s.thumb = true) : writePc v s = .next { s with pc := v &&& 0xFFFFFFFE#32 } := by
  rw [writePc, if_pos ht]

theorem writePc_arm (ht : s.thumb = false) (aligned : v.toNat % 4 = 0) : writePc v s = .next { s with pc := v } := by
  rw [writePc, if_neg (ne_true_of_eq_false ht), if_pos ((lowTwoBits_eq_zero v).mpr aligned)]

theorem writePc_unaligned (ht : s.thumb = false) (unaligned : v.toNat % 4 ≠ 0) :
    writePc v s = .refused .pcUnaligned := by
  rw [writePc, if_neg (ne_true_of_eq_false ht), if_neg (mt (lowTwoBits_eq_zero v).mp unaligned)]

section
variable {writes : State → Result}

theorem returnFromException_noSpsr (h : modeHasSpsr s.mode = false) :
    returnFromException writes s = .refused .noSpsr := by
  rw [returnFromException, h]
  rfl

variable (h : modeHasSpsr s.mode = true)
include h

theorem returnFromException_badMode (bad : modeLegal ((s.spsrOf s.mode &&& 0xF00000FF#32).extractLsb' 0 5) = false) :
    returnFromException writes s = .refused .badMode := by
  rw [returnFromException, h]
  exact if_neg (ne_true_of_eq_false bad)

theorem returnFromException_restores
    (legal : modeLegal ((s.spsrOf s.mode &&& 0xF00000FF#32).extractLsb' 0 5) = true) :
    returnFromException writes s = writes { s with cpsr := s.spsrOf s.mode &&& 0xF00000FF#32 } := by
  rw [returnFromException, h]
  exact if_pos legal

end

/-- The instruction sends `v` to the pc in ARM state (R283). -/
def SendsToPc (s : State) (p : Instr × Word) : Prop :=
  (p.2.toNat % 4 = 0 → exec p.1 s = .next { s with pc := p.2 }) ∧
  (p.2.toNat % 4 ≠ 0 → exec p.1 s = .refused .pcUnaligned)

/-- The instruction returns from an exception to `v` (R284). -/
def ReturnsTo (s : State) (p : Instr × Word) : Prop :=
  let saved := s.spsrOf s.mode &&& 0xF00000FF#32
  (s.mode = modeUsr ∨ s.mode = modeSys → exec p.1 s = .refused .noSpsr) ∧
  (modeHasSpsr s.mode = true → modeLegal (saved.extractLsb' 0 5) = false → exec p.1 s = .refused .badMode) ∧
  (modeHasSpsr s.mode = true → modeLegal (saved.extractLsb' 0 5) = true →
    (saved.getLsbD 5 = true → exec p.1 s = .next { s with cpsr := saved, pc := p.2 &&& 0xFFFFFFFE#32 }) ∧
    (saved.getLsbD 5 = false → p.2.toNat % 4 = 0 → exec p.1 s = .next { s with cpsr := saved, pc := p.2 }) ∧
    (saved.getLsbD 5 = false → p.2.toNat % 4 ≠ 0 → exec p.1 s = .refused .pcUnaligned))

variable {i : Instr}

theorem sendsToPc_of_writePc (ht : s.thumb = false) (e : exec i s = writePc v s) : SendsToPc s (i, v) :=
  ⟨fun aligned => e.trans (writePc_arm ht aligned), fun unaligned => e.trans (writePc_unaligned ht unaligned)⟩

theorem returnsTo_of_returnFromException (e : exec i s = returnFromException (writePc v) s) : ReturnsTo s (i, v) := by
  refine ⟨fun user => e.trans (returnFromException_noSpsr (modeHasSpsr_user user)),
    fun hm bad => e.trans (returnFromException_badMode hm bad), fun hm legal => ?_⟩
  have restored := e.trans (returnFromException_restores hm legal)
  exact ⟨fun thumb => restored.trans (writePc_thumb thumb), fun arm aligned => restored.trans (writePc_arm arm aligned),
    fun arm unaligned => restored.trans (writePc_unaligned arm unaligned)⟩

end

/-! The twelve operations with Rd = 15, by the value that each computes. -/

section
variable {s : State} {cond : BitVec 4} (hc : s.passes cond = true) {op : DpOp} {rn : BitVec 4} {op2 : Operand2}
  {v : Word}
include hc

theorem dataOp_pc (h : (s.dpOutcome op rn op2).value = v) : dataOp op cond 0#1 rn 15#4 op2 s = writePc v s := by
  rw [dataOp, ifPassed_passes hc, dpWrite, if_pos rfl, if_neg (by decide), h]

theorem moveOp_pc (h : (s.dpOutcome op 0#4 op2).value = v) : moveOp op cond 0#1 0#4 15#4 op2 s = writePc v s := by
  rw [moveOp, ifPassed_passes hc, if_pos rfl, dpWrite, if_pos rfl, if_neg (by decide), h]

theorem dataOp_returns (h : (s.dpOutcome op rn op2).value = v) :
    dataOp op cond 1#1 rn 15#4 op2 s = returnFromException (writePc v) s := by
  rw [dataOp, ifPassed_passes hc, dpWrite, if_pos rfl, if_pos rfl, h]

theorem moveOp_returns (h : (s.dpOutcome op 0#4 op2).value = v) :
    moveOp op cond 1#1 0#4 15#4 op2 s = returnFromException (writePc v) s := by
  rw [moveOp, ifPassed_passes hc, if_pos rfl, dpWrite, if_pos rfl, if_pos rfl, h]

end

theorem addWithCarry_false_value (a b : Word) : (addWithCarry a b false).value = a + b :=
  congrArg FlagResult.value (addWithCarry_false_eq a b)

theorem addWithCarry_value (a b : Word) (c : Bool) :
    (addWithCarry a b c).value = a + b + BitVec.ofNat 32 c.toNat :=
  congrArg FlagResult.value (addWithCarry_eq a b c)

theorem addWithCarry_not_value (a b : Word) (c : Bool) :
    (addWithCarry a (~~~b) c).value = a - b - BitVec.ofNat 32 (!c).toNat :=
  congrArg FlagResult.value (addWithCarry_not_eq a b c)

/-- Settles O6, by the value of each operation and the two ways to write it to the pc. -/
theorem resultsToThePc : Obligations.ResultsToThePc := by
  constructor
  · intro cond rn op2 s hc ht a b c d
    change ∀ p ∈ _, SendsToPc s p
    have sends {i : Instr} {v : Word} (e : exec i s = writePc v s) : SendsToPc s (i, v) := sendsToPc_of_writePc ht e
    simp only [List.forall_mem_cons, List.not_mem_nil, false_implies, implies_true, and_true]
    exact ⟨sends (dataOp_pc (op := .and) hc rfl), sends (dataOp_pc (op := .eor) hc rfl),
      sends (dataOp_pc (op := .sub) hc (addWithCarry_not_true_value a b)),
      sends (dataOp_pc (op := .rsb) hc (addWithCarry_not_true_value b a)),
      sends (dataOp_pc (op := .add) hc (addWithCarry_false_value a b)),
      sends (dataOp_pc (op := .adc) hc (addWithCarry_value a b _)),
      sends (dataOp_pc (op := .sbc) hc (addWithCarry_not_value a b _)),
      sends (dataOp_pc (op := .rsc) hc (addWithCarry_not_value b a _)),
      sends (dataOp_pc (op := .orr) hc rfl), sends (moveOp_pc (op := .mov) hc rfl),
      sends (dataOp_pc (op := .bic) hc rfl), sends (moveOp_pc (op := .mvn) hc rfl)⟩
  · intro cond rn op2 s hc a b c d saved
    change ∀ p ∈ _, ReturnsTo s p
    have returns {i : Instr} {v : Word} (e : exec i s = returnFromException (writePc v) s) : ReturnsTo s (i, v) :=
      returnsTo_of_returnFromException e
    simp only [List.forall_mem_cons, List.not_mem_nil, false_implies, implies_true, and_true]
    exact ⟨returns (dataOp_returns (op := .and) hc rfl), returns (dataOp_returns (op := .eor) hc rfl),
      returns (dataOp_returns (op := .sub) hc (addWithCarry_not_true_value a b)),
      returns (dataOp_returns (op := .rsb) hc (addWithCarry_not_true_value b a)),
      returns (dataOp_returns (op := .add) hc (addWithCarry_false_value a b)),
      returns (dataOp_returns (op := .adc) hc (addWithCarry_value a b _)),
      returns (dataOp_returns (op := .sbc) hc (addWithCarry_not_value a b _)),
      returns (dataOp_returns (op := .rsc) hc (addWithCarry_not_value b a _)),
      returns (dataOp_returns (op := .orr) hc rfl), returns (moveOp_returns (op := .mov) hc rfl),
      returns (dataOp_returns (op := .bic) hc rfl), returns (moveOp_returns (op := .mvn) hc rfl)⟩

/-! Thumb shifts, logic and compares. -/

section
variable {s : State} (hr : s.room = true)
include hr

/-- An instruction that writes a shifter result to a low register and to N, Z and C. -/
theorem thumbLogic_writes {i : Instr} {rd : BitVec 3} {r : Word} {c : Bool}
    (e : exec i s = thumbWrite rd (logicalResult r c s.flagV) s) :
    exec i s = .next (s.wrote 1#1 (lowReg rd) r c s.flagV) := by
  rw [e, thumbWrite_writes hr]
  rfl

theorem thumbCompare_sum (a b : Word) :
    thumbCompare (addWithCarry a b false) s =
      .next (s.compared (a + b) (decide (2 ^ 32 ≤ a.toNat + b.toNat)) (overflows (a.toInt + b.toInt))) := by
  rw [thumbCompare, finish_flags _ hr, addWithCarry_false_eq]

theorem thumbCompare_difference (a b : Word) :
    thumbCompare (addWithCarry a (~~~b) true) s =
      .next (s.compared (a - b) (decide (b.toNat ≤ a.toNat)) (overflows (a.toInt - b.toInt))) := by
  rw [thumbCompare, finish_flags _ hr, addWithCarry_not_true_eq]

theorem highCompare_compares {d : BitVec 4} (hd : d ≠ 15#4) (m : BitVec 4) :
    highCompare d m s = .next (s.compared (s.reg d - s.reg m) (decide ((s.reg m).toNat ≤ (s.reg d).toNat))
      (overflows ((s.reg d).toInt - (s.reg m).toInt))) := by
  rw [highCompare, if_neg hd]
  exact thumbCompare_difference hr ..

end

theorem execTMul_writes {rs rd : BitVec 3} (h : rd ≠ rs) (s : State) :
    exec (.tMul rs rd) s = multiplyWrite 1#1 (lowReg rd)
      (BitVec.ofNat 32 ((s.reg (lowReg rd)).toNat * (s.reg (lowReg rs)).toNat)) s := by
  rw [← word_mul_eq_ofNat]
  exact if_neg h

theorem highReg_ne_pc {rd : BitVec 3} (h : rd ≠ 7#3) : highReg 1#1 rd ≠ 15#4 := by
  revert rd
  decide

/-- Settles O28: the result of each format comes from the shifter or from an operation on two registers. -/
theorem thumbShiftsLogicAndCompares : Obligations.ThumbShiftsLogicAndCompares := by
  refine ⟨fun imm5 rs rd s hr => ?shifts, fun rs rd imm8 s hr => ⟨?logic, ?mul, fun same => if_pos same⟩,
    fun rs rd h2 imm8 s hr => ⟨?tst, ?cmn, ?cmp, ?pc⟩⟩
  case shifts =>
    simp only [List.forall_mem_cons, List.not_mem_nil, false_implies, implies_true, and_true]
    exact ⟨thumbLogic_writes hr rfl, thumbLogic_writes hr rfl, thumbLogic_writes hr rfl, thumbLogic_writes hr rfl,
      thumbLogic_writes hr rfl, thumbLogic_writes hr rfl, thumbLogic_writes hr rfl⟩
  case logic =>
    simp only [List.forall_mem_cons, List.not_mem_nil, false_implies, implies_true, and_true]
    exact ⟨thumbLogic_writes hr rfl, thumbLogic_writes hr rfl, thumbLogic_writes hr rfl, thumbLogic_writes hr rfl,
      thumbLogic_writes hr rfl, thumbLogic_writes hr rfl⟩
  case mul => exact fun other => ⟨_, (execTMul_writes other s).trans (multiplyWrite_setsFlags hr ..)⟩
  case tst => exact finish_flags _ hr
  case cmn => exact thumbCompare_sum hr ..
  case pc =>
    change highCompare 15#4 (highReg h2 rs) s = _
    exact if_pos rfl
  case cmp =>
    rw [List.forall_mem_append]
    constructor
    · simp only [List.forall_mem_cons, List.not_mem_nil, false_implies, implies_true, and_true]
      exact ⟨thumbCompare_difference hr .., thumbCompare_difference hr ..,
        highCompare_compares hr (lowReg_ne_pc rd) (highReg 1#1 rs)⟩
    · split_ifs with pc
      · exact List.forall_mem_nil _
      · rw [List.forall_mem_singleton]
        exact highCompare_compares hr (highReg_ne_pc pc) (highReg h2 rs)

end Sys2Proof.Machine
end

section
/-!
PROOFS. The ARM single transfers of a machine at rest: one external transfer at the address of the addressing mode, the
base as the mode writes it back, and the destination.
-/

namespace Sys2Proof.Machine

/-! The forms that run (R214, R215, R320, R329). -/

section
variable {wb pcOk : Bool} {rn rd : BitVec 4}

theorem transferForm_runs {rm : Option (BitVec 4)} (hd : rd = 15#4 → pcOk = true) (hm : rm ≠ some 15#4)
    (hw : wb = true → rn ≠ 15#4 ∧ rm ≠ some rn ∧ rd ≠ rn) : transferForm pcOk wb rn rd rm = none := by
  have dest : pcRefusal pcOk rd = none := by
    refine if_neg fun h => ?_
    simp only [Bool.and_eq_true, Bool.not_eq_true', beq_iff_eq] at h
    exact Bool.false_ne_true (h.1.symm.trans (hd h.2))
  have index : indexRefusal wb rn rd rm = none := by
    rw [indexRefusal, if_neg hm]
    cases wb with
    | false => rfl
    | true =>
      obtain ⟨hn, hmn, hdn⟩ := hw rfl
      simp [hn, hmn, hdn]
  rw [transferForm, dest, index]
  rfl

theorem halfRefusal_runs {p w : BitVec 1} {off : Offset3} (hs : ∀ sbz rm, off = .reg sbz rm → sbz = 0#4)
    (hw : p = 0#1 → w = 0#1) : halfRefusal p w off = none := by
  have mode : ¬ (p = 0#1 ∧ w = 1#1) := fun h => absurd ((hw h.1).symm.trans h.2) (by decide)
  cases off with
  | imm immH immL => exact if_neg mode
  | reg sbz rm => exact (if_neg (not_not.mpr (hs sbz rm rfl))).trans (if_neg mode)

end

section
variable {s : State} {cond : BitVec 4} (hc : s.passes cond = true) {p u w : BitVec 1} {rn rd : BitVec 4}
include hc

section
variable {pcOk user : Bool} {off : Offset2}
  (form : transferForm pcOk (p == 0#1 || w == 1#1) rn rd (offsetReg2 off) = none)
include form

theorem loadOp_runs (k : LoadKind) :
    loadOp k pcOk user cond p u w rn rd off s =
      loadInto k (!user && s.privileged) rn rd (s.indexing p u w rn (s.offset2 off)) s := by
  rw [loadOp, ifPassed_passes hc, unlessRefused_orElse, ← transferForm, form]
  rfl

theorem storeOp_runs (sz : Size) :
    storeOp sz pcOk user cond p u w rn rd off s =
      storeFrom sz (!user && s.privileged) rn rd (s.indexing p u w rn (s.offset2 off)) s := by
  rw [storeOp, ifPassed_passes hc, unlessRefused_orElse, ← transferForm, form]
  rfl

end

section
variable {off : Offset3} (form : halfForm p w rn rd off = none)
include form

theorem loadHalfOp_runs (k : LoadKind) :
    loadHalfOp k cond p u w rn rd off s = loadInto k s.privileged rn rd (s.indexing p u w rn (s.offset3 off)) s := by
  rw [loadHalfOp, ifPassed_passes hc, unlessRefused_orElse (pcRefusal false rd), unlessRefused_orElse, ← transferForm,
    ← halfForm, form]
  rfl

theorem storeHalfOp_runs :
    storeHalfOp cond p u w rn rd off s =
      storeFrom .half s.privileged rn rd (s.indexing p u w rn (s.offset3 off)) s := by
  rw [storeHalfOp, ifPassed_passes hc, unlessRefused_orElse (pcRefusal false rd), unlessRefused_orElse, ← transferForm,
    ← halfForm, form]
  rfl

end

end

/-! The base after the transfer. -/

/-- Addressing with P = 0, or with W = 1, writes the base back. -/
theorem writeBase_indexing (s : State) (p u w : BitVec 1) (rn : BitVec 4) (offset : Word) :
    s.writeBase rn (s.indexing p u w rn offset).writeback =
      if p = 0#1 ∨ w = 1#1 then s.setReg rn (indexed (s.reg rn) offset u) else s := by
  rcases bit_cases p with rfl | rfl <;> rcases bit_cases w with rfl | rfl <;> rfl

theorem writeBase_pre (s : State) (u w : BitVec 1) (rn : BitVec 4) (offset : Word) :
    s.writeBase rn (s.indexing 1#1 u w rn offset).writeback =
      if w = 1#1 then s.setReg rn (indexed (s.reg rn) offset u) else s := by
  rcases bit_cases w with rfl | rfl <;> rfl

section
variable {s : State} (hr : s.room = true)
include hr

theorem finish_writeBase_setReg (rn rd : BitVec 4) (base : Option Word) (v : Word) :
    finish ((s.writeBase rn base).setReg rd v) =
      .next { (s.writeBase rn base).setReg rd v with pc := s.pc + s.ilen } := by
  cases base <;> exact finish_of_same hr rfl rfl rfl

theorem finish_writeBase_mem (rn : BitVec 4) (base : Option Word) (m : Memory) :
    finish ({ s with mem := m }.writeBase rn base) =
      .next { s.writeBase rn base with mem := m, pc := s.pc + s.ilen } := by
  cases base <;> exact finish_of_same hr rfl rfl rfl

end

/-! The transfers. -/

section
variable {s : State} {k : LoadKind} {sz : Size} {priv : Bool} {rn rd : BitVec 4} {ix : Indexing}

theorem loadInto_odd (hk : k.size = .half) (odd : ix.address.toNat % 2 = 1) :
    loadInto k priv rn rd ix s = .refused .oddHalfword := by
  rw [loadInto, hk, oddHalf_half, decide_eq_true odd, if_pos rfl]

theorem storeFrom_odd (odd : ix.address.toNat % 2 = 1) : storeFrom .half priv rn rd ix s = .refused .oddHalfword := by
  rw [storeFrom, oddHalf_half, decide_eq_true odd, if_pos rfl]

variable (hs : s.direct = true)
include hs

theorem loadInto_direct (even : oddHalf k.size ix.address = false) :
    loadInto k priv rn rd ix s =
      loadWrite rd (k.value (s.memItem k.size ix.address) ix.address) (s.writeBase rn ix.writeback) := by
  rw [loadInto, even, if_neg Bool.false_ne_true, load_transferAddr hs]
  rfl

theorem loadInto_pc (hd : rd = 15#4) :
    loadInto .word priv rn rd ix s = .next { s.writeBase rn ix.writeback with
      pc := ((memWord s.mem ix.address).rotateRight (8 * (ix.address.toNat % 4))) &&& 0xFFFFFFFC#32 } := by
  rw [loadInto_direct hs rfl, ← rotateLoaded_eq]
  exact if_pos hd

variable (hr : s.room = true)
include hr

theorem loadInto_register (hd : rd ≠ 15#4) {v : Word} (even : oddHalf k.size ix.address = false)
    (value : k.value (s.memItem k.size ix.address) ix.address = v) :
    loadInto k priv rn rd ix s = .next { (s.writeBase rn ix.writeback).setReg rd v with pc := s.pc + s.ilen } := by
  rw [loadInto_direct hs even, loadWrite, if_neg hd, value, finish_writeBase_setReg hr]

theorem storeFrom_gives (even : oddHalf sz ix.address = false) :
    storeFrom sz priv rn rd ix s = .next { s.writeBase rn ix.writeback with
      mem := s.memStored sz ix.address (s.storedReg rd), pc := s.pc + s.ilen } := by
  rw [storeFrom, even, if_neg Bool.false_ne_true, store_transferAddr hs]
  exact finish_writeBase_mem hr ..

end

/-- Settles O11: each form loads at the address of its mode; R15 is refused where the form bars it. -/
theorem loadsOfWordsAndBytes : Obligations.LoadsOfWordsAndBytes := by
  constructor
  · intro cond u w rn rd off s hc hs hr hm hw a t v
    have base : s.writeBase rn (s.indexing 1#1 u w rn (s.offset2 off)).writeback = t := writeBase_pre s u w rn _
    have form {pcOk : Bool} (hd : rd = 15#4 → pcOk = true) :
        transferForm pcOk (w == 1#1) rn rd (offsetReg2 off) = none :=
      transferForm_runs hd hm fun h => hw (beq_iff_eq.mp h)
    have word := loadOp_runs (user := false) (u := u) hc (p := 1#1) (form (pcOk := true) fun _ => rfl) .word
    refine ⟨fun hd => ?_, fun hd => ?_, fun hd => ?_, fun hd => ?_⟩
    · rw [← base]
      exact word.trans (loadInto_register hs hr hd rfl (rotateLoaded_eq ..))
    · rw [← base]
      exact word.trans (loadInto_pc hs hd)
    · rw [← base]
      exact (loadOp_runs (pcOk := false) hc (form fun h => absurd h hd) .byte).trans
        (loadInto_register hs hr hd rfl rfl)
    · subst hd
      exact loadOp_refused hc transferForm_pcDestination
  · intro cond u rn rd off s hc hs hr hm hn hmn hdn a t v
    have form {pcOk : Bool} (hd : rd = 15#4 → pcOk = true) : transferForm pcOk true rn rd (offsetReg2 off) = none :=
      transferForm_runs hd hm fun _ => ⟨hn, hmn, hdn⟩
    refine ⟨fun hd => ?_, fun hd => ⟨?_, ?_, ?_, ?_⟩⟩
    · have taken {k : LoadKind} {pcOk user : Bool} {w : BitVec 1} {x : Word}
          (even : oddHalf k.size (s.reg rn) = false) (value : k.value (s.memItem k.size (s.reg rn)) (s.reg rn) = x) :
          loadOp k pcOk user cond 0#1 u w rn rd off s = .next { t.setReg rd x with pc := s.pc + s.ilen } :=
        (loadOp_runs hc (form fun h => absurd h hd) k).trans (loadInto_register hs hr hd even value)
      exact ⟨taken (k := .word) rfl (rotateLoaded_eq ..), taken (k := .word) rfl (rotateLoaded_eq ..),
        taken (k := .byte) rfl rfl, taken (k := .byte) rfl rfl⟩
    · exact (loadOp_runs hc (p := 0#1) (form (pcOk := true) fun _ => rfl) .word).trans (loadInto_pc hs hd)
    all_goals
      subst hd
      exact loadOp_refused hc transferForm_pcDestination

/-- Settles O12, in the same way. -/
theorem storesOfWordsAndBytes : Obligations.StoresOfWordsAndBytes := by
  intro cond u w rn rd off s hc hs hr hm v target wb
  constructor
  · intro hw t
    have base : { s.writeBase rn (s.indexing 1#1 u w rn (s.offset2 off)).writeback with pc := s.pc + s.ilen } = t := by
      rcases bit_cases w with rfl | rfl <;> rfl
    have form {pcOk : Bool} (hd : rd = 15#4 → pcOk = true) :
        transferForm pcOk (w == 1#1) rn rd (offsetReg2 off) = none :=
      transferForm_runs hd hm fun h => hw (beq_iff_eq.mp h)
    have gives {sz : Size} {pcOk : Bool} (even : oddHalf sz target = false) (hd : rd = 15#4 → pcOk = true) :
        storeOp sz pcOk false cond 1#1 u w rn rd off s = .next { t with mem := s.memStored sz target v } := by
      rw [← base]
      exact (storeOp_runs hc (form hd) sz).trans (storeFrom_gives hs hr even)
    refine ⟨gives (sz := .word) rfl fun _ => rfl, fun hd => gives (sz := .byte) rfl fun h => absurd h hd, ?_⟩
    rintro rfl
    exact storeOp_refused hc transferForm_pcDestination
  · intro hn hmn hdn
    have form {pcOk : Bool} (hd : rd = 15#4 → pcOk = true) : transferForm pcOk true rn rd (offsetReg2 off) = none :=
      transferForm_runs hd hm fun _ => ⟨hn, hmn, hdn⟩
    have gives {sz : Size} {pcOk user : Bool} {w : BitVec 1} (even : oddHalf sz (s.reg rn) = false)
        (hd : rd = 15#4 → pcOk = true) :
        storeOp sz pcOk user cond 0#1 u w rn rd off s = .next { wb with mem := s.memStored sz (s.reg rn) v } :=
      (storeOp_runs hc (form hd) sz).trans (storeFrom_gives hs hr even)
    refine ⟨gives (sz := .word) rfl fun _ => rfl, gives (sz := .word) rfl fun _ => rfl,
      fun hd => ⟨gives (sz := .byte) rfl fun h => absurd h hd, gives (sz := .byte) rfl fun h => absurd h hd⟩, ?_⟩
    rintro rfl
    exact ⟨storeOp_refused hc transferForm_pcDestination, storeOp_refused hc transferForm_pcDestination⟩

/-- Settles O13, with the parity of the address deciding the halfword transfers. -/
theorem halfwordAndSignedTransfers : Obligations.HalfwordAndSignedTransfers := by
  intro cond p u w rn rd off s hc hs hr hd hm hsbz hpw hwb target a t
  have address : (s.indexing p u w rn (s.offset3 off)).address = a := by
    rcases bit_cases p with rfl | rfl <;> rfl
  have base : s.writeBase rn (s.indexing p u w rn (s.offset3 off)).writeback = t := writeBase_indexing ..
  have form : halfForm p w rn rd off = none := by
    have written (h : (p == 0#1 || w == 1#1) = true) : p = 0#1 ∨ w = 1#1 := by simpa using h
    rw [halfForm, halfRefusal_runs hsbz hpw, transferForm_runs (fun h => absurd h hd) hm fun h => hwb (written h)]
    rfl
  have load (k : LoadKind) := loadHalfOp_runs (u := u) hc form k
  have takes {k : LoadKind} (even : oddHalf k.size a = false) :
      loadHalfOp k cond p u w rn rd off s =
        .next { t.setReg rd (k.value (s.memItem k.size a) a) with pc := s.pc + s.ilen } := by
    rw [← address] at even
    rw [← base, ← address]
    exact (load k).trans (loadInto_register hs hr hd even rfl)
  refine ⟨takes (k := .signedByte) rfl, fun even => ⟨takes (k := .half) (oddHalf_even .half even),
    takes (k := .signedHalf) (oddHalf_even .half even), ?_⟩, fun odd => ?_⟩
  · have stored : s.storedReg rd = s.reg rd := if_neg hd
    have aligned := oddHalf_even .half even
    rw [← address] at aligned
    rw [← base, ← address, ← stored]
    exact (storeHalfOp_runs hc form).trans (storeFrom_gives hs hr aligned)
  · rw [← address] at odd
    exact ⟨(load .half).trans (loadInto_odd rfl odd), (load .signedHalf).trans (loadInto_odd rfl odd),
      (storeHalfOp_runs hc form).trans (storeFrom_odd odd)⟩

end Sys2Proof.Machine
end

section
/-!
PROOFS. The ARM block transfers of a machine at rest: a load leaves every listed register with its word, whether the
register was written at once or held back as the base; a store leaves every listed register in its word.
-/

namespace Sys2Proof.Machine

/-! A block load that holds back no register but the base `rn`. -/

section
variable {m : BitVec 5} {hold : BitVec 4 → Bool} {rn : BitVec 4} (only : ∀ i, hold i = true → i = rn)
  {list : BitVec 16} {start : Word} {n : Nat}

/-- The word that is held back for the base once the listed registers below `n` have been loaded (R351, R352). -/
def heldWord (mem : Memory) (hold : BitVec 4 → Bool) (rn : BitVec 4) (list : BitVec 16) (start : Word) (n : Nat) :
    Option Word :=
  if hold rn then loadedWord mem rn list start n else none

section
variable {mem : Memory}

include only in
theorem heldWord_succ_held (hn : n ≤ 15) (held : hold (BitVec.ofNat 4 n) = true) (listed : list.getLsbD n = true) :
    heldWord mem hold rn list start (n + 1) = some (memWord mem (slotAddr start list n)) := by
  have base := only _ held
  rw [heldWord, ← base, if_pos held, loadedWord_succ_base hn rfl listed]

theorem heldWord_succ_free (free : hold (BitVec.ofNat 4 n) = false ∨ list.getLsbD n = false) :
    heldWord mem hold rn list start (n + 1) = heldWord mem hold rn list start n := by
  rw [heldWord, heldWord]
  split_ifs with held
  · refine loadedWord_succ_other (free.imp_left fun free base => ?_)
    rw [base, held] at free
    exact Bool.false_ne_true free.symm
  · rfl

end

section
variable {s : State} (hs : s.direct = true)
include only hs

/-- The listed registers below `n`, which are none of them the pc. -/
theorem loadMany_holding_below (hn : n ≤ 15) (rest : List (BitVec 4)) :
    loadMany m hold ((picked list.getLsbD n).map (BitVec.ofNat 4) ++ rest) start { pc := none, base := none } s =
      loadMany m hold rest (slotAddr start list n) { pc := none, base := heldWord s.mem hold rn list start n }
        { s with regs := loadedRegs s m hold list start n } := by
  induction n generalizing rest with
  | zero =>
    have nothing : heldWord s.mem hold rn list start 0 = none := ite_self none
    rw [nothing]
    exact congrArg (loadMany m hold rest · _ s) (BitVec.add_zero start).symm
  | succ n ih =>
    have run := ih (by omega)
    simp only [slotAddr_eq_pickedAddr] at run ⊢
    cases listed : list.getLsbD n with
    | false =>
      rw [picked_succ_neg listed, run, pickedAddr_succ_neg start listed, loadedRegs, listed,
        heldWord_succ_free (.inr listed)]
      rfl
    | true =>
      let t := { s with regs := loadedRegs s m hold list start n }
      have word : load (wordAddr (pickedAddr list.getLsbD start n)) .word t.privileged t =
          .done (memWord s.mem (slotAddr start list n)) t := load_transferAddr (s := t) hs .word ..
      rw [picked_succ_pos listed, List.map_append, List.append_assoc, run, pickedAddr_succ_pos start listed,
        loadedRegs, listed, List.map_singleton, List.singleton_append, loadMany, word]
      simp only [if_neg (ofNat_ne_pc (show n < 15 by omega))]
      cases held : hold (BitVec.ofNat 4 n) with
      | true =>
        rw [heldWord_succ_held only (by omega) held listed]
        rfl
      | false =>
        rw [heldWord_succ_free (.inl held)]
        rfl

theorem loadMany_holding :
    loadMany m hold (regsOf list) start { pc := none, base := none } s =
      .done { pc := if list.getLsbD 15 then some (memWord s.mem (slotAddr start list 15)) else none
              base := heldWord s.mem hold rn list start 15 }
        { s with regs := loadedRegs s m hold list start 15 } := by
  have below := loadMany_holding_below (m := m) (list := list) (start := start) only hs (Nat.le_refl 15)
  rw [regsOf_eq_picked]
  cases listed : list.getLsbD 15 with
  | false =>
    have run := below []
    rw [List.append_nil] at run
    rw [picked_succ_neg listed, run]
    rfl
  | true =>
    let t := { s with regs := loadedRegs s m hold list start 15 }
    have word : load (wordAddr (slotAddr start list 15)) .word t.privileged t =
        .done (memWord s.mem (slotAddr start list 15)) t := load_transferAddr (s := t) hs .word ..
    rw [picked_succ_pos listed, List.map_append, below, List.map_singleton, loadMany, word]
    rfl

end

/-- The register file once the word that was held back is in its register too. -/
def settledRegs (s : State) (m : BitVec 5) (hold : BitVec 4 → Bool) (rn : BitVec 4) (list : BitVec 16) (start : Word) :
    RegFile :=
  (({ s with regs := loadedRegs s m hold list start 15 }).setHeld m rn (heldWord s.mem hold rn list start 15)).regs

variable {s : State}

theorem setHeld_loadedRegs :
    ({ s with regs := loadedRegs s m hold list start 15 }).setHeld m rn (heldWord s.mem hold rn list start 15) =
      { s with regs := settledRegs s m hold rn list start } := by
  rw [settledRegs]
  cases heldWord s.mem hold rn list start 15 <;> rfl

/-- Either nothing was held back, or the base was and its word is set. -/
theorem settledRegs_cases :
    (settledRegs s m hold rn list start = loadedRegs s m hold list start 15 ∧
      (hold rn = true → rn.toNat < 15 → list.getLsbD rn.toNat = false)) ∨
    (hold rn = true ∧ list.getLsbD rn.toNat = true ∧
      settledRegs s m hold rn list start =
        (loadedRegs s m hold list start 15).set (regIndex m rn) (memWord s.mem (slotAddr start list rn.toNat))) := by
  rw [settledRegs, heldWord, loadedWord]
  split_ifs with held listed
  · exact .inr ⟨held, listed.2, rfl⟩
  · exact .inl ⟨rfl, fun _ below => Bool.eq_false_iff.mpr fun set => listed ⟨below, set⟩⟩
  · exact .inl ⟨rfl, fun set => absurd set held⟩

theorem settledRegs_listed (only : ∀ i, hold i = true → i = rn) (hn : rn ≠ 15#4) {i : BitVec 4} (hi : i ≠ 15#4)
    (listed : list.getLsbD i.toNat = true) :
    (settledRegs s m hold rn list start)[regIndex m i] = memWord s.mem (slotAddr start list i.toNat) := by
  have below : i.toNat < 15 := by bv_omega
  rcases settledRegs_cases (s := s) (m := m) (hold := hold) (rn := rn) (list := list) (start := start) with
    ⟨e, unheld⟩ | ⟨held, baseListed, e⟩
  · have free : hold i = false := by
      refine Bool.eq_false_iff.mpr fun held => ?_
      obtain rfl := only i held
      exact Bool.false_ne_true ((unheld held below).symm.trans listed)
    rw [e, loadedRegs_at (Nat.le_refl 15) below listed free]
  · rw [e]
    by_cases base : i = rn
    · rw [base]
      exact Vector.getElem_set_self _
    · have places : regIndex m rn ≠ regIndex m i := fun same => base ((regIndex_inj m rn i hn hi).mp same).symm
      exact (Vector.getElem_set_ne _ _ fun same => places (Fin.ext same)).trans
        (loadedRegs_at (Nat.le_refl 15) below listed (Bool.eq_false_iff.mpr fun held => base (only i held)))

theorem settledRegs_other (hn : rn ≠ 15#4) {k : Fin 30}
    (h : ∀ i : BitVec 4, i ≠ 15#4 → list.getLsbD i.toNat = true → regIndex m i ≠ k) :
    (settledRegs s m hold rn list start)[k] = s.regs[k] := by
  have loaded : (loadedRegs s m hold list start 15)[k] = s.regs[k] :=
    loadedRegs_other (Nat.le_refl 15) fun j hj listed _ => h j (ne_pc_of_lt hj) listed
  rcases settledRegs_cases (s := s) (m := m) (hold := hold) (rn := rn) (list := list) (start := start) with
    ⟨e, -⟩ | ⟨-, listed, e⟩
  · rw [e, loaded]
  · rw [e]
    exact (Vector.getElem_set_ne _ _ fun same => h rn hn listed (Fin.ext same)).trans loaded

end

/-! The register file after LDM (1) and LDM (3), with the writeback. -/

/-- The register file after a block load of the mode, whose base ends with `after` if `w` writes it back. -/
def ldmRegs (s : State) (w : BitVec 1) (rn : BitVec 4) (list : BitVec 16) (start after : Word) : RegFile :=
  let regs := settledRegs s s.mode (· == rn) rn list start
  if w = 1#1 then regs.set (regIndex s.mode rn) after else regs

section
variable {s : State} {w : BitVec 1} {rn : BitVec 4} {list : BitVec 16} {start after : Word}

theorem loadedBase_loadedRegs (pc : Option Word) :
    ({ s with regs := loadedRegs s s.mode (· == rn) list start 15 }).loadedBase w rn
        { pc := pc, base := heldWord s.mem (· == rn) rn list start 15 } after =
      { s with regs := ldmRegs s w rn list start after } := by
  rw [ldmRegs, settledRegs, State.loadedBase]
  cases heldWord s.mem (· == rn) rn list start 15 <;> split_ifs <;> rfl

theorem ldmRegs_base (hw : w = 1#1) : (ldmRegs s w rn list start after)[regIndex s.mode rn] = after := by
  subst hw
  exact Vector.getElem_set_self _

theorem ldmRegs_listed (hn : rn ≠ 15#4) (hb : w = 1#1 → list.getLsbD rn.toNat = false) {i : BitVec 4} (hi : i ≠ 15#4)
    (listed : list.getLsbD i.toNat = true) :
    (ldmRegs s w rn list start after)[regIndex s.mode i] = memWord s.mem (slotAddr start list i.toNat) := by
  have loaded := settledRegs_listed (s := s) (m := s.mode) (hold := (· == rn)) (rn := rn) (start := start)
    (fun _ => beq_iff_eq.mp) hn hi listed
  unfold ldmRegs
  split_ifs with hw
  · have places : regIndex s.mode rn ≠ regIndex s.mode i := by
      intro same
      obtain rfl := (regIndex_inj s.mode rn i hn hi).mp same
      exact Bool.false_ne_true ((hb hw).symm.trans listed)
    exact (Vector.getElem_set_ne _ _ fun same => places (Fin.ext same)).trans loaded
  · exact loaded

theorem ldmRegs_other (hn : rn ≠ 15#4) {k : Fin 30}
    (h : ∀ i : BitVec 4, i ≠ 15#4 → list.getLsbD i.toNat = true → regIndex s.mode i ≠ k)
    (apart : w = 1#1 → regIndex s.mode rn ≠ k) : (ldmRegs s w rn list start after)[k] = s.regs[k] := by
  unfold ldmRegs
  split_ifs with hw
  · exact (Vector.getElem_set_ne _ _ fun same => apart hw (Fin.ext same)).trans (settledRegs_other hn h)
  · exact settledRegs_other hn h

end

/-! The three loads. -/

theorem blockBase_eq (u : BitVec 1) (base : Word) (list : BitVec 16) :
    blockBase u base list = blockAfter u base list := by
  rw [blockBase, blockAfter, listBytes_eq]

theorem inList_listWithoutPc (low : BitVec 15) {i : BitVec 4} (h : i ≠ 15#4) :
    (0#1 ++ low : BitVec 16).getLsbD i.toNat = low.getLsbD i.toNat := by
  rw [BitVec.getLsbD_append, if_pos (by bv_omega)]

theorem listWithoutPc_ne_zero {low : BitVec 15} (h : low ≠ 0#15) : (0#1 ++ low : BitVec 16) ≠ 0#16 := by
  intro e
  refine h (BitVec.eq_of_getLsbD_eq fun i hi => ?_)
  have bit := congrArg (·.getLsbD i) e
  rw [BitVec.getLsbD_append, if_pos hi] at bit
  exact bit.trans (BitVec.getLsbD_zero.trans BitVec.getLsbD_zero.symm)

section
variable {s : State} {cond : BitVec 4} (hc : s.passes cond = true) (hs : s.direct = true) {p u w : BitVec 1}
  {rn : BitVec 4} (hn : rn ≠ 15#4)
include hc hs hn

theorem execLdm_loads (hr : s.room = true) {list : BitVec 16} (hl : list ≠ 0#16)
    (hb : w = 1#1 → list.getLsbD rn.toNat = false) :
    execLdm cond p u w rn list s =
      .next { s with
        regs := ldmRegs s w rn list (blockFirst p u (s.reg rn) list) (blockAfter u (s.reg rn) list)
        pc := if list.getLsbD 15 then
            memWord s.mem (slotAddr (blockFirst p u (s.reg rn) list) list 15) &&& 0xFFFFFFFC#32
          else s.pc + s.ilen } := by
  rw [execLdm, ifPassed_passes hc, unlessRefused_none (blockRefusal_none hl hn),
    unlessRefused_none (baseRefusal_none hb), blockStart_eq, blockBase_eq,
    loadMany_holding (rn := rn) (fun _ => beq_iff_eq.mp) hs]
  change loadedPc _ _ = _
  rw [loadedBase_loadedRegs]
  split_ifs
  · rfl
  · exact finish_of_same hr rfl rfl rfl

theorem execLdmUser_loads (hr : s.room = true) {list : BitVec 15} (hl : list ≠ 0#15)
    (hm : s.mode ≠ modeUsr ∧ s.mode ≠ modeSys) :
    execLdmUser cond p u 0#1 rn list s =
      .next { s with
        regs := settledRegs s modeUsr (fun i => i == rn && regIndex modeUsr i == regIndex s.mode i) rn (0#1 ++ list)
          (blockFirst p u (s.reg rn) (0#1 ++ list))
        pc := s.pc + s.ilen } := by
  have only (i : BitVec 4) (h : (i == rn && regIndex modeUsr i == regIndex s.mode i) = true) : i = rn :=
    beq_iff_eq.mp (Bool.and_eq_true_iff.mp h).1
  rw [execLdmUser, ifPassed_passes hc, unlessRefused_none (blockRefusal_none (listWithoutPc_ne_zero hl) hn),
    unlessRefused_none (userRefusal_none hm), blockStart_eq, loadMany_holding (rn := rn) only hs]
  change finish (State.setHeld _ modeUsr rn _) = _
  rw [setHeld_loadedRegs]
  exact finish_of_same hr rfl rfl rfl

theorem execLdmRestore_loads {list : BitVec 15} (hb : w = 1#1 → list.getLsbD rn.toNat = false)
    (hm : modeHasSpsr s.mode = true)
    (legal : modeLegal ((s.spsrOf s.mode &&& 0xF00000FF#32).extractLsb' 0 5) = true) :
    execLdmRestore cond p u w rn list s =
      .next { s with
        regs := ldmRegs s w rn (1#1 ++ list) (blockFirst p u (s.reg rn) (1#1 ++ list))
          (blockAfter u (s.reg rn) (1#1 ++ list))
        cpsr := s.spsrOf s.mode &&& 0xF00000FF#32
        pc :=
          let word := memWord s.mem (slotAddr (blockFirst p u (s.reg rn) (1#1 ++ list)) (1#1 ++ list) 15)
          if (s.spsrOf s.mode &&& 0xF00000FF#32).getLsbD 5 then word &&& 0xFFFFFFFE#32
            else word &&& 0xFFFFFFFC#32 } := by
  have unlisted (hw : w = 1#1) : (1#1 ++ list : BitVec 16).getLsbD rn.toNat = false :=
    (inList_listWithPc list hn).trans (hb hw)
  have pc : (1#1 ++ list : BitVec 16).getLsbD 15 = true := by
    rw [BitVec.getLsbD_append]
    rfl
  rw [execLdmRestore, ifPassed_passes hc, unlessRefused_none (blockRefusal_none (listWithPc_ne_zero list) hn),
    unlessRefused_none (baseRefusal_none unlisted), hm, blockStart_eq, blockBase_eq,
    loadMany_holding (rn := rn) (fun _ => beq_iff_eq.mp) hs, pc]
  change returnFromException _ (State.loadedBase _ w rn _ _) = _
  rw [loadedBase_loadedRegs]
  exact returnFromException_restores (s := { s with regs := ldmRegs .. }) hm legal

end

/-- Settles O17: the three loads by their register files. -/
theorem loadMultiple : Obligations.LoadMultiple := by
  refine ⟨?_, ?_, ?_⟩
  · intro cond p u w rn list s hc hs hr hl hn hb start word
    exact ⟨_, execLdm_loads hc hs hn hr hl hb, fun i hi listed => ldmRegs_listed hn hb hi listed, ldmRegs_base,
      fun k others apart => ldmRegs_other hn others apart⟩
  · intro cond p u rn list s hc hs hr hl hn usr sys start
    refine ⟨_, execLdmUser_loads hc hs hn hr hl ⟨usr, sys⟩, fun i hi listed => ?_, fun k others => ?_⟩
    · rw [← inList_listWithoutPc list hi] at listed
      exact settledRegs_listed (fun i h => beq_iff_eq.mp (Bool.and_eq_true_iff.mp h).1) hn hi listed
    · refine settledRegs_other hn fun i hi listed => others i hi ?_
      rwa [inList_listWithoutPc list hi] at listed
  · intro cond p u w rn list s hc hs hn hb hm saved legal start word
    have unlisted (hw : w = 1#1) : (1#1 ++ list : BitVec 16).getLsbD rn.toNat = false :=
      (inList_listWithPc list hn).trans (hb hw)
    refine ⟨_, execLdmRestore_loads hc hs hn hb hm legal, fun i hi listed => ?_, ldmRegs_base, fun k others apart => ?_⟩
    · exact ldmRegs_listed hn unlisted hi ((inList_listWithPc list hi).trans listed)
    · exact ldmRegs_other hn (fun i hi listed => others i hi ((inList_listWithPc list hi).symm.trans listed)) apart

/-! The two stores. -/

section
variable {s : State} {cond : BitVec 4} (hc : s.passes cond = true) (hs : s.direct = true) (hr : s.room = true)
  {p u w : BitVec 1} {rn : BitVec 4} {list : BitVec 16} (hl : list ≠ 0#16) (hn : rn ≠ 15#4)
include hc hs hr hl hn

theorem execStm_stores (hb : w = 1#1 → list.getLsbD rn.toNat = true → ∀ j, j < rn.toNat → list.getLsbD j = false) :
    execStm cond p u w rn list s =
      .next { (if w = 1#1 then s.setReg rn (blockAfter u (s.reg rn) list) else s) with
        mem := storedMem s.mem list.getLsbD (fun n => s.storedReg (BitVec.ofNat 4 n))
          (blockFirst p u (s.reg rn) list) 16
        pc := s.pc + s.ilen } := by
  rw [execStm, ifPassed_passes hc, unlessRefused_none (blockRefusal_none hl hn),
    unlessRefused_none (storedBaseRefusal_lowest hb), State.stmWords, storeMany_completes hs, blockStart_eq,
    blockBase_eq]
  change finish (if w = 1#1 then State.setReg _ rn _ else _) = _
  split_ifs <;> exact finish_of_same hr rfl rfl rfl

theorem execStmUser_stores (hm : s.mode ≠ modeUsr ∧ s.mode ≠ modeSys) :
    execStmUser cond p u 0#1 rn list s =
      .next { s with
        mem := storedMem s.mem list.getLsbD
          (fun n => if BitVec.ofNat 4 n = 15#4 then s.pc + 12#32 else s.userReg (BitVec.ofNat 4 n))
          (blockFirst p u (s.reg rn) list) 16
        pc := s.pc + s.ilen } := by
  rw [execStmUser, ifPassed_passes hc, unlessRefused_none (blockRefusal_none hl hn),
    unlessRefused_none (userRefusal_none hm), State.userWords,
    storeMany_completes hs list (fun i => if i = 15#4 then s.pc + 12#32 else s.userReg i), blockStart_eq]
  exact finish_of_same hr rfl rfl rfl

end

/-- Settles O18: the two stores by their memory. -/
theorem storeMultiple : Obligations.StoreMultiple := by
  intro cond p u w rn list s hc hs hr hm hl hn start outside
  refine ⟨fun lowest => ⟨_, execStm_stores hc hs hr hl hn lowest, fun i listed => storedMem_listed hm listed,
    fun a h => storedMem_other hm h⟩, fun usr sys => ⟨_, execStmUser_stores hc hs hr hl hn ⟨usr, sys⟩,
    fun i listed => ?_, fun a h => storedMem_other hm h⟩⟩
  refine (storedMem_listed (word := fun i => if i = 15#4 then s.pc + 12#32 else s.userReg i) hm listed).trans ?_
  split_ifs with pc
  · rfl
  · exact if_neg pc

end Sys2Proof.Machine
end

section
/-!
PROOFS. Coprocessor instructions that are accepted: the offer uses up one answer, and what the coprocessor does follows
from its own functions; LDC and STC of a machine at rest pass their words one after the other.
-/

namespace Sys2Proof.Machine

/-! The register transfers and CDP. -/

section
variable {s : State} {cp : BitVec 4} {n : Nat} {rest : List CpAnswer} (ha : s.hasCp cp = true)
  (answer : s.cpAnswers = .accept n :: rest)
include ha answer

theorem offer_runs (w : Word) (run : Nat → State → Result) :
    offer cp w s run = run (cpWords n) { s with cpAnswers := rest, draws := s.draws + 1 } := by
  rw [← offered_cons answer, offer, if_pos ha, cpAnswer_cons answer]

variable {cond : BitVec 4} (hc : s.passes cond = true)
include hc

theorem execMcr_accepted (op1 : BitVec 3) (crn rd : BitVec 4) (op2 : BitVec 3) (crm : BitVec 4) :
    execMcr cond op1 crn rd cp op2 crm s =
      if rd = 15#4 then .refused .r15Operand
      else finish (({ s with cpAnswers := rest, draws := s.draws + 1 } : State).setCpState cp
        (Config.cpMcr cp.toNat (codeWord (.mcr cond op1 crn rd cp op2 crm)) (s.reg rd) (s.cpStateOf cp))) := by
  have number := hasCp_lt ha
  rw [execMcr, if_neg (by bv_omega), if_neg (by bv_omega), ifPassed_passes hc, offer_runs ha answer]
  rfl

theorem execMrc_accepted (op1 : BitVec 3) (crn rd : BitVec 4) (op2 : BitVec 3) (crm : BitVec 4) :
    execMrc cond op1 crn rd cp op2 crm s =
      transferIn rd (Config.cpMrc cp.toNat (codeWord (.mrc cond op1 crn rd cp op2 crm)) (s.cpStateOf cp))
        { s with cpAnswers := rest, draws := s.draws + 1 } := by
  have number := hasCp_lt ha
  rw [execMrc, if_neg (by bv_omega), if_neg (by bv_omega), ifPassed_passes hc, offer_runs ha answer]
  rfl

theorem execCdp_accepted (hr : s.room = true) (op4 crn crd : BitVec 4) (op2 : BitVec 3) (crm : BitVec 4) :
    execCdp cond op4 crn crd cp op2 crm s =
      .next { s with
        cpAnswers := rest
        draws := s.draws + 1
        pc := s.pc + s.ilen
        cpState := s.cpState.setIfInBounds cp.toNat
          (Config.cpCdp cp.toNat (codeWord (.cdp cond op4 crn crd cp op2 crm)) (s.cpStateOf cp)) } := by
  rw [execCdp, ifPassed_passes hc, offer_runs ha answer]
  exact finish_of_same hr rfl rfl rfl

end

/-! The addresses of LDC and STC (R217). -/

theorem cpIndexing_eq (s : State) (p u w : BitVec 1) (rn : BitVec 4) (imm8 : BitVec 8) :
    s.cpIndexing p u w rn imm8 =
      let target := if u = 1#1 then s.reg rn + BitVec.ofNat 32 (4 * imm8.toNat)
        else s.reg rn - BitVec.ofNat 32 (4 * imm8.toNat)
      { address := if p = 1#1 then target else s.reg rn, writeback := if w = 1#1 then some target else none } := by
  have offset := zeroExtend_mul imm8 4
  rw [State.cpIndexing, offset]
  rfl

/-! The words of LDC and STC. -/

theorem cpWords_eq {n : Nat} (low : 1 ≤ n) (high : n ≤ 16) : cpWords n = n := by
  unfold cpWords
  omega

theorem pcBase_allowed {rn : BitVec 4} {wb : BitVec 1} (h : rn ≠ 15#4 ∨ wb = 0#1) : ¬ (rn = 15#4 ∧ wb = 1#1) := by
  rintro ⟨hn, rfl⟩
  exact h.elim (absurd hn) (by decide)

section
variable {s : State} {cond rn cp : BitVec 4} {wb : BitVec 1} {w start target : Word} {ix : State → Indexing} {n : Nat}
  {rest : List CpAnswer} (hc : s.passes cond = true) (ha : s.hasCp cp = true)
  (answer : s.cpAnswers = .accept n :: rest)
include hc ha answer

theorem cpLoad_pcBase (hn : rn = 15#4) (hw : wb = 1#1) : cpLoad cond wb rn cp w ix s = .refused .r15Operand := by
  rw [cpLoad, ifPassed_passes hc, offer_runs ha answer, if_pos ⟨hn, hw⟩]

theorem cpStore_pcBase (hn : rn = 15#4) (hw : wb = 1#1) : cpStore cond wb rn cp w ix s = .refused .r15Operand := by
  rw [cpStore, ifPassed_passes hc, offer_runs ha answer, if_pos ⟨hn, hw⟩]

variable (hs : s.direct = true) (hr : s.room = true) (n1 : 1 ≤ n) (n16 : n ≤ 16) (base : rn ≠ 15#4 ∨ wb = 0#1)
  (index : ix { s with cpAnswers := rest, draws := s.draws + 1 } =
    { address := start, writeback := if wb = 1#1 then some target else none })
include hs hr n1 n16 base index

theorem cpLoad_transfers :
    cpLoad cond wb rn cp w ix s =
      .next { (if wb = 1#1 then s.setReg rn target else s) with
        cpAnswers := rest
        draws := s.draws + 1
        pc := s.pc + s.ilen
        cpState := s.cpState.setIfInBounds cp.toNat (s.cpTaken cp w (wordAddr start) n) } := by
  let t : State := { s with cpAnswers := rest, draws := s.draws + 1 }
  have loaded : cpLoadMany cp w (wordAddr start) n 0 t =
      .done () (t.setCpState cp (t.cpTaken cp w (wordAddr start) n)) :=
    cpLoadMany_letOut (s := t) ha (direct_unbuffered hs) (fun k _ => direct_letsOut (s := t) hs _ _) 0
  rw [cpLoad, ifPassed_passes hc, offer_runs ha answer, if_neg (pcBase_allowed base), cpWords_eq n1 n16, index, loaded]
  change finish (State.writeBase _ rn (if wb = 1#1 then some target else none)) = _
  split_ifs <;> exact finish_of_same hr rfl rfl rfl

theorem cpStore_transfers (hm : s.mem.wf = true) :
    ∃ mem : Memory,
      cpStore cond wb rn cp w ix s =
        .next { (if wb = 1#1 then s.setReg rn target else s) with
          cpAnswers := rest, draws := s.draws + 1, pc := s.pc + s.ilen, mem := mem } ∧
      (∀ k, k < n →
        memWord mem (wordAddr start + BitVec.ofNat 32 (4 * k)) = Config.cpStoreWord cp.toNat w k (s.cpStateOf cp)) ∧
      (∀ a, (∀ k, k < n → wordAddr start + BitVec.ofNat 32 (4 * k) ≠ wordAddr a) →
        memWord mem a = memWord s.mem a) := by
  have place (k : Nat) : pickedAddr (fun _ => true) (wordAddr start) k = wordAddr start + BitVec.ofNat 32 (4 * k) :=
    pickedAddr_all ..
  let t : State := { s with cpAnswers := rest, draws := s.draws + 1 }
  let word (k : Nat) : Word := Config.cpStoreWord cp.toNat w k (s.cpStateOf cp)
  have stored : cpStoreMany (t.cpStoreWords cp w n) (wordAddr start) false t =
      .done () { t with mem := storedMem s.mem (fun _ => true) word (wordAddr start) n } := by
    have list : t.cpStoreWords cp w n = (picked (fun _ => true) n).map word := by
      rw [picked_all]
      rfl
    obtain ⟨join, run⟩ := storeMany_letOut (s := t) (P := fun _ => true) (word := word) (start := wordAddr start)
      (n := n) (direct_unbuffered hs) (fun _ _ _ => direct_letsOut (s := t) hs _ _) false
    rw [cpStoreMany_eq_storeMany _ (wordAddr_idem start), list, ← List.append_nil (List.map _ _), run]
    rfl
  refine ⟨storedMem s.mem (fun _ => true) word (wordAddr start) n, ?_, fun k hk => ?_, fun a other => ?_⟩
  · rw [cpStore, ifPassed_passes hc, offer_runs ha answer, if_neg (pcBase_allowed base),
      cpWords_eq n1 n16, index, stored]
    change finish (State.writeBase _ rn (if wb = 1#1 then some target else none)) = _
    split_ifs <;> exact finish_of_same hr rfl rfl rfl
  · rw [← place]
    exact storedMem_at hm n16 hk rfl
  · refine storedMem_other hm fun k hk _ => ?_
    rw [place, wordAddr_ahead (wordAddr_idem start) k]
    exact other k hk

end

/-- Settles O20: each instruction once its offer is accepted, with the addresses that its form computes. -/
theorem coprocessorTransfers : Obligations.CoprocessorTransfers := by
  constructor
  · intro cond op4 crn rd cp crm op1 op2 n s rest hc hr ha answer t put cdp mcr mrc v
    refine ⟨execCdp_accepted ha answer hc hr .., fun hd => ⟨?_, ?_⟩, fun hd => ⟨?_, ?_⟩⟩
    · refine (execMcr_accepted ha answer hc ..).trans ((if_neg hd).trans ?_)
      exact finish_of_same hr rfl rfl rfl
    · exact (execMrc_accepted ha answer hc ..).trans (transferIn_register hr hd _ rfl rfl rfl)
    · exact (execMcr_accepted ha answer hc ..).trans (if_pos hd)
    · subst hd
      exact (execMrc_accepted ha answer hc ..).trans (transferIn_flags hr _ rfl rfl rfl)
  · intro cond rn crd cp u l w imm8 n s rest hc hs hr hm ha answer n1 n16 base up down target after word
    simp only [List.forall_mem_cons, List.not_mem_nil, false_implies, implies_true, and_true]
    have index (p u w : BitVec 1) := cpIndexing_eq { s with cpAnswers := rest, draws := s.draws + 1 } p u w rn imm8
    exact ⟨⟨⟨fun b => cpLoad_transfers hc ha answer hs hr n1 n16 b (index 1#1 u w), cpLoad_pcBase hc ha answer⟩,
        ⟨fun b => cpLoad_transfers hc ha answer hs hr n1 n16 b (index 0#1 1#1 w), cpLoad_pcBase hc ha answer⟩,
        fun b => cpLoad_transfers hc ha answer hs hr n1 n16 b (index 0#1 0#1 1#1),
        fun hn _ => cpLoad_pcBase hc ha answer hn rfl⟩,
      ⟨fun b => cpStore_transfers hc ha answer hs hr n1 n16 b (index 1#1 u w) hm, cpStore_pcBase hc ha answer⟩,
      ⟨fun b => cpStore_transfers hc ha answer hs hr n1 n16 b (index 0#1 1#1 w) hm, cpStore_pcBase hc ha answer⟩,
      fun b => cpStore_transfers hc ha answer hs hr n1 n16 b (index 0#1 0#1 1#1) hm,
      fun hn _ => cpStore_pcBase hc ha answer hn rfl⟩

end Sys2Proof.Machine
end
